-- ==== Sys2Proof/Word.lean ====
section
/-! DEFINITION. Bytes, index types and fixed tables of records. -/

namespace Sys2Proof

/-- A byte of a frame or of a configuration image. -/
abbrev Byte := BitVec 8

/-- Party link ports PL0 to PL5. -/
abbrev PortId := Fin 6
/-- Supervised loops LP0 to LP47. -/
abbrev LoopId := Fin 48
/-- Zones Z0 to Z63. -/
abbrev ZoneId := Fin 64
/-- Floor indices 0 to 31. -/
abbrev FloorId := Fin 32
/-- Lift banks: 0 is bank A, 1 is bank B. -/
abbrev BankId := Fin 2
/-- Car slots C0 to C11. -/
abbrev CarId := Fin 12
/-- Door points D0 to D127. -/
abbrev DoorId := Fin 128
/-- Door supply groups G0 to G3. -/
abbrev GroupId := Fin 4
/-- Speaker zones SZ0 to SZ35. -/
abbrev SpeakerId := Fin 36
/-- Amplifier channels AC0 to AC3. -/
abbrev ChannelId := Fin 4

/-- A table of `n` records given by its rows. -/
def tab {α : Type} {n : Nat} (f : Fin n → α) : Vector α n := Vector.ofFn f

/-- The row of a table at a number that may lie outside it. -/
def rowAt {α : Type} {n : Nat} (v : Vector α n) (i : Nat) : Option α :=
  if h : i < n then some v[i] else none

/-- The table with row `i` replaced by `f` of itself. -/
def modifyRow {α : Type} {n : Nat} (v : Vector α n) (i : Fin n) (f : α → α) : Vector α n :=
  v.set i.val (f v[i]) i.isLt

/-- The number as an index below `n`, if it is one. -/
def toIndex (n i : Nat) : Option (Fin n) :=
  if h : i < n then some ⟨i, h⟩ else none

/-- The low byte of a number. -/
def byteOf (n : Nat) : Byte := BitVec.ofNat 8 n

/-- Two bytes, high byte first (00_scope.md, Byte order). -/
def bytes2 (n : Nat) : List Byte := [byteOf (n / 256), byteOf n]

/-- Four bytes, high byte first: the low 32 bits of a number. -/
def bytes4 (n : Nat) : List Byte :=
  [byteOf (n / 16777216), byteOf (n / 65536), byteOf (n / 256), byteOf n]

/-- 1 for yes, 0 for no. -/
def flagByte (b : Bool) : Byte := if b then 1 else 0

/-- A count one higher that stays at its largest value. -/
def saturate (top n : Nat) : Nat := min top (n + 1)

end Sys2Proof
end

