-- ==== Sys2Proof/Syntax.lean ====
section
/-! DEFINITION. The commands of the part: one constructor per row of spec/opcode_table.json, and the types of their
operands. -/

namespace Sys2Proof

/-- The blocks that own state and exchange events (00_scope.md, Blocks). -/
inductive Agent where
  | lsc | rge | lfc | dsq | cue | chr | tnq | trl | cfs
  | port (p : PortId)
  deriving DecidableEq, Repr

/-- The bands of a loop, in the order of 1.1 (R3). -/
inductive Band where
  | short | alarm | normal | openLine
  deriving DecidableEq, Repr

/-- What a zone's source says now (R10). -/
inductive Condition where
  | clear | alarm | fault
  deriving DecidableEq, Repr

/-- The phases of a floor, in rising order (R22). -/
inductive Phase where
  | quiet | alert | evacuate
  deriving DecidableEq, Repr

/-- Party presence, in the order of 9.3. -/
inductive Presence where
  | absent | attaching | present | lost
  deriving DecidableEq, Repr

/-- The live sources (R132). -/
inductive LiveSourceId where
  | liveC | liveP
  deriving DecidableEq, Repr, Inhabited

/-- The priorities of a fire slot (6.4). -/
inductive FirePriority where
  | evac | alert
  deriving DecidableEq, Repr

/-- An effective demand up to the equality of R106; a programme is named by it (R110). -/
inductive Demand where
  | fire (cue : Nat) (prio : FirePriority)
  | live (source : LiveSourceId)
  | tenant (ticket : Nat) (cue : Nat)
  deriving DecidableEq, Repr

/-- What CUE hands the Channel Router about a programme (R110): that it has formed, that its demand set or demand instant
has changed, or that its demand set has become empty. -/
inductive ProgrammeNews where
  | formed | changed | ended
  deriving DecidableEq, Repr

/-- A write of a zone's live slot (R109, R132, R133). -/
inductive LiveWrite where
  | put (source : LiveSourceId)
  | erase (source : LiveSourceId)
  deriving DecidableEq, Repr

/-- A write of a zone's tenant slot (R109, R141, R142). -/
inductive TenantWrite where
  | put (ticket : Nat) (cue : Nat)
  | erase (ticket : Nat)
  deriving DecidableEq, Repr

/-- The eleven trouble kinds, in the order of 9.2. -/
inductive TroubleKind where
  | loopOpen | loopShort | zoneFault | zoneIsolated | verifyBypassed | partyLost | doorFailed | supplyLimit
  | takeoverActive | channelUnderrun | memoryReadFault
  deriving DecidableEq, Repr

/-- What RGE delivers to CFS (R45, R172). -/
inductive CfsNews where
  | prealarm | alarm
  deriving DecidableEq, Repr

/-- The five receive errors of R163. -/
inductive ReceiveErrorKind where
  | framing | parity | overrun | check | length
  deriving DecidableEq, Repr

/-- What makes a cold start outside a commit (R170). -/
inductive StartCause where
  | powerUp | restartInput
  deriving DecidableEq, Repr

/-- What the EEPROM gives to the load of a cold start (R169, R171): the bytes it holds; nothing that can be read; or bytes
that were placed in it from outside before this start (fewer than 4096 of them give an image that is not sound). -/
inductive EepromRead where
  | held
  | unreadable
  | placed (image : List Byte)
  deriving DecidableEq, Repr

/-- A character as a port hears it (R158): the nine bits after the start bit in the order of their arrival (bit 0 the first),
and the three samples of the stop bit. -/
structure LineChar where
  bits : BitVec 9
  stop : BitVec 3
  deriving DecidableEq, Repr

/-- A character on the line of a port, and how far, in µs, the end of its stop bit lies within the present ms (log entry 10). -/
structure Heard where
  char : LineChar
  us : Fin 1000
  deriving DecidableEq, Repr

/-- A port, and how far, in µs, the beginning or the end of its answer lies within the present ms (log entry 10). -/
structure AnswerEdge where
  port : PortId
  us : Fin 1000
  deriving DecidableEq, Repr

/-- The commands: one constructor for each row of spec/opcode_table.json. A request carries the port it is taken at and the
bytes that follow its kind, its command code or its sub-kind (10.8); a delivered event carries its payload; a character carries
what was on the line. -/
inductive Instr where
  -- Supervised loops and zones
  | scanStart
  | loopConversion (l : LoopId) (n : Fin 1024)
  | zoneConditionArrival (z : ZoneId) (c : Condition)
  | zoneReport (p : PortId) (body : List Byte)
  | verificationTimerExpiry (z : ZoneId)
  -- The fire regime
  | expansionTimerExpiry
  | acknowledge (p : PortId) (args : List Byte)
  | silence (p : PortId) (args : List Byte)
  | resound (p : PortId) (args : List Byte)
  | evacuateAll (p : PortId) (args : List Byte)
  | cancelEvacuateAll (p : PortId) (args : List Byte)
  | holdExpansion (p : PortId) (args : List Byte)
  | releaseExpansion (p : PortId) (args : List Byte)
  | takeManualControl (p : PortId) (args : List Byte)
  | setFloorPhase (p : PortId) (args : List Byte)
  | returnToAutomatic (p : PortId) (args : List Byte)
  | regimeReset (p : PortId) (args : List Byte)
  | isolateZone (p : PortId) (args : List Byte)
  | restoreZone (p : PortId) (args : List Byte)
  | unknownCommandCode (p : PortId) (code : Byte) (args : List Byte)
  | rgePanelLoss (p : PortId)
  | rgeCommandStationLoss (p : PortId)
  | changeCounterIncrease (source : Agent)
  | reentryImpairedWrite (f : FloorId) (value : Bool)
  | verifyBypassedRemoval (z : ZoneId)
  -- Lift recall
  | carReport (p : PortId) (body : List Byte)
  | lfcZoneAlarm (z : ZoneId)
  | lfcAlarmEntry
  | lfcRegimeReset
  | lfcPresenceChange (p : PortId) (presence : Presence)
  | shutdownTimerExpiry (b : BankId)
  | lampHalfCycle (b : BankId)
  | recallBank (p : PortId) (args : List Byte)
  | cancelRecall (p : PortId) (args : List Byte)
  | authorisePhaseII (p : PortId) (args : List Byte)
  | withdrawPhaseII (p : PortId) (args : List Byte)
  -- Stair and fire door points, door supply groups
  | dsqPhaseChange (floors : List (FloorId × Phase))
  | dsqListAppend (f : FloorId)
  | dsqRegimeReset
  | releaseAllDoors (p : PortId) (args : List Byte)
  | pacingTimerExpiry (g : GroupId)
  | zeroGapAttempt (g : GroupId)
  | rampEnd (d : DoorId)
  | doorVerifyTimerExpiry (d : DoorId)
  | dsqFeedbackBand (l : LoopId) (b : Band)
  | takeoverRequestAsserted (g : GroupId)
  | takeoverRequestReleased (g : GroupId)
  | takeoverDriveChange (g : GroupId) (level : Bool)
  -- Cues and chains
  | cuePhaseChange (floors : List (FloorId × Phase))
  | cueAlarmEntry
  | cueSilenceChange
  | cueRegimeReset
  | liveSlotWrite (z : SpeakerId) (w : LiveWrite)
  | tenantSlotWrite (z : SpeakerId) (w : TenantWrite)
  -- Amplifier channels and speaker routing
  | programmeHanded (d : Demand) (news : ProgrammeNews) (instant : Nat)
  | tenantProgrammeHanded (ticket : Nat) (cue : Nat) (instant : Nat)
  | chrAlarmEntry
  | chrRegimeReset
  | chrListAppend (f : FloorId)
  | chrPortLoss (p : PortId)
  | warmUpExpiry (c : ChannelId)
  | idleTimerExpiry (c : ChannelId)
  | blockBoundary (c : ChannelId)
  | memoryReadComplete
  | memoryReadFailed
  | liveBlockComplete (source : LiveSourceId)
  | liveStart (p : PortId) (args : List Byte)
  | liveStop (p : PortId) (args : List Byte)
  | monitorSelect (p : PortId) (args : List Byte)
  | underrunRemoval (c : ChannelId)
  -- Tenant announcements
  | announceTenant (p : PortId) (args : List Byte)
  | announceCancel (p : PortId) (args : List Byte)
  | unknownAnnounceSubkind (p : PortId) (sub : Byte) (args : List Byte)
  | agingTimerExpiry (ticket : Nat)
  | tnqChannelFree
  | tenantRefusal (ticket : Nat)
  | tenantCompletion (ticket : Nat)
  | tenantPreEmption (ticket : Nat)
  | tenantProgrammeEmptied (ticket : Nat)
  | tnqAlarmFlush
  -- Troubles and party supervision
  | troubleRaise (k : TroubleKind) (subject : Nat)
  | troubleClear (k : TroubleKind) (subject : Nat)
  | trlAcknowledge
  | supervisionTimerExpiry (p : PortId)
  | startGraceEnd
  -- Party links
  | poll (p : PortId) (body : List Byte)
  | read (p : PortId) (body : List Byte)
  | unknownRequestKind (p : PortId) (kind : Byte) (body : List Byte)
  | addressCharacter (p : PortId) (b : Heard)
  | frameStart (p : PortId) (b : Heard)
  | receiveError (p : PortId) (e : ReceiveErrorKind) (b : Heard)
  | answerBegin (p : AnswerEdge)
  | answerSent (p : AnswerEdge)
  -- Configuration, start and restart
  | configureWrite (p : PortId) (args : List Byte)
  | configureReadBack (p : PortId) (args : List Byte)
  | configureCommit (p : PortId) (args : List Byte)
  | configureDiscard (p : PortId) (args : List Byte)
  | unknownConfigureSubkind (p : PortId) (sub : Byte) (args : List Byte)
  | eepromWriteEnd (written : Bool)
  | configurationKeyOn
  | configurationKeyOff
  | cfsRegimeDelivery (news : CfsNews)
  | coldStart (cause : StartCause) (eeprom : EepromRead)
  | warmRestart
  | dataCharacter (p : PortId) (b : Heard)
  deriving DecidableEq, Repr

end Sys2Proof
end

