-- ==== Sys2Proof/Config.lean ====
section
/-! DEFINITION. The configured values of the part (what the configuration image gives), and the values the manual leaves
open, which are constants without a body. -/

namespace Sys2Proof

/-- The roles of a loop, in the order of 1.1 (R6). -/
inductive LoopRole where
  | zoneInput | doorFeedback | keyswitch | unused
  deriving DecidableEq, Repr, Inhabited

/-- A threshold set (R3). -/
structure ThresholdSet where
  t1 : Nat
  t2 : Nat
  t3 : Nat
  hysteresis : Nat
  deriving DecidableEq, Repr, Inhabited

structure LoopCfg where
  role : LoopRole
  set : Nat
  deriving DecidableEq, Repr, Inhabited

/-- The source of a zone (1.4). -/
inductive Source where
  | loop (n : Nat)
  | link (port point : Nat)
  deriving DecidableEq, Repr, Inhabited

inductive ZoneKind where
  | detector | callPoint | flowSwitch | lobbyDetector | shaftDetector | shaftSprinkler
  deriving DecidableEq, Repr, Inhabited

/-- The configured fields of a zone record (1.4). -/
structure ZoneCfg where
  configured : Bool
  source : Source
  floor : Nat
  kind : ZoneKind
  flagA : Bool
  flagB : Bool
  verify : Bool
  deriving DecidableEq, Repr, Inhabited

/-- The configured fields of a floor record (2.1, 6.3). -/
structure FloorCfg where
  label : String
  alwaysEvacuate : Bool
  alertCue : Option Nat
  evacuateCue : Option Nat
  deriving DecidableEq, Repr, Inhabited

/-- The configured values of a lift bank (3.1). -/
structure BankCfg where
  configured : Bool
  cars : Nat
  lowest : Nat
  highest : Nat
  designated : Nat
  alternate : Nat
  recallOnGeneral : Bool
  deriving DecidableEq, Repr, Inhabited

inductive DoorKind where
  | strike | magnet
  deriving DecidableEq, Repr, Inhabited

/-- The configured fields of a door point record (4.1). -/
structure DoorCfg where
  configured : Bool
  kind : DoorKind
  floor : Nat
  stair : Option Nat
  group : Nat
  feedback : Option Nat
  weight : Nat
  hold : Nat
  deriving DecidableEq, Repr, Inhabited

inductive PacingMode where
  | max | sum
  deriving DecidableEq, Repr, Inhabited

/-- The configured values of a supply group (5.1). The mode is none where the image names neither MAX nor SUM, which a
commit refuses (R85). -/
structure GroupCfg where
  gMin : Nat
  scale : Nat
  ratio : Nat
  mode : Option PacingMode
  budget : Nat
  deriving DecidableEq, Repr, Inhabited

inductive LinkCondition where
  | always | liftsUnavailable | reentryImpaired | notSilenced
  deriving DecidableEq, Repr, Inhabited

/-- A cue record (6.2). A repeat count of 0 is continuous. -/
structure CueCfg where
  configured : Bool
  start : Nat
  length : Nat
  repeats : Nat
  gap : Nat
  condition : LinkCondition
  nextTrue : Option Nat
  nextFalse : Option Nat
  report : Bool
  deriving DecidableEq, Repr, Inhabited

/-- A stair: whether its speaker zone is configured, and its STAIR cue (6.3). -/
structure StairCfg where
  configured : Bool
  cue : Option Nat
  deriving DecidableEq, Repr, Inhabited

/-- What an area is joined to (R127). -/
inductive AreaJoin where
  | channel (c : ChannelId)
  | live (source : LiveSourceId)
  deriving DecidableEq, Repr, Inhabited

structure AreaCfg where
  size : Nat
  join : Option AreaJoin
  deriving DecidableEq, Repr, Inhabited

/-- The roles of a port, in the order of R157. -/
inductive PortRole where
  | commandStation | firePanel | pagingConsole | liftGroup | unused
  deriving DecidableEq, Repr, Inhabited

inductive PortMode where
  | addressed | direct
  deriving DecidableEq, Repr, Inhabited

/-- The configured values of a port (R157); the bank is used by a LIFT GROUP port. -/
structure PortCfg where
  role : PortRole
  mode : PortMode
  baud : Nat
  address : Nat
  tSup : Nat
  bank : Option BankId
  deriving DecidableEq, Repr, Inhabited

/-- Every configured value of the part (11.1): T_v, T_p, T_sd, T_idle and T_age in s, T_dv and T_w in ms. -/
structure Configuration where
  tVerify : Nat
  tPhase : Nat
  alertSpan : Nat
  tShutdown : Nat
  tDoorVerify : Nat
  tWarmUp : Nat
  tIdle : Nat
  tAge : Nat
  debounce : Nat
  topFloor : Nat
  memorySize : Nat
  sets : Vector ThresholdSet 4
  loops : Vector LoopCfg 48
  zones : Vector ZoneCfg 64
  floors : Vector FloorCfg 32
  banks : Vector BankCfg 2
  doors : Vector DoorCfg 128
  groups : Vector GroupCfg 4
  cues : Vector CueCfg 96
  stairs : Vector StairCfg 4
  areas : Vector AreaCfg 8
  ports : Vector PortCfg 6
  deriving DecidableEq, Repr, Inhabited

/-- The configuration under which nothing is configured: what the part holds in CONFIG FAULT, where it has no image in
use and its blocks hold no tables (R171). The timers stand at the defaults of 00_scope.md. -/
def Configuration.blank : Configuration where
  tVerify := 20
  tPhase := 120
  alertSpan := 4
  tShutdown := 60
  tDoorVerify := 2000
  tWarmUp := 400
  tIdle := 60
  tAge := 300
  debounce := 3
  topFloor := 0
  memorySize := 1
  sets := Vector.replicate 4 ⟨120, 380, 760, 12⟩
  loops := Vector.replicate 48 ⟨.unused, 0⟩
  zones := Vector.replicate 64 ⟨false, .loop 0, 0, .detector, false, false, false⟩
  floors := Vector.replicate 32 ⟨"", false, none, none⟩
  banks := Vector.replicate 2 ⟨false, 1, 0, 0, 0, 0, false⟩
  doors := Vector.replicate 128 ⟨false, .strike, 0, none, 0, none, 1, 0⟩
  groups := Vector.replicate 4 ⟨0, 0, 256, some .max, 0⟩
  cues := Vector.replicate 96 ⟨false, 0, 1, 1, 0, .always, none, none, false⟩
  stairs := Vector.replicate 4 ⟨false, none⟩
  areas := Vector.replicate 8 ⟨0, none⟩
  ports := Vector.replicate 6 ⟨.unused, .direct, 9600, 1, 3000, none⟩

/-- The items of a configuration image that a commit checks (R174). -/
inductive ConfigItem where
  | formatVersion
  | tVerify | tPhase | alertSpan | tShutdown | tDoorVerify | tWarmUp | tIdle | tAge | debounce | topFloor | memorySize
  | thresholdSet (i : Fin 4)
  | loop (l : LoopId)
  | zone (z : ZoneId)
  | floor (f : FloorId)
  | bank (b : BankId)
  | door (d : DoorId)
  | group (g : GroupId)
  | cue (q : Fin 96)
  | stair (s : Fin 4)
  | area (a : Fin 8)
  | port (p : PortId)
  deriving DecidableEq, Repr, Inhabited

/-- DESIGN CHOICE (log entry 3), safe. The manual gives the order of the configured values in bytes 4 to 4095 of the image
and not their places (11.1): the configuration that these bytes stand for is a free value. -/
opaque Config.readImage (values : List (Nat × Byte)) : Configuration

/-- DESIGN CHOICE (log entry 4), safe. The byte offset at which an item stands in the image (R174). -/
opaque Config.itemOffset (item : ConfigItem) : Nat

/-- DESIGN CHOICE (log entry 12), safe. The offset bytes of a CONFIGURE RESULT for which the manual gives no offset (R173,
R174): by the sub-kind, the reason code and the bytes after the sub-kind. -/
opaque Config.openOffset (sub reason : Byte) (args : List Byte) : Nat

/-- DESIGN CHOICE (log entry 23), safe. The gap of a group whose mode is neither MAX nor SUM, from G_min and I_ms. -/
opaque Config.unstatedGap (gMin whole : Nat) : Nat

end Sys2Proof
end

