-- ==== Sys2Proof/WellFormed.lean ====
section
/-! DEFINITION. Which commands are well formed: the checks that the types of the operands do not make. -/

namespace Sys2Proof

/-- The request kinds of 10.8. -/
def knownKind (k : Byte) : Bool := 1 ≤ k.toNat && k.toNat ≤ 7

/-- The command codes of 10.8. -/
def knownCommand (code : Byte) : Bool := 1 ≤ code.toNat && code.toNat ≤ 19

/-- The sub-kinds of ANNOUNCE and of CONFIGURE (10.8, R173). -/
def knownSub (sub : Byte) : Bool := 1 ≤ sub.toNat && sub.toNat ≤ 4

/-- A frame body has at most 56 bytes (R161). -/
def bodyFits (body : List Byte) : Bool := body.length ≤ 56

/-- The bytes after a command code or a sub-kind fit into a frame body. -/
def argsFit (args : List Byte) : Bool := args.length ≤ 55

/-- A trouble's subject lies in the range its kind names (9.1). -/
def subjectFits (k : TroubleKind) (n : Nat) : Bool :=
  match k with
  | .loopOpen | .loopShort => n < 48
  | .zoneFault | .zoneIsolated | .verifyBypassed => n < 64
  | .partyLost => n < 6
  | .doorFailed => n < 128
  | .supplyLimit | .takeoverActive => n < 4
  | .channelUnderrun | .memoryReadFault => n < 4

/-- A phase change names each floor once, in rising order. -/
def floorsRise (floors : List (FloorId × Phase)) : Bool :=
  (floors.map (·.1.val)).Pairwise (· < ·)

/-- A cue number (00_scope.md, Capacities). -/
def cueFits (q : Nat) : Bool := q < 96

/-- A ticket number (8.1). -/
def ticketFits (t : Nat) : Bool := t < 256

def demandFits (d : Demand) : Bool :=
  match d with
  | .fire q _ => cueFits q
  | .live _ => true
  | .tenant t q => ticketFits t && cueFits q

def tenantWriteFits (w : TenantWrite) : Bool :=
  match w with
  | .put t q => ticketFits t && cueFits q
  | .erase t => ticketFits t

/-- An image placed in the EEPROM has at most its 4096 bytes (11.1). -/
def eepromFits (e : EepromRead) : Bool :=
  match e with
  | .placed image => image.length ≤ 4096
  | .held | .unreadable => true

/-- The well-formedness of a command. -/
def Instr.wf (i : Instr) : Bool :=
  match i with
  | .scanStart | .loopConversion _ _ | .zoneConditionArrival _ _ => true
  | .zoneReport _ body => bodyFits body
  | .verificationTimerExpiry _ | .expansionTimerExpiry => true
  | .acknowledge _ args | .silence _ args | .resound _ args | .evacuateAll _ args | .cancelEvacuateAll _ args
  | .holdExpansion _ args | .releaseExpansion _ args | .takeManualControl _ args | .setFloorPhase _ args
  | .returnToAutomatic _ args | .regimeReset _ args | .isolateZone _ args | .restoreZone _ args => argsFit args
  | .unknownCommandCode _ code args => !knownCommand code && argsFit args
  | .rgePanelLoss _ | .rgeCommandStationLoss _ => true
  | .changeCounterIncrease a => a != .rge
  | .reentryImpairedWrite _ _ | .verifyBypassedRemoval _ => true
  | .carReport _ body => bodyFits body
  | .lfcZoneAlarm _ | .lfcAlarmEntry | .lfcRegimeReset | .lfcPresenceChange _ _ | .shutdownTimerExpiry _
  | .lampHalfCycle _ => true
  | .recallBank _ args | .cancelRecall _ args | .authorisePhaseII _ args | .withdrawPhaseII _ args => argsFit args
  | .dsqPhaseChange floors => floorsRise floors
  | .dsqListAppend _ | .dsqRegimeReset => true
  | .releaseAllDoors _ args => argsFit args
  | .pacingTimerExpiry _ | .zeroGapAttempt _ | .rampEnd _ | .doorVerifyTimerExpiry _ | .dsqFeedbackBand _ _
  | .takeoverRequestAsserted _ | .takeoverRequestReleased _ | .takeoverDriveChange _ _ => true
  | .cuePhaseChange floors => floorsRise floors
  | .cueAlarmEntry | .cueSilenceChange | .cueRegimeReset | .liveSlotWrite _ _ => true
  | .tenantSlotWrite _ w => tenantWriteFits w
  | .programmeHanded d _ _ => demandFits d
  | .tenantProgrammeHanded t q _ => ticketFits t && cueFits q
  | .chrAlarmEntry | .chrRegimeReset | .chrListAppend _ | .chrPortLoss _ | .warmUpExpiry _ | .idleTimerExpiry _
  | .blockBoundary _ | .memoryReadComplete | .memoryReadFailed | .liveBlockComplete _ => true
  | .liveStart _ args | .liveStop _ args | .monitorSelect _ args => argsFit args
  | .underrunRemoval _ => true
  | .announceTenant _ args | .announceCancel _ args => argsFit args
  | .unknownAnnounceSubkind _ sub args => !knownSub sub && argsFit args
  | .agingTimerExpiry t => ticketFits t
  | .tnqChannelFree => true
  | .tenantRefusal t | .tenantCompletion t | .tenantPreEmption t | .tenantProgrammeEmptied t => ticketFits t
  | .tnqAlarmFlush => true
  | .troubleRaise k n | .troubleClear k n => subjectFits k n
  | .trlAcknowledge | .supervisionTimerExpiry _ | .startGraceEnd => true
  | .poll _ body | .read _ body => bodyFits body
  | .unknownRequestKind _ kind body => !knownKind kind && bodyFits body
  | .addressCharacter _ _ | .frameStart _ _ | .receiveError _ _ _ | .answerBegin _ | .answerSent _ => true
  | .configureWrite _ args | .configureReadBack _ args | .configureCommit _ args | .configureDiscard _ args =>
    argsFit args
  | .unknownConfigureSubkind _ sub args => !knownSub sub && argsFit args
  | .eepromWriteEnd _ | .configurationKeyOn | .configurationKeyOff | .cfsRegimeDelivery _ => true
  | .coldStart _ eeprom => eepromFits eeprom
  | .warmRestart | .dataCharacter _ _ => true

end Sys2Proof
end

