-- ==== Sys2Proof/Machine/State.lean ====
section
/-! DEFINITION. The state of the part: every piece of state the manual gives its blocks, the queue of waiting commands, and
the state after reset. Plain data throughout. -/

namespace Sys2Proof.Machine

/-- Reasons for a fault. No meaning answers with one: the manual describes no event that stops the part. The constructor
stands for the interface and is never raised (safe). -/
inductive Fault where
  | none
  deriving DecidableEq, Repr

/-- Reasons for a refusal. -/
inductive Refusal where
  /-- An arm of `exec` whose command has no meaning yet, by its mnemonic (safe). No arm is left so. -/
  | notModelled (mnemonic : String)
  deriving DecidableEq, Repr

/-! ## Loop Scanner -/

/-- The state of one loop (1.1). `seeded` is whether it was converted since the start (R2, R8). -/
structure LoopRec where
  count : Nat
  filtered : Nat
  seeded : Bool
  stable : Band
  pendingBand : Band
  pendingCount : Nat
  deriving DecidableEq, Repr

/-- The Loop Scanner. `position` is the loop that the scan under way converts next, 48 when none is under way (R1). -/
structure Lsc where
  loops : Vector LoopRec 48
  nextScan : Nat
  position : Nat
  deriving DecidableEq, Repr

/-! ## Zone Table and Regime Engine -/

/-- The states of a zone, in the order of 1.4. -/
inductive ZoneState where
  | normal | prealarm | alarm | fault | isolated
  deriving DecidableEq, Repr

/-- The working fields of a zone record (1.4); the timer is its expiry instant. -/
structure ZoneRec where
  state : ZoneState
  condition : Condition
  unconfirmed : Nat
  timer : Option Nat
  deriving DecidableEq, Repr

/-- The working fields of a floor record (2.1). -/
structure FloorRec where
  phase : Phase
  alarmed : Nat
  prealarmed : Nat
  origin : Bool
  impaired : Bool
  entryTime : Nat
  deriving DecidableEq, Repr

inductive RegimeState where
  | normal | prealarm | alarm
  deriving DecidableEq, Repr

/-- The Regime Engine (chapter 2). A holding is absent or its setter level (R29). The regime elapsed time is
`elapsedBase` seconds at the instant `elapsedFrom` and counts on from there while the regime is ALARM (R28). -/
structure Rge where
  zones : Vector ZoneRec 64
  floors : Vector FloorRec 32
  firstAlarms : List FloorId
  regime : RegimeState
  acknowledged : Bool
  silence : Option Nat
  evacuateAll : Option Nat
  expansionHold : Option Nat
  manual : Option Nat
  stepCount : Nat
  elapsedBase : Nat
  elapsedFrom : Nat
  expansionTimer : Option Nat
  changeCounter : BitVec 16
  deriving DecidableEq, Repr

/-! ## Lift Coordinator -/

inductive Motion where
  | up | down | stopped
  deriving DecidableEq, Repr

inductive CarDoors where
  | openDoors | closed | moving
  deriving DecidableEq, Repr

inductive CarMode where
  | normal | independent | outOfService | recalling | atRecallLanding | phaseII
  deriving DecidableEq, Repr

/-- An entry of the Car Table (3.2). -/
structure CarRec where
  position : Nat
  motion : Motion
  doors : CarDoors
  mode : CarMode
  stale : Bool
  deriving DecidableEq, Repr

/-- The orders of a bank, in rising order (3.3). -/
inductive LiftOrder where
  | none | recall | shutdown | tripped
  deriving DecidableEq, Repr

inductive Landing where
  | designated | alternate
  deriving DecidableEq, Repr

/-- The reason set of a bank (3.3). -/
structure Reasons where
  lobby : Bool
  shaft : Bool
  sprinkler : Bool
  general : Bool
  manual : Bool
  deriving DecidableEq, Repr

/-- A Bank Order record (3.3). `flashing` is the warning lamp; `lampOn` and `lampNext` are the half in which the LAMP
contact stands and the instant at which it changes (R59). -/
structure BankRec where
  order : LiftOrder
  landing : Landing
  flashing : Bool
  phaseII : Bool
  reasons : Reasons
  timer : Option Nat
  link : Presence
  lampOn : Bool
  lampNext : Option Nat
  deriving DecidableEq, Repr

structure Lfc where
  cars : Vector CarRec 12
  banks : Vector BankRec 2
  deriving DecidableEq, Repr

/-! ## Door Sequencer -/

/-- The state of a door point (4.1). ENERGISING carries its sub-phase: `ramp` with the instant at which the ramp ends (R77),
`verify` with the expiry of the verify timer (R78). An unconfigured point has no state (R70). -/
inductive DoorState where
  | absent
  | secured | queued | ramp (ends : Nat) | verify (expiry : Nat) | released | failed
  | holding | dropped
  deriving DecidableEq, Repr

/-- An entry of a release queue names one strike and holds its class (4.4). -/
structure QueueEntry where
  door : DoorId
  cls : Nat
  deriving DecidableEq, Repr

/-- The takeover states, in the order of 5.6. -/
inductive Takeover where
  | owned | handingOver | taken | reacquiring
  deriving DecidableEq, Repr

/-- A supply group: its release queue (4.4), pacing state (5.2), pacing timer (R86), a further attempt due at this instant
(R89), takeover state and the levels of its two input lines (5.6). -/
structure GroupRec where
  queue : List QueueEntry
  carry : Nat
  nextRelease : Nat
  holdSum : Nat
  limited : Bool
  pacing : Option Nat
  zeroGap : Bool
  takeover : Takeover
  request : Bool
  drive : Bool
  deriving DecidableEq, Repr

structure Dsq where
  doors : Vector DoorState 128
  groups : Vector GroupRec 4
  deriving DecidableEq, Repr

/-! ## Cue Engine -/

structure FireSlot where
  cue : Nat
  prio : FirePriority
  instant : Nat
  complete : Bool
  deriving DecidableEq, Repr

structure LiveSlot where
  source : LiveSourceId
  instant : Nat
  deriving DecidableEq, Repr

structure TenantSlot where
  ticket : Nat
  cue : Nat
  instant : Nat
  complete : Bool
  deriving DecidableEq, Repr

/-- A Zone Demand record (6.4). -/
structure ZoneDemand where
  fire : Option FireSlot
  live : Option LiveSlot
  tenant : Option TenantSlot
  deriving DecidableEq, Repr

/-- The position of a chain in its current cue: a block of the played segment or a block of the gap, counted from 0. -/
inductive ChainPos where
  | segment (i : Nat)
  | gap (j : Nat)
  deriving DecidableEq, Repr

/-- The chain working state of a channel that has a chain (6.6); `remaining` none is continuous. -/
structure Chain where
  cue : Nat
  remaining : Option Nat
  pos : ChainPos
  started : Nat
  deriving DecidableEq, Repr

/-- A finished mark (R116). -/
structure FinishedMark where
  cue : Nat
  startCue : Nat
  instant : Nat
  deriving DecidableEq, Repr

structure Cue where
  zones : Vector ZoneDemand 36
  chains : Vector (Option Chain) 4
  finished : Vector (Option FinishedMark) 4
  deriving DecidableEq, Repr

/-! ## Channel Router -/

inductive ChannelState where
  | standby | waking | ready | playing
  deriving DecidableEq, Repr

/-- A programme as the Channel Router was handed it. -/
structure Programme where
  demand : Demand
  instant : Nat
  deriving DecidableEq, Repr

/-- A programme that holds a channel, with its grant instant. -/
structure Grant where
  prog : Programme
  granted : Nat
  deriving DecidableEq, Repr

inductive SlotStatus where
  | filling | complete | faulted
  deriving DecidableEq, Repr

/-- A slot of a channel's area that is not empty: the block it holds or is being filled with (R127). -/
structure Slot where
  block : Nat
  status : SlotStatus
  deriving DecidableEq, Repr

/-- What an audio output carries in the block in progress: silence, a block of the message flash, or the `k`th block a live
source completed since it became LIVE (R130, R131, R134). -/
inductive Audio where
  | silence
  | flashBlock (block : Nat)
  | liveBlock (source : LiveSourceId) (k : Nat)
  deriving DecidableEq, Repr

/-- An amplifier channel (chapter 7). `slots` are the non-empty slots of its area in the order of R128; `headInPlay` is
whether the first of them holds the block in progress; `boundary` is the next block boundary (R120); `livePlayed` are the
blocks of the live area that the programme has played since it began, newest first (R134). -/
structure ChannelRec where
  state : ChannelState
  grant : Option Grant
  begun : Bool
  warmUp : Option Nat
  idle : Option Nat
  zoneSet : List SpeakerId
  joins : List SpeakerId
  underrun : Bool
  slots : List Slot
  headInPlay : Bool
  boundary : Option Nat
  livePlayed : List Nat
  audio : Audio
  deriving DecidableEq, Repr

/-- A live source (7.5): `blocks` are the blocks it completed since it became LIVE, `nextBlock` the instant at which the
next is complete (R134). -/
structure LiveRec where
  live : Bool
  claimed : List SpeakerId
  since : Nat
  blocks : Nat
  nextBlock : Nat
  deriving DecidableEq, Repr

/-- The read in progress at the memory read port (R129). -/
structure FlashRead where
  channel : ChannelId
  started : Nat
  discarded : Bool
  deriving DecidableEq, Repr

/-- The selection of the monitor output (R135). -/
inductive MonitorSelection where
  | off
  | channel (c : ChannelId)
  | followOrigin
  deriving DecidableEq, Repr

structure Chr where
  channels : Vector ChannelRec 4
  waiting : List Programme
  idlingSuspended : Bool
  lastServed : ChannelId
  reading : Option FlashRead
  liveC : LiveRec
  liveP : LiveRec
  selection : MonitorSelection
  monitored : Option ChannelId
  deriving DecidableEq, Repr

/-! ## Tenant Queue -/

/-- A tenant entry (8.1); the aging timer is its expiry. -/
structure TenantEntry where
  ticket : Nat
  cue : Nat
  zones : List SpeakerId
  enqueued : Nat
  aging : Option Nat
  started : Option Nat
  deriving DecidableEq, Repr

structure Tnq where
  queue : List TenantEntry
  playing : List TenantEntry
  aged : Nat
  cut : Nat
  nextTicket : Nat
  deriving DecidableEq, Repr

/-! ## Trouble List -/

/-- An entry of the trouble list (9.1); whether it is latching is fixed by its kind. -/
structure TroubleEntry where
  kind : TroubleKind
  subject : Nat
  raised : Nat
  present : Bool
  acknowledged : Bool
  deriving DecidableEq, Repr

structure Trl where
  entries : List TroubleEntry
  overflow : Nat
  deriving DecidableEq, Repr

/-! ## Configuration Store -/

/-- A configuration image: the cells of 4096 bytes in one canonical form (Machine/Image.lean). -/
abbrev Image := List Host.Cell

/-- How far the write of an accepted COMMIT has come (R174): it waits until the port has sent or abandoned the answer, or it
has begun at an instant. -/
inductive WriteStage where
  | awaiting (p : PortId)
  | writing (since : Nat)
  deriving DecidableEq, Repr

structure CommitWrite where
  image : Image
  stage : WriteStage
  deriving DecidableEq, Repr

/-- The Configuration Store (R169). `eeprom` is none after a failed write, when its bytes are not known and not sound
(R174); `inUse` is none in CONFIG FAULT (R171). -/
structure Cfs where
  eeprom : Option Image
  inUse : Option Image
  working : Option Image
  mode : Bool
  write : Option CommitWrite
  key : Bool
  deriving DecidableEq, Repr

/-! ## Party Link Ports -/

/-- The receive states of 10.3. -/
inductive ReceiveState where
  | listening | receiving | preparing | answering | discarding
  deriving DecidableEq, Repr

/-- The answer to a taken frame: its kind and its body. -/
structure Answer where
  kind : Byte
  body : List Byte
  deriving DecidableEq, Repr

/-- The five error counters of a port (R163). -/
structure ErrorCounters where
  framing : Nat
  parity : Nat
  overrun : Nat
  check : Nat
  length : Nat
  deriving DecidableEq, Repr

/-- A party link port (9.3, chapter 10). `idleFrom` is the instant from which its line counts as idle (R160), `takenAt` the
instant of the last check character of the request, `begunAt` the instant at which the answer began (R162): µs of the time
base. -/
structure PortRec where
  rx : ReceiveState
  buffer : List Byte
  presence : Presence
  attach : Nat
  supervision : Option Nat
  errors : ErrorCounters
  answer : Option Answer
  idleFrom : Nat
  takenAt : Nat
  begunAt : Nat
  deriving DecidableEq, Repr

/-- The six ports and the start grace (R153): the instant at which it ends, none once it has ended. -/
structure Links where
  ports : Vector PortRec 6
  grace : Option Nat
  deriving DecidableEq, Repr

/-! ## Outputs -/

/-- A value for every output of the part: the alarm, unacknowledged-alarm and trouble contacts (R27, R151), the four contacts of
each bank (R67), the door drivers (R71), TAKEOVER ACK (5.6), the amplifier enables and audio outputs (R119, R130), the speaker
lines (R125) and the monitor output (R135). -/
structure Outputs where
  alarm : Bool
  unacknowledged : Bool
  trouble : Bool
  recalls : Vector Bool 2
  alternates : Vector Bool 2
  lamps : Vector Bool 2
  shunts : Vector Bool 2
  doors : Vector Bool 128
  takeoverAcks : Vector Bool 4
  enables : Vector Bool 4
  audio : Vector Audio 4
  speakers : Vector Audio 36
  monitor : Audio
  deriving DecidableEq, Repr

/-- Every output de-energised and every audio output silent (R170). -/
def Outputs.deEnergised : Outputs where
  alarm := false
  unacknowledged := false
  trouble := false
  recalls := Vector.replicate 2 false
  alternates := Vector.replicate 2 false
  lamps := Vector.replicate 2 false
  shunts := Vector.replicate 2 false
  doors := Vector.replicate 128 false
  takeoverAcks := Vector.replicate 4 false
  enables := Vector.replicate 4 false
  audio := Vector.replicate 4 .silence
  speakers := Vector.replicate 36 .silence
  monitor := .silence

/-! ## The part -/

/-- The state of the part. `pending` is the queue of commands that wait; `deliveries` are the events that blocks have
delivered and their receivers have not yet taken, oldest first; `now` is the time base in ms; `configFault` is CONFIG
FAULT (R171); `startOutputs` is what every output gave during the latest start: while the image was loaded at a cold start
(R170), or through a warm restart (R175). DEDUCED (log entry 50). -/
structure State where
  pending : List Instr
  deliveries : List Instr
  now : Nat
  configFault : Bool
  cfg : Configuration
  lsc : Lsc
  rge : Rge
  lfc : Lfc
  dsq : Dsq
  cue : Cue
  chr : Chr
  tnq : Tnq
  trl : Trl
  cfs : Cfs
  links : Links
  startOutputs : Outputs
  deriving DecidableEq, Repr

/-- The part after power-up with an EEPROM that holds no sound image (every byte 0xFF): it has taken its cold-start values
over a blank configuration and is in CONFIG FAULT (R170, R171). DESIGN CHOICE (log entry 2), unsafe: the manual gives no
contents for an EEPROM that nobody has written, and no levels for the input lines. -/
def State.reset : State where
  pending := []
  deliveries := []
  now := 0
  configFault := true
  cfg := Configuration.blank
  lsc :=
    { loops := Vector.replicate 48 ⟨0, 0, false, .normal, .normal, 0⟩
      nextScan := 0
      position := 48 }
  rge :=
    { zones := Vector.replicate 64 ⟨.normal, .clear, 0, none⟩
      floors := Vector.replicate 32 ⟨.quiet, 0, 0, false, false, 0⟩
      firstAlarms := []
      regime := .normal
      acknowledged := false
      silence := none
      evacuateAll := none
      expansionHold := none
      manual := none
      stepCount := 0
      elapsedBase := 0
      elapsedFrom := 0
      expansionTimer := none
      changeCounter := 0 }
  lfc :=
    { cars := Vector.replicate 12 ⟨0, .stopped, .closed, .normal, true⟩
      banks := Vector.replicate 2
        ⟨.none, .designated, false, false, ⟨false, false, false, false, false⟩, none, .absent, false, none⟩ }
  dsq :=
    { doors := Vector.replicate 128 .absent
      groups := Vector.replicate 4 ⟨[], 0, 0, 0, false, none, false, .owned, false, false⟩ }
  cue :=
    { zones := Vector.replicate 36 ⟨none, none, none⟩
      chains := Vector.replicate 4 none
      finished := Vector.replicate 4 none }
  chr :=
    { channels := Vector.replicate 4
        ⟨.standby, none, false, none, none, [], [], false, [], false, none, [], .silence⟩
      waiting := []
      idlingSuspended := false
      lastServed := 3
      reading := none
      liveC := ⟨false, [], 0, 0, 0⟩
      liveP := ⟨false, [], 0, 0, 0⟩
      selection := .off
      monitored := none }
  tnq := ⟨[], [], 0, 0, 0⟩
  trl := ⟨[], 0⟩
  cfs :=
    { eeprom := some []
      inUse := none
      working := none
      mode := false
      write := none
      key := false }
  links :=
    { ports := Vector.replicate 6 ⟨.listening, [], .absent, 0, none, ⟨0, 0, 0, 0, 0⟩, none, 0, 0, 0⟩
      grace := none }
  startOutputs := Outputs.deEnergised

end Sys2Proof.Machine
end

