-- ==== Sys2Proof/Machine/Ops.lean ====
section
/-! DEFINITION. The operations that every block shares: deliveries between blocks, timers, the readable records and the
change counter. -/

namespace Sys2Proof.Machine

/-! ## Updates of one block -/

def State.withLsc (s : State) (b : Lsc) : State := { s with lsc := b }
def State.withRge (s : State) (b : Rge) : State := { s with rge := b }
def State.withLfc (s : State) (b : Lfc) : State := { s with lfc := b }
def State.withDsq (s : State) (b : Dsq) : State := { s with dsq := b }
def State.withCue (s : State) (b : Cue) : State := { s with cue := b }
def State.withChr (s : State) (b : Chr) : State := { s with chr := b }
def State.withTnq (s : State) (b : Tnq) : State := { s with tnq := b }
def State.withTrl (s : State) (b : Trl) : State := { s with trl := b }
def State.withCfs (s : State) (b : Cfs) : State := { s with cfs := b }
def State.withLinks (s : State) (b : Links) : State := { s with links := b }

/-! ## Deliveries -/

/-- The block that makes and clears a trouble (9.2). -/
def troubleOwner (k : TroubleKind) (subject : Nat) : Agent :=
  match k with
  | .loopOpen | .loopShort => .lsc
  | .zoneFault | .zoneIsolated | .verifyBypassed => .rge
  | .partyLost => .port (Fin.ofNat 6 subject)
  | .doorFailed | .supplyLimit | .takeoverActive => .dsq
  | .channelUnderrun | .memoryReadFault => .chr

/-- The sender and the receiver of a delivered event (R45, R46, R82, R109, R110, R124, R142, R148, R149, R154); none for a
command that is no delivery. -/
def route (i : Instr) : Option (Agent × Agent) :=
  match i with
  | .zoneConditionArrival _ _ => some (.lsc, .rge)
  | .dsqFeedbackBand _ _ => some (.lsc, .dsq)
  | .rgePanelLoss p | .rgeCommandStationLoss p => some (.port p, .rge)
  | .lfcPresenceChange p _ => some (.port p, .lfc)
  | .chrPortLoss p => some (.port p, .chr)
  | .changeCounterIncrease a => some (a, .rge)
  | .reentryImpairedWrite _ _ => some (.dsq, .rge)
  | .verifyBypassedRemoval _ => some (.trl, .rge)
  | .underrunRemoval _ => some (.trl, .chr)
  | .lfcZoneAlarm _ | .lfcAlarmEntry | .lfcRegimeReset => some (.rge, .lfc)
  | .dsqPhaseChange _ | .dsqListAppend _ | .dsqRegimeReset => some (.rge, .dsq)
  | .cuePhaseChange _ | .cueAlarmEntry | .cueSilenceChange | .cueRegimeReset => some (.rge, .cue)
  | .chrAlarmEntry | .chrRegimeReset | .chrListAppend _ => some (.rge, .chr)
  | .tnqAlarmFlush => some (.rge, .tnq)
  | .cfsRegimeDelivery _ => some (.rge, .cfs)
  | .trlAcknowledge => some (.rge, .trl)
  | .liveSlotWrite _ _ => some (.chr, .cue)
  | .tenantSlotWrite _ _ => some (.tnq, .cue)
  | .programmeHanded _ _ _ | .tenantProgrammeHanded _ _ _ => some (.cue, .chr)
  | .tenantCompletion _ => some (.cue, .tnq)
  | .tnqChannelFree | .tenantRefusal _ | .tenantPreEmption _ | .tenantProgrammeEmptied _ => some (.chr, .tnq)
  | .troubleRaise k n | .troubleClear k n => some (troubleOwner k n, .trl)
  | _ => none

/-- Deliver events: they stand behind every delivery already on its way. -/
def State.deliver (s : State) (es : List Instr) : State := { s with deliveries := s.deliveries ++ es }

/-- A receiver takes what one sender delivered in the order in which it was delivered (R51, R52, R72, R148): `e` can be
taken when it is the oldest delivery of its route. -/
def State.takes (s : State) (e : Instr) : Bool := s.deliveries.find? (fun x => route x == route e) == some e

/-- The delivery `e` is no longer on its way. -/
def State.taken (s : State) (e : Instr) : State := { s with deliveries := s.deliveries.erase e }

/-- The receiver takes the delivery `e` and acts on it by `f`. An event that no block has delivered cannot come about, and
nothing happens. DEDUCED (log entry 5). -/
def onDelivery (e : Instr) (f : State → State) (s : State) : State :=
  if s.takes e then f (s.taken e) else s

/-- Raise a trouble: an event for the Trouble List (R148). -/
def State.raise (s : State) (k : TroubleKind) (n : Nat) : State := s.deliver [.troubleRaise k n]

/-- Clear the condition of a trouble (R149). -/
def State.clear (s : State) (k : TroubleKind) (n : Nat) : State := s.deliver [.troubleClear k n]

/-- A momentary trouble is raised and cleared in the same event (R149). -/
def State.raiseMomentary (s : State) (k : TroubleKind) (n : Nat) : State :=
  s.deliver [.troubleRaise k n, .troubleClear k n]

/-- The raise or the clear that a change of a trouble's condition from `before` to `after` calls for. -/
def troubleChange (k : TroubleKind) (n : Nat) (before after : Bool) : List Instr :=
  match before, after with
  | false, true => [.troubleRaise k n]
  | true, false => [.troubleClear k n]
  | _, _ => []

/-! ## Timers -/

/-- A running timer whose expiry instant has come (00_scope.md, Time). -/
def State.due (s : State) (t : Option Nat) : Bool := t.any (· ≤ s.now)

/-- The instant `ms` from now. -/
def State.after (s : State) (ms : Nat) : Nat := s.now + ms

/-! ## The regime as other blocks read it -/

def State.inAlarm (s : State) : Bool := s.rge.regime == .alarm

/-- The regime elapsed time in whole seconds, computed when it is read (R28). -/
def State.elapsed (s : State) : Nat :=
  if s.inAlarm then min 65535 (s.rge.elapsedBase + (s.now - s.rge.elapsedFrom) / 1000) else 0

/-- Whether a floor number lies in the configured floor range (2.1). -/
def State.inRange (s : State) (f : Nat) : Bool := f ≤ s.cfg.topFloor

/-! ## Readable records and the change counter -/

/-- What READ and POLL present of the state, apart from the change counter and the values computed at the moment of reading
(R46): two states with equal readable records show no difference to a party. -/
structure Readable where
  mode : Bool
  regime : RegimeState
  acknowledged : Bool
  holdings : List (Option Nat)
  stepCount : Nat
  firstFloor : Option FloorId
  zones : List (ZoneState × Condition × Nat)
  floors : List FloorRec
  loops : List (Band × Band × Nat)
  doors : List Nat
  groups : List (Takeover × Nat × Bool × Nat × List QueueEntry)
  cars : List CarRec
  banks : List BankRec
  troubles : List TroubleEntry
  overflow : Nat
  channels : List (ChannelState × Option Grant × Bool × List SpeakerId × Bool)
  chains : List (Option (Nat × Option Nat))
  finished : List (Option FinishedMark)
  speakers : List ZoneDemand
  selection : MonitorSelection
  monitored : Option ChannelId
  sources : List (Bool × List SpeakerId)
  tenants : List (Nat × Nat × List SpeakerId × Nat)
  tenantsPlaying : List (Nat × Nat × List SpeakerId × Nat × Option Nat)
  tenantCounts : List Nat
  ports : List (Presence × Nat × ErrorCounters)
  deriving DecidableEq, Repr

/-- A door point's state and sub-phase as a number, without its timers (R71). -/
def doorView (d : DoorState) : Nat :=
  match d with
  | .absent => 0
  | .secured => 1
  | .queued => 2
  | .ramp _ => 3
  | .verify _ => 4
  | .released => 5
  | .failed => 6
  | .holding => 7
  | .dropped => 8

/-- A Bank Order record without the instants of its timer and the half of its lamp's cycle (R46, R59). -/
def bankView (b : BankRec) : BankRec :=
  { b with timer := b.timer.map fun _ => 0, lampOn := false, lampNext := none }

/-- The readable records of the part: R5, R13, R21, R29, R50, R68, R71, R88, R117, R136, R138, R147, R155, R163, R173. -/
def readable (s : State) : Readable where
  mode := s.cfs.mode
  regime := s.rge.regime
  acknowledged := s.rge.acknowledged
  holdings := [s.rge.silence, s.rge.evacuateAll, s.rge.expansionHold, s.rge.manual]
  stepCount := s.rge.stepCount
  firstFloor := s.rge.firstAlarms.head?
  zones := s.rge.zones.toList.map fun z => (z.state, z.condition, z.unconfirmed)
  floors := s.rge.floors.toList
  loops := s.lsc.loops.toList.map fun l => (l.stable, l.pendingBand, l.pendingCount)
  doors := s.dsq.doors.toList.map doorView
  groups := s.dsq.groups.toList.map fun g => (g.takeover, g.holdSum, g.limited, g.carry, g.queue)
  cars := s.lfc.cars.toList
  banks := s.lfc.banks.toList.map bankView
  troubles := s.trl.entries
  overflow := s.trl.overflow
  channels := s.chr.channels.toList.map fun c => (c.state, c.grant, c.begun, c.zoneSet, c.underrun)
  chains := s.cue.chains.toList.map fun c => c.map fun k => (k.cue, k.remaining)
  finished := s.cue.finished.toList
  speakers := s.cue.zones.toList
  selection := s.chr.selection
  monitored := s.chr.monitored
  sources := [(s.chr.liveC.live, s.chr.liveC.claimed), (s.chr.liveP.live, s.chr.liveP.claimed)]
  tenants := s.tnq.queue.map fun e => (e.ticket, e.cue, e.zones, e.enqueued)
  tenantsPlaying := s.tnq.playing.map fun e => (e.ticket, e.cue, e.zones, e.enqueued, e.started)
  tenantCounts := [s.tnq.aged, s.tnq.cut, s.tnq.nextTicket]
  ports := s.links.ports.toList.map fun p => (p.presence, p.attach, p.errors)

/-- Whether an event from `s` to `t` changed a readable record; in CONFIG FAULT the part holds none that the counter would
count (R171). -/
def changed (s t : State) : Bool := !t.configFault && readable s != readable t

/-- The change counter's part of an event at the block `home` that took the state from `s` to `t` (R46): an event at RGE
increases the counter within itself, an event at another block delivers one increase to RGE. The counter wraps. -/
def countChange (home : Agent) (s t : State) : State :=
  { t with
    rge := { t.rge with
      changeCounter := t.rge.changeCounter + (if home == .rge && changed s t then 1 else 0) }
    deliveries := t.deliveries ++ (if home != .rge && changed s t then [.changeCounterIncrease home] else []) }

/-- An event at the block `home`: the change `f` and its part of the change counter. -/
def event (home : Agent) (f : State → State) (s : State) : State := countChange home s (f s)

/-! ## Authority -/

/-- The authority level of a role (00_scope.md, Terms); an UNUSED port has none and never asks. -/
def authority (r : PortRole) : Nat :=
  match r with
  | .commandStation => 3
  | .firePanel => 2
  | .pagingConsole => 1
  | .liftGroup => 0
  | .unused => 0

/-- The role of a port under the image in use. -/
def State.role (s : State) (p : PortId) : PortRole := s.cfg.ports[p].role

/-- A port reads its line when its role is not UNUSED, and in CONFIG FAULT whatever it was (R157, R171). -/
def State.portUsed (s : State) (p : PortId) : Bool := s.configFault || s.role p != .unused

/-- The mode of a port: every port listens in DIRECT mode in CONFIG FAULT (R171). -/
def State.portMode (s : State) (p : PortId) : PortMode := if s.configFault then .direct else s.cfg.ports[p].mode

/-- The baud rate of a port: 9600 in CONFIG FAULT (R171). -/
def State.portBaud (s : State) (p : PortId) : Nat := if s.configFault then 9600 else s.cfg.ports[p].baud

end Sys2Proof.Machine
end

