-- ==== Sys2Proof/Machine/Flags.lean ====
section
/-! DEFINITION. Conditions and outputs that follow from the state: contacts, drivers, enables (R27, R67, R68, R71, R95, R119,
R151, R171). Log entry 21. -/

namespace Sys2Proof.Machine

/-! ## Regime contacts -/

/-- The common alarm contact (R27, R171). -/
def State.alarmContact (s : State) : Bool := !s.configFault && s.inAlarm

/-- The unacknowledged-alarm contact (R27, R171). -/
def State.unacknowledgedContact (s : State) : Bool := !s.configFault && s.inAlarm && !s.rge.acknowledged

/-- The common trouble contact (R151, R171). -/
def State.troubleContact (s : State) : Bool := s.configFault || !s.trl.entries.isEmpty || s.trl.overflow > 0

/-! ## Lifts -/

/-- LIFTS UNAVAILABLE (R68): some bank's order is not NONE, or some configured bank's link status is LOST. -/
def State.liftsUnavailable (s : State) : Bool :=
  (List.finRange 2).any fun b =>
    s.lfc.banks[b].order != .none || (s.cfg.banks[b].configured && s.lfc.banks[b].link == .lost)

/-- The contacts of a bank are driven while it is configured and the part is not in CONFIG FAULT (R67, R171). -/
def State.bankDriven (s : State) (b : BankId) : Bool := !s.configFault && s.cfg.banks[b].configured

def State.recallContact (s : State) (b : BankId) : Bool := s.bankDriven b && s.lfc.banks[b].order != .none

def State.alternateContact (s : State) (b : BankId) : Bool :=
  s.bankDriven b && s.lfc.banks[b].landing == .alternate && s.lfc.banks[b].order != .none

def State.lampContact (s : State) (b : BankId) : Bool :=
  s.bankDriven b && s.lfc.banks[b].flashing && s.lfc.banks[b].lampOn

def State.shuntContact (s : State) (b : BankId) : Bool := s.bankDriven b && s.lfc.banks[b].order == .tripped

/-! ## Doors -/

/-- Whether a state energises the driver under the Door Point Table (R71). -/
def DoorState.energised (d : DoorState) : Bool :=
  match d with
  | .ramp _ | .verify _ | .released | .failed | .holding => true
  | .absent | .secured | .queued | .dropped => false

/-- The driver of a door point: the table's (R71), or the drive line's for a strike of a TAKEN group (R95); de-energised in
CONFIG FAULT (R171). -/
def State.doorDriver (s : State) (d : DoorId) : Bool :=
  if s.configFault || !s.cfg.doors[d].configured then false
  else match s.cfg.doors[d].kind with
    | .magnet => s.dsq.doors[d].energised
    | .strike =>
      match rowAt s.dsq.groups s.cfg.doors[d].group with
      | some g => if g.takeover == .taken then g.drive else s.dsq.doors[d].energised
      | none => s.dsq.doors[d].energised

/-- The TAKEOVER ACK output of a group: asserted while it is TAKEN (5.6). -/
def State.takeoverAck (s : State) (g : GroupId) : Bool := !s.configFault && s.dsq.groups[g].takeover == .taken

/-! ## Amplifiers -/

/-- The enable output of a channel (R119, R171). -/
def State.channelEnable (s : State) (c : ChannelId) : Bool := !s.configFault && s.chr.channels[c].state != .standby

/-- What the monitor output carries (R135). -/
def State.monitorAudio (s : State) : Audio :=
  match s.chr.monitored with
  | some c => s.chr.channels[c].audio
  | none => .silence

/-- The speaker line of a zone carries the audio of the channel whose zone set holds it (R125). -/
def State.speakerAudio (s : State) (z : SpeakerId) : Audio :=
  match (List.finRange 4).find? fun c => s.chr.channels[c].zoneSet.contains z with
  | some c => s.chr.channels[c].audio
  | none => .silence

/-! ## Every output -/

/-- What every output gives in a state. -/
def State.outputs (s : State) : Outputs where
  alarm := s.alarmContact
  unacknowledged := s.unacknowledgedContact
  trouble := s.troubleContact
  recalls := tab s.recallContact
  alternates := tab s.alternateContact
  lamps := tab s.lampContact
  shunts := tab s.shuntContact
  doors := tab s.doorDriver
  takeoverAcks := tab s.takeoverAck
  enables := tab s.channelEnable
  audio := tab fun c => s.chr.channels[c].audio
  speakers := tab s.speakerAudio
  monitor := s.monitorAudio

end Sys2Proof.Machine
end

