-- ==== Sys2Proof/Machine/Operands.lean ====
section
/-! DEFINITION. The operands of requests: the fields of frame bodies (10.8) and what they name. -/

namespace Sys2Proof.Machine

/-- The reason a result or a refusal carries, in the order of the codes of 10.8. -/
inductive Reason where
  | accepted | kind | role | authority | state | range | full | config
  deriving DecidableEq, Repr

/-- The reason codes of 10.8. -/
def Reason.code (r : Reason) : Byte :=
  match r with
  | .accepted => 0
  | .kind => 1
  | .role => 2
  | .authority => 3
  | .state => 4
  | .range => 5
  | .full => 6
  | .config => 7

/-- Two bytes as a number, high byte first. -/
def number2 (hi lo : Byte) : Nat := hi.toNat * 256 + lo.toNat

/-- Whether bit `k` of a byte is 1. -/
def bitOf (b : Byte) (k : Nat) : Bool := b.getLsbD k

/-- The speaker zones of a 36-bit mask in five bytes, lowest zones first; bits 4 to 7 of the last byte are ignored (10.8). -/
def maskZones (bs : List Byte) : List SpeakerId :=
  (List.finRange 36).filter fun z => bitOf (bs.getD (z.val / 8) 0) (z.val % 8)

/-- Whether set bits of byte `k` of a mask name the zones of a set. -/
def maskByte (zs : List SpeakerId) (k : Nat) : Nat :=
  (List.range 8).foldl (fun t i => t + (if zs.any (fun z => z.val == 8 * k + i) then 2 ^ i else 0)) 0

/-- A set of speaker zones as the five bytes of 10.8. -/
def zoneBytes (zs : List SpeakerId) : List Byte := (List.range 5).map fun k => byteOf (maskByte zs k)

/-- A speaker zone is configured: a floor zone when its floor is in the configured range, a stair zone when its stair's
speaker zone is marked configured (6.3). -/
def State.speakerConfigured (s : State) (z : SpeakerId) : Bool :=
  if z.val < 32 then s.inRange z.val else (rowAt s.cfg.stairs (z.val - 32)).any (·.configured)

/-- The configured zone that a zone number names. -/
def State.zoneNamed (s : State) (n : Nat) : Option ZoneId :=
  match toIndex 64 n with
  | some z => if s.cfg.zones[z].configured then some z else none
  | none => none

/-- The configured zone with a source (R6, R11). No two configured zones of a checked image share a source (R9); under an image
placed from outside that breaks R9 it is the lowest-numbered one. DESIGN CHOICE (log entry 38). -/
def State.zoneFrom (s : State) (src : Source) : Option ZoneId :=
  (List.finRange 64).find? fun z => s.cfg.zones[z].configured && s.cfg.zones[z].source == src

/-- The configured bank that a bank number names (R48). -/
def State.bankNamed (s : State) (n : Nat) : Option BankId :=
  match toIndex 2 n with
  | some b => if s.cfg.banks[b].configured then some b else none
  | none => none

/-- The configured floor that a floor index names. -/
def State.floorNamed (s : State) (n : Nat) : Option FloorId :=
  match toIndex 32 n with
  | some f => if s.inRange f.val then some f else none
  | none => none

/-- The phase that a code names (10.8). -/
def phaseOf (b : Byte) : Option Phase :=
  match b.toNat with
  | 0 => some .quiet
  | 1 => some .alert
  | 2 => some .evacuate
  | _ => none

/-- The condition that a code of a ZONE REPORT names (R11). -/
def conditionOf (b : Byte) : Option Condition :=
  match b.toNat with
  | 0 => some .clear
  | 1 => some .alarm
  | 2 => some .fault
  | _ => none

def motionOf (b : Byte) : Option Motion :=
  match b.toNat with
  | 0 => some .up
  | 1 => some .down
  | 2 => some .stopped
  | _ => none

def carDoorsOf (b : Byte) : Option CarDoors :=
  match b.toNat with
  | 0 => some .openDoors
  | 1 => some .closed
  | 2 => some .moving
  | _ => none

def carModeOf (b : Byte) : Option CarMode :=
  match b.toNat with
  | 0 => some .normal
  | 1 => some .independent
  | 2 => some .outOfService
  | 3 => some .recalling
  | 4 => some .atRecallLanding
  | 5 => some .phaseII
  | _ => none

/-- An entry of a ZONE REPORT: the point and the condition code. -/
def zoneEntries (body : List Byte) : List (Byte × Byte) :=
  match body with
  | p :: c :: rest => (p, c) :: zoneEntries rest
  | _ => []

/-- An entry of a CAR REPORT: the car number, the position and the three codes. -/
structure CarEntry where
  car : Nat
  position : Nat
  motion : Byte
  doors : Byte
  mode : Byte
  deriving DecidableEq, Repr

/-- The entries of a CAR REPORT (10.8). -/
def carEntries (body : List Byte) : List CarEntry :=
  match body with
  | c :: p :: m :: d :: o :: rest => ⟨c.toNat, p.toNat, m, d, o⟩ :: carEntries rest
  | _ => []

/-- The number of argument bytes of each command code (10.8); none for a code that names no command. MONITOR SELECT always
carries its channel byte, which is read under CHANNEL. DEDUCED (log entry 31). -/
def commandArgs (code : Nat) : Option Nat :=
  match code with
  | 1 | 2 | 3 | 4 | 5 | 6 | 7 | 8 => some 0
  | 9 | 10 => some 1
  | 11 => some 0
  | 12 => some 2
  | 13 => some 0
  | 14 | 15 | 16 | 17 => some 1
  | 18 => some 0
  | 19 => some 2
  | _ => none

/-- The role table of the commands (2.6, R55, R56, R64, R65, R76, R135): FIRE PANEL and COMMAND STATION for the regime
commands and the zone commands, COMMAND STATION alone for manual control, the lift, door and monitor commands. -/
def commandRole (code : Nat) (r : PortRole) : Bool :=
  match code with
  | 1 | 2 | 3 | 4 | 5 | 6 | 7 | 8 | 9 | 10 => r == .commandStation || r == .firePanel
  | _ => r == .commandStation

end Sys2Proof.Machine
end

