-- ==== Sys2Proof/Machine/Loops.lean ====
section
/-! DEFINITION. The Loop Scanner (chapter 1.1 to 1.3, R1 to R7). -/

namespace Sys2Proof.Machine

/-- What a command answers. -/
abbrev Result := Host.Outcome State Fault Refusal

/-- The interval between the starts of scans, in ms (R1). -/
def scanInterval : Nat := 10

/-- A new scan may start: its instant has come and the conversions of the scan before are complete (R1). -/
def State.scanDue (s : State) : Bool := !s.configFault && s.lsc.nextScan ≤ s.now && s.lsc.position == 48

/-- The threshold set of a loop (1.1, R3). -/
def State.thresholds (s : State) (l : LoopId) : ThresholdSet :=
  (rowAt s.cfg.sets s.cfg.loops[l].set).getD s.cfg.sets[(0 : Fin 4)]

/-- The plain band of a filtered count (R3). -/
def plainBand (t : ThresholdSet) (f : Nat) : Band :=
  if f < t.t1 then .short else if f < t.t2 then .alarm else if f < t.t3 then .normal else .openLine

/-- Whether a filtered count lies in the held range of a band (R4). -/
def heldRange (t : ThresholdSet) (b : Band) (f : Nat) : Bool :=
  match b with
  | .short => f < t.t1 + t.hysteresis
  | .alarm => t.t1 ≤ f + t.hysteresis && f < t.t2 + t.hysteresis
  | .normal => t.t2 ≤ f + t.hysteresis && f < t.t3 + t.hysteresis
  | .openLine => t.t3 ≤ f + t.hysteresis

/-- The candidate band of a conversion (R4). -/
def candidateBand (t : ThresholdSet) (stable : Band) (f : Nat) : Band :=
  if heldRange t stable f then stable else plainBand t f

/-- The filtered count after a conversion: seeded at the first after a start, smoothed at the others (R2). -/
def filterCount (r : LoopRec) (n : Nat) : Nat := if r.seeded then (3 * r.filtered + n + 2) / 4 else n

/-- Debounce of a candidate band with debounce count `d` (R5). -/
def debounceBand (d : Nat) (cand : Band) (r : LoopRec) : LoopRec :=
  if cand == r.stable then { r with pendingCount := 0 }
  else
    let k := if cand == r.pendingBand then r.pendingCount + 1 else 1
    if k == d then { r with stable := cand, pendingBand := cand, pendingCount := 0 }
    else { r with pendingBand := cand, pendingCount := k }

/-- A loop after its conversion gave the raw count `n`: N, then F, then the band, then debounce (R1). -/
def convertLoop (t : ThresholdSet) (d n : Nat) (r : LoopRec) : LoopRec :=
  debounceBand d (candidateBand t r.stable (filterCount r n))
    { r with count := n, filtered := filterCount r n, seeded := true }

/-- The condition that a band of a ZONE INPUT loop gives (R6, R10). -/
def bandCondition (b : Band) : Condition :=
  match b with
  | .normal => .clear
  | .alarm => .alarm
  | .openLine | .short => .fault

/-- What a change of a loop's stable band delivers to the consumer of its role (R6). -/
def bandConsumers (s : State) (l : LoopId) (b : Band) : List Instr :=
  match s.cfg.loops[l].role with
  | .zoneInput =>
    match s.zoneFrom (.loop l.val) with
    | some z => [.zoneConditionArrival z (bandCondition b)]
    | none => []
  | .doorFeedback => [.dsqFeedbackBand l b]
  | .keyswitch | .unused => []

/-- The raises and clears of a used loop whose stable band changed (R7). A change between OPEN and SHORT clears one trouble and
raises the other: LOOP OPEN's event stands first. DESIGN CHOICE (log entry 37). -/
def bandTroubles (s : State) (l : LoopId) (before after : Band) : List Instr :=
  if s.cfg.loops[l].role == .unused then []
  else troubleChange .loopOpen l.val (before == .openLine) (after == .openLine)
    ++ troubleChange .loopShort l.val (before == .short) (after == .short)

/-- What a conversion delivers: something only when the stable band changed (R5, R6, R7). -/
def conversionNews (s : State) (l : LoopId) (before after : Band) : List Instr :=
  if before == after then [] else bandConsumers s l after ++ bandTroubles s l before after

/-- The completion of a loop's conversion (R1). -/
def loopConverted (l : LoopId) (n : Nat) (s : State) : State :=
  let r := convertLoop (s.thresholds l) s.cfg.debounce n s.lsc.loops[l]
  (s.withLsc { s.lsc with loops := s.lsc.loops.set l.val r, position := l.val + 1 }).deliver
    (conversionNews s l s.lsc.loops[l].stable r.stable)

/-- SCAN_START (R1): the scan converts LP0 first; scans start every 10 ms. -/
def execScanStart (s : State) : Result :=
  .next (if s.scanDue then
    s.withLsc { s.lsc with nextScan := s.lsc.nextScan + scanInterval, position := 0 } else s)

/-- LOOP_CONVERSION (R1 to R7): the scan converts its loops in order; no loop is converted in CONFIG FAULT (R171). -/
def execLoopConversion (l : LoopId) (n : Fin 1024) (s : State) : Result :=
  .next (if !s.configFault && s.lsc.position == l.val then event .lsc (loopConverted l n.val) s else s)

end Sys2Proof.Machine
end

