-- ==== Sys2Proof/Machine/Regime.lean ====
section
/-! DEFINITION. The Zone Table and Regime Engine (chapters 1.4 to 1.10 and 2). -/

namespace Sys2Proof.Machine

/-! ## Zone records -/

/-- Replace the working record of a zone. -/
def State.setZone (s : State) (z : ZoneId) (r : ZoneRec) : State :=
  s.withRge { s.rge with zones := s.rge.zones.set z.val r }

/-- The configured zones of a floor in a state, in ascending order. -/
def State.zonesIn (s : State) (st : ZoneState) (floor : Nat) : List ZoneId :=
  (List.finRange 64).filter fun z =>
    s.cfg.zones[z].configured && s.cfg.zones[z].floor == floor && s.rge.zones[z].state == st

/-- Whether some configured zone is in PREALARM. -/
def State.anyPrealarm (s : State) : Bool :=
  (List.finRange 64).any fun z => s.cfg.zones[z].configured && s.rge.zones[z].state == .prealarm

/-- The zone counts of every floor, kept in step with the Zone Table (R21). -/
def recountFloors (s : State) : State :=
  s.withRge { s.rge with
   floors := tab fun f =>
    { s.rge.floors[f] with
      alarmed := (s.zonesIn .alarm f.val).length
      prealarmed := (s.zonesIn .prealarm f.val).length } }

/-- The regime state outside ALARM, decided on the zone states as the event leaves them (R24). -/
def settleRegime (s : State) : State :=
  s.withRge { s.rge with regime :=
    if s.inAlarm then .alarm else if s.anyPrealarm then .prealarm else .normal }

/-! ## Phases (2.5) -/

/-- The rank of a phase: QUIET below ALERT below EVACUATE (R22). -/
def phaseRank (p : Phase) : Nat :=
  match p with
  | .quiet => 0
  | .alert => 1
  | .evacuate => 2

/-- Apply target phases by raising: a floor of the configured range below its target enters it, with the regime elapsed
time as its phase entry time (R22). -/
def raiseFloors (target : FloorId → Phase) (s : State) : State :=
  s.withRge { s.rge with
   floors := tab fun f =>
    if s.inRange f.val && decide (phaseRank s.rge.floors[f].phase < phaseRank (target f)) then
      { s.rge.floors[f] with phase := target f, entryTime := s.elapsed }
    else s.rge.floors[f] }

/-- The evacuate set (2.5). -/
def State.evacuated (s : State) (f : FloorId) : Bool := s.inRange f.val && s.rge.floors[f].phase == .evacuate

/-- Whether every floor of the configured range is in EVACUATE (R33). -/
def State.allEvacuated (s : State) : Bool :=
  (List.finRange 32).all fun f => !s.inRange f.val || s.rge.floors[f].phase == .evacuate

/-- Two floor indices differ by at most `k`. -/
def near (k : Nat) (f g : FloorId) : Bool := f.val ≤ g.val + k && g.val ≤ f.val + k

/-- The dilation of the evacuate set by `k` (R30). -/
def State.dilated (s : State) (k : Nat) (f : FloorId) : Bool :=
  s.inRange f.val && (List.finRange 32).any fun g => s.evacuated g && near k f g

/-- Recompute the alert set: every floor of the dilation by A that is not in EVACUATE has the target ALERT (R30). -/
def recomputeAlert (s : State) : State :=
  raiseFloors (fun f => if s.dilated s.cfg.alertSpan f && !s.evacuated f then .alert else .quiet) s

/-- The targets of origin floors: each and the floors directly above and below it (R31, R32). -/
def aroundFloors (fs : List FloorId) (f : FloorId) : Bool := fs.any fun g => near 1 f g

/-! ## The expansion timer (R33) -/

/-- The conditions under which the expansion timer runs (R33). -/
def State.mayExpand (s : State) : Bool :=
  s.inAlarm && s.rge.expansionHold.isNone && s.rge.manual.isNone && !s.allEvacuated

/-- Start the expansion timer with a full T_p if its running conditions hold. -/
def startExpansion (s : State) : State :=
  s.withRge { s.rge with expansionTimer :=
    if s.mayExpand then some (s.after (s.cfg.tPhase * 1000)) else none }

/-- Stop the expansion timer. -/
def stopExpansion (s : State) : State := s.withRge { s.rge with expansionTimer := none }

/-- Stop the timer when every floor of the configured range is in EVACUATE. -/
def stopIfAllEvacuated (s : State) : State :=
  s.withRge { s.rge with expansionTimer := if s.allEvacuated then none else s.rge.expansionTimer }

/-! ## Newly alarmed zones (R23 to R32) -/

/-- The regime enters ALARM (R25): elapsed time and step count 0, the acknowledged flag at no. -/
def enterAlarm (s : State) : State :=
  s.withRge { s.rge with
    regime := .alarm, acknowledged := false, stepCount := 0, elapsedBase := 0, elapsedFrom := s.now }

/-- Append a floor to the First-Alarm Order list and set its origin flag (R23). -/
def appendFloor (f : FloorId) (s : State) : State :=
  s.withRge { s.rge with
    firstAlarms := s.rge.firstAlarms ++ [f]
    floors := modifyRow s.rge.floors f fun r => { r with origin := true } }

/-- The phases of an entry to ALARM through zone alarm (R31). -/
def phasesAtEntry (s : State) : State :=
  startExpansion (recomputeAlert (raiseFloors (fun f =>
    if aroundFloors s.rge.firstAlarms f || s.cfg.floors[f].alwaysEvacuate then .evacuate else .quiet) s))

/-- The phases of a new origin floor (R32). -/
def phasesAtOrigin (f : FloorId) (s : State) : State :=
  stopIfAllEvacuated (recomputeAlert (raiseFloors (fun g => if near 1 g f then .evacuate else .quiet) s))

/-- Zones move to ALARM, their verification timers cancelled, each delivered to LFC as a newly alarmed zone (R15, R26). -/
def alarmZones (zs : List ZoneId) (s : State) : State :=
  (s.withRge { s.rge with
   zones := tab fun z =>
    if zs.contains z then { s.rge.zones[z] with state := .alarm, timer := none } else s.rge.zones[z] }).deliver
    (zs.map .lfcZoneAlarm)

/-- The regime's part in newly alarmed zones of one floor (R26): the acknowledged flag becomes no, silence is cleared, the
floor joins the list if it is not on it, and the regime enters ALARM or takes a new origin floor. An image that no commit accepts
can map a zone above the top floor index (R9): such a floor joins the list and has its origin flag all the same. DESIGN CHOICE
(log entry 45). -/
def regimeAlarmed (floor : Nat) (s : State) : State :=
  let s1 := s.withRge { s.rge with acknowledged := false, silence := none }
  match toIndex 32 floor with
  | none => if s.inAlarm then s1 else phasesAtEntry (enterAlarm s1)
  | some f =>
    let isNew := !s.rge.firstAlarms.contains f
    let s2 := if isNew then appendFloor f s1 else s1
    if s.inAlarm then (if isNew then phasesAtOrigin f s2 else s2) else phasesAtEntry (enterAlarm s2)

/-- A zone enters ALARM and takes with it every zone of its floor that is then in PREALARM (R15, R26). -/
def enterZoneAlarm (z : ZoneId) (s : State) : State :=
  let floor := s.cfg.zones[z].floor
  let zs := (List.finRange 64).filter fun y => y == z || (s.zonesIn .prealarm floor).contains y
  regimeAlarmed floor (alarmZones zs s)

/-! ## Arrival of a condition (R13 to R17) -/

/-- The test of R14: the zone is verified rather than alarmed at once. -/
def State.verifies (s : State) (z : ZoneId) : Bool :=
  s.cfg.zones[z].kind == .detector && s.cfg.zones[z].verify && 0 < s.cfg.tVerify && s.rge.zones[z].unconfirmed < 4

/-- A zone enters PREALARM and starts its verification timer (R14); with another zone of its floor in PREALARM both go on
to ALARM (R15). -/
def enterPrealarm (z : ZoneId) (s : State) : State :=
  let others := s.zonesIn .prealarm s.cfg.zones[z].floor
  let s1 := (s.setZone z
    { s.rge.zones[z] with state := .prealarm, timer := some (s.after (s.cfg.tVerify * 1000)) }).deliver
      [.cfsRegimeDelivery .prealarm]
  if others.isEmpty then s1 else enterZoneAlarm z s1

/-- Condition ALARM at a zone in NORMAL or FAULT (R14, R16). -/
def alarmArrives (z : ZoneId) (s : State) : State :=
  if s.verifies z then enterPrealarm z s
  else enterZoneAlarm z
    (if s.rge.zones[z].unconfirmed == 4 then s.raiseMomentary .verifyBypassed z.val else s)

/-- The return of a PREALARM zone to NORMAL because CLEAR arrived (R16). -/
def unconfirmedReturn (z : ZoneId) (s : State) : State :=
  let r := s.rge.zones[z]
  let s1 := s.setZone z { r with state := .normal, timer := none, unconfirmed := saturate 4 r.unconfirmed }
  if r.unconfirmed == 3 then s1.raiseMomentary .verifyBypassed z.val else s1

/-- The condition of a zone's ZONE FAULT trouble (R17). -/
def ZoneRec.faulty (r : ZoneRec) : Bool := r.condition == .fault && r.state != .isolated

/-- Raise or clear the ZONE FAULT trouble of a zone between two states (R17). -/
def zoneFaultNews (z : ZoneId) (before after : State) : List Instr :=
  troubleChange .zoneFault z.val before.rge.zones[z].faulty after.rge.zones[z].faulty

/-- The zone's change of state at an arrival of a condition that has been recorded (R13). -/
def conditionActs (z : ZoneId) (c : Condition) (s : State) : State :=
  let r := s.rge.zones[z]
  match r.state, c with
  | .normal, .alarm => alarmArrives z s
  | .normal, .fault => s.setZone z { r with state := .fault }
  | .normal, .clear => s
  | .prealarm, .clear => unconfirmedReturn z s
  | .prealarm, .fault => s.setZone z { r with state := .fault, timer := none }
  | .prealarm, .alarm => s
  | .fault, .clear => s.setZone z { r with state := .normal }
  | .fault, .alarm => alarmArrives z s
  | .fault, .fault => s
  | .alarm, _ => s
  | .isolated, _ => s

/-- Record a condition (R13). -/
def recordCondition (z : ZoneId) (c : Condition) (s : State) : State :=
  s.setZone z { s.rge.zones[z] with condition := c }

/-- An arrival of a condition at a configured zone: one that equals the recorded condition changes nothing (R10, R13). The
VERIFY BYPASSED raise and clear of the arrival (R16) are delivered before its ZONE FAULT raise or clear (R17). DESIGN CHOICE
(log entry 37). -/
def arrive (z : ZoneId) (c : Condition) (s : State) : State :=
  if s.rge.zones[z].condition == c then s
  else
    let t := conditionActs z c (recordCondition z c s)
    t.deliver (zoneFaultNews z s t)

/-! ## What the other blocks are told (R45) -/

/-- The floors whose phase an event changed, with their new phases. -/
def phaseNews (s t : State) : List (FloorId × Phase) :=
  ((List.finRange 32).filter fun f => s.rge.floors[f].phase != t.rge.floors[f].phase).map
    fun f => (f, t.rge.floors[f].phase)

/-- The deliveries of the phase changes of one event: one to DSQ and one to CUE, naming every floor. -/
def phaseDeliveries (fs : List (FloorId × Phase)) : List Instr :=
  if fs.isEmpty then [] else [.dsqPhaseChange fs, .cuePhaseChange fs]

/-- The deliveries of the floors appended to the list. -/
def listDeliveries (fs : List FloorId) : List Instr := fs.flatMap fun f => [.dsqListAppend f, .chrListAppend f]

/-- The deliveries of an entry to ALARM. -/
def entryDeliveries (entered : Bool) : List Instr :=
  if entered then [.lfcAlarmEntry, .tnqAlarmFlush, .cueAlarmEntry, .chrAlarmEntry, .cfsRegimeDelivery .alarm] else []

/-- The delivery of a silence holding set or cleared. -/
def silenceDeliveries (before after : Option Nat) : List Instr :=
  if before.isSome == after.isSome then [] else [.cueSilenceChange]

/-- What RGE delivers about an event that took the state from `s` to `t`, beside the newly alarmed zones and PREALARM
entries, which it delivers as they come (R45). CUE takes the entry to ALARM before the phase change of the same event, so that
the programmes of the event form together (6.9). DEDUCED (log entry 19). The phase changes and the list appends, which R45 has
delivered together, are deliveries of their own, as the table has a row for each: a receiver takes the phase changes first, then
each append in the order of the list. DESIGN CHOICE (log entry 51). -/
def rgeNews (s t : State) : List Instr :=
  entryDeliveries (!s.inAlarm && t.inAlarm)
    ++ phaseDeliveries (phaseNews s t)
    ++ listDeliveries (t.rge.firstAlarms.drop s.rge.firstAlarms.length)
    ++ silenceDeliveries s.rge.silence t.rge.silence

/-- An RGE event without its part of the change counter: the change, the floor counts and regime state as it leaves the
zones, and the deliveries of R45. -/
def rgeChange (f : State → State) (s : State) : State :=
  let t := settleRegime (recountFloors (f s))
  t.deliver (rgeNews s t)

/-- An event at RGE. -/
def rgeEvent (f : State → State) (s : State) : State := event .rge (rgeChange f) s

/-! ## Events of RGE -/

/-- ZONE_CONDITION_ARRIVAL (R10). -/
def execZoneConditionArrival (z : ZoneId) (c : Condition) (s : State) : Result :=
  .next (onDelivery (.zoneConditionArrival z c)
    (rgeEvent fun s => if s.cfg.zones[z].configured then arrive z c s else s) s)

/-- The verification timer of a zone expires (R14). -/
def verificationExpires (z : ZoneId) (s : State) : State := enterZoneAlarm z s

/-- VERIFICATION_TIMER_EXPIRY (R14): an expiry finds a running timer whose instant has come. -/
def execVerificationTimerExpiry (z : ZoneId) (s : State) : Result :=
  .next (if s.due s.rge.zones[z].timer then rgeEvent (verificationExpires z) s else s)

/-- The expansion of R34. -/
def expand (s : State) : State :=
  let s1 := recomputeAlert (raiseFloors (fun f => if s.dilated 1 f then .evacuate else .quiet) s)
  startExpansion (s1.withRge { s1.rge with stepCount := saturate 31 s1.rge.stepCount })

/-- EXPANSION_TIMER_EXPIRY (R34). -/
def execExpansionTimerExpiry (s : State) : Result :=
  .next (if s.due s.rge.expansionTimer then rgeEvent expand s else s)

/-- Condition FAULT arrives at every configured zone whose source is LINK on a port (R12), in ascending zone order. -/
def panelLost (p : PortId) (s : State) : State :=
  ((List.finRange 64).filter fun z =>
    s.cfg.zones[z].configured && (match s.cfg.zones[z].source with
      | .link q _ => q == p.val
      | .loop _ => false)).foldl (fun t z => arrive z .fault t) s

/-- RGE_PANEL_LOSS (R12). -/
def execRgePanelLoss (p : PortId) (s : State) : Result :=
  .next (onDelivery (.rgePanelLoss p) (rgeEvent (panelLost p)) s)

/-- Manual control ends (R42). -/
def endManual (s : State) : State :=
  startExpansion (recomputeAlert (s.withRge { s.rge with manual := none }))

/-- The loss of the command station ends manual control if it is present (R42). -/
def commandStationLost (s : State) : State := if s.rge.manual.isSome then endManual s else s

/-- RGE_COMMAND_STATION_LOSS (R42, R154). -/
def execRgeCommandStationLoss (p : PortId) (s : State) : Result :=
  .next (onDelivery (.rgeCommandStationLoss p) (rgeEvent commandStationLost) s)

/-- RGE takes an increase of the change counter (R46). -/
def counterIncreased (s : State) : State :=
  s.withRge { s.rge with changeCounter := s.rge.changeCounter + 1 }

/-- CHANGE_COUNTER_INCREASE (R46). -/
def execChangeCounterIncrease (a : Agent) (s : State) : Result :=
  .next (onDelivery (.changeCounterIncrease a) counterIncreased s)

/-- RGE stores a re-entry impaired flag (R82). -/
def impairedWritten (f : FloorId) (v : Bool) (s : State) : State :=
  s.withRge { s.rge with floors := modifyRow s.rge.floors f fun r => { r with impaired := v } }

/-- REENTRY_IMPAIRED_WRITE (R82). -/
def execReentryImpairedWrite (f : FloorId) (v : Bool) (s : State) : Result :=
  .next (onDelivery (.reentryImpairedWrite f v) (rgeEvent (impairedWritten f v)) s)

/-- The removal of a VERIFY BYPASSED entry sets the zone's unconfirmed count to 0 and changes nothing else (R16). -/
def bypassRemoved (z : ZoneId) (s : State) : State := s.setZone z { s.rge.zones[z] with unconfirmed := 0 }

/-- VERIFY_BYPASSED_REMOVAL (R16, R149). -/
def execVerifyBypassedRemoval (z : ZoneId) (s : State) : Result :=
  .next (onDelivery (.verifyBypassedRemoval z) (rgeEvent (bypassRemoved z)) s)

/-! ## ZONE REPORT (R11) -/

/-- The configured zone that an entry of a ZONE REPORT names with a condition code up to 2; none for an ignored entry. -/
def entryTarget (p : PortId) (e : Byte × Byte) (s : State) : Option (ZoneId × Condition) :=
  match s.zoneFrom (.link p.val e.1.toNat), conditionOf e.2 with
  | some z, some c => some (z, c)
  | _, _ => none

/-- One entry of a ZONE REPORT. -/
def reportEntry (p : PortId) (s : State) (e : Byte × Byte) : State :=
  match entryTarget p e s with
  | some (z, c) => arrive z c s
  | none => s

/-- The entries of a ZONE REPORT, taken in the order in which the frame lists them. -/
def zoneReportTaken (p : PortId) (es : List (Byte × Byte)) (s : State) : State := es.foldl (reportEntry p) s

/-- The accepted count of a ZONE REPORT. -/
def acceptedEntries (p : PortId) (es : List (Byte × Byte)) (s : State) : Nat :=
  (es.filter fun e => (entryTarget p e s).isSome).length

/-! ## Regime commands (2.6): each gives the state it leaves and its reason -/

/-- A holding set by a port of a level: present with the higher level (R29). -/
def raiseHolding (h : Option Nat) (level : Nat) : Option Nat := some (max (h.getD 0) level)

/-- A level stands at least as high as a holding's setter level (R29). -/
def outranks (level : Nat) (h : Option Nat) : Bool := h.all (· ≤ level)

/-- ACKNOWLEDGE (R35). -/
def cmdAcknowledge (s : State) : State × Reason :=
  ((s.withRge { s.rge with acknowledged := s.inAlarm }).deliver [.trlAcknowledge], .accepted)

/-- SILENCE (R36). -/
def cmdSilence (level : Nat) (s : State) : State × Reason :=
  if s.inAlarm && s.rge.acknowledged then
    (s.withRge { s.rge with silence := raiseHolding s.rge.silence level }, .accepted)
  else (s, .state)

/-- RESOUND (R37). -/
def cmdResound (level : Nat) (s : State) : State × Reason :=
  if s.rge.silence.isNone then (s, .state)
  else if !outranks level s.rge.silence then (s, .authority)
  else (s.withRge { s.rge with silence := none }, .accepted)

/-- EVACUATE ALL (R38). -/
def cmdEvacuateAll (level : Nat) (s : State) : State × Reason :=
  let s1 := if s.inAlarm then s else enterAlarm s
  let s2 := s1.withRge { s1.rge with evacuateAll := raiseHolding s1.rge.evacuateAll level }
  (stopExpansion (raiseFloors (fun _ => .evacuate) s2), .accepted)

/-- CANCEL EVACUATE ALL (R38). -/
def cmdCancelEvacuateAll (level : Nat) (s : State) : State × Reason :=
  if s.rge.evacuateAll.isNone then (s, .state)
  else if !outranks level s.rge.evacuateAll then (s, .authority)
  else (s.withRge { s.rge with evacuateAll := none }, .accepted)

/-- HOLD EXPANSION (R39). -/
def cmdHoldExpansion (level : Nat) (s : State) : State × Reason :=
  if s.inAlarm then
    (stopExpansion (s.withRge { s.rge with expansionHold := raiseHolding s.rge.expansionHold level }), .accepted)
  else (s, .state)

/-- RELEASE EXPANSION (R39). -/
def cmdReleaseExpansion (level : Nat) (s : State) : State × Reason :=
  if s.rge.expansionHold.isNone then (s, .state)
  else if !outranks level s.rge.expansionHold then (s, .authority)
  else (startExpansion (s.withRge { s.rge with expansionHold := none }), .accepted)

/-- TAKE MANUAL CONTROL (R40). -/
def cmdTakeManualControl (s : State) : State × Reason :=
  if !s.inAlarm then (s, .state)
  else if s.rge.manual.isSome then (s, .accepted)
  else (stopExpansion (s.withRge { s.rge with manual := some 3 }), .accepted)

/-- SET FLOOR PHASE (R41). -/
def cmdSetFloorPhase (floor phase : Byte) (s : State) : State × Reason :=
  match s.floorNamed floor.toNat, phaseOf phase with
  | some f, some p =>
    if s.rge.manual.isNone || phaseRank p < phaseRank s.rge.floors[f].phase then (s, .state)
    else (stopIfAllEvacuated (raiseFloors (fun g => if g == f then p else .quiet) s), .accepted)
  | _, _ => (s, .range)

/-- RETURN TO AUTOMATIC (R42). -/
def cmdReturnToAutomatic (level : Nat) (s : State) : State × Reason :=
  if s.rge.manual.isNone then (s, .state)
  else if !outranks level s.rge.manual then (s, .authority)
  else (endManual s, .accepted)

/-- Whether some configured zone that is not ISOLATED has recorded condition ALARM (R43). -/
def State.conditionPresent (s : State) : Bool :=
  (List.finRange 64).any fun z =>
    s.cfg.zones[z].configured && s.rge.zones[z].state != .isolated && s.rge.zones[z].condition == .alarm

/-- A zone after an accepted REGIME RESET (R44). -/
def resetZone (r : ZoneRec) : ZoneRec :=
  match r.state with
  | .alarm => { r with state := if r.condition == .fault then .fault else .normal, timer := none }
  | .normal | .prealarm | .fault | .isolated => r

/-- A floor of the configured range after an accepted REGIME RESET; the re-entry impaired flag is left to DSQ (R44). -/
def resetFloor (r : FloorRec) : FloorRec :=
  { r with phase := .quiet, entryTime := 0, alarmed := 0, prealarmed := 0, origin := false }

/-- The effects of an accepted REGIME RESET at RGE (R44). The origin flag of every floor is cleared with the list (R23); the rest of
the record of a floor above the top floor index is left as it is. DESIGN CHOICE (log entry 45). -/
def regimeResetEffects (s : State) : State :=
  (s.withRge { s.rge with
    zones := tab fun z => resetZone s.rge.zones[z]
    floors := tab fun f => if s.inRange f.val then resetFloor s.rge.floors[f] else { s.rge.floors[f] with origin := false }
    firstAlarms := []
    regime := .normal
    acknowledged := false
    silence := none
    evacuateAll := none
    expansionHold := none
    manual := none
    stepCount := 0
    elapsedBase := 0
    elapsedFrom := s.now
    expansionTimer := none }).deliver [.dsqRegimeReset, .lfcRegimeReset, .cueRegimeReset, .chrRegimeReset]

/-- REGIME RESET (R43, R44). -/
def cmdRegimeReset (level : Nat) (s : State) : State × Reason :=
  if s.rge.regime == .normal then (s, .state)
  else if s.conditionPresent then (s, .state)
  else if !(outranks level s.rge.silence && outranks level s.rge.evacuateAll && outranks level s.rge.expansionHold
      && outranks level s.rge.manual) then (s, .authority)
  else (regimeResetEffects s, .accepted)

/-- The source check of ISOLATE ZONE and RESTORE ZONE (R18): a FIRE PANEL port may not name a zone on another port. -/
def foreignZone (p : PortId) (z : ZoneId) (s : State) : Bool :=
  s.role p == .firePanel && (match s.cfg.zones[z].source with
    | .link q _ => q != p.val
    | .loop _ => false)

/-- A zone enters ISOLATED (R18): ZONE ISOLATED is raised before a ZONE FAULT is cleared (R17). DESIGN CHOICE (log entry 37). -/
def isolate (z : ZoneId) (s : State) : State :=
  let t := (s.setZone z { s.rge.zones[z] with state := .isolated, timer := none }).raise .zoneIsolated z.val
  t.deliver (zoneFaultNews z s t)

/-- ISOLATE ZONE (R18). -/
def cmdIsolateZone (p : PortId) (n : Byte) (s : State) : State × Reason :=
  match s.zoneNamed n.toNat with
  | none => (s, .range)
  | some z =>
    if foreignZone p z s then (s, .authority)
    else
      match s.rge.zones[z].state with
      | .alarm => (s, .state)
      | .isolated => (s, .accepted)
      | .normal | .prealarm | .fault => (isolate z s, .accepted)

/-- A zone leaves ISOLATED: it enters NORMAL and its recorded condition is applied anew (R19). ZONE ISOLATED is cleared first, and a
ZONE FAULT is raised last (R17). DESIGN CHOICE (log entry 37). -/
def restore (z : ZoneId) (s : State) : State :=
  let c := s.rge.zones[z].condition
  let s1 := (s.setZone z { s.rge.zones[z] with state := .normal }).clear .zoneIsolated z.val
  let t := conditionActs z c s1
  t.deliver (zoneFaultNews z s t)

/-- RESTORE ZONE (R19). -/
def cmdRestoreZone (p : PortId) (n : Byte) (s : State) : State × Reason :=
  match s.zoneNamed n.toNat with
  | none => (s, .range)
  | some z =>
    if foreignZone p z s then (s, .authority)
    else if s.rge.zones[z].state != .isolated then (s, .state)
    else (restore z s, .accepted)

end Sys2Proof.Machine
end

