-- ==== Sys2Proof/Machine/Lifts.lean ====
section
/-! DEFINITION. The Lift Coordinator (chapter 3, R48 to R68). -/

namespace Sys2Proof.Machine

/-- Replace a Bank Order record. -/
def State.setBank (s : State) (b : BankId) (r : BankRec) : State :=
  s.withLfc { s.lfc with banks := s.lfc.banks.set b.val r }

/-- Change a Bank Order record. -/
def State.mapBank (s : State) (b : BankId) (f : BankRec → BankRec) : State := s.setBank b (f s.lfc.banks[b])

/-- The bank of a car slot and its number within the bank: C0 to C5 for bank A, C6 to C11 for bank B (3.1). -/
def slotBank (c : CarId) : BankId := if c.val < 6 then 0 else 1
def slotNumber (c : CarId) : Nat := c.val % 6

/-- The slot of a car of a bank. -/
def carSlot (b : BankId) (k : Nat) : Option CarId := if k < 6 then toIndex 12 (6 * b.val + k) else none

/-- A configured slot: its bank is configured and its number is below the bank's car count (R48). -/
def State.slotConfigured (s : State) (c : CarId) : Bool :=
  s.cfg.banks[slotBank c].configured && slotNumber c < s.cfg.banks[slotBank c].cars

/-- The configured slots of a bank. -/
def State.slotsOf (s : State) (b : BankId) : List CarId :=
  (List.finRange 12).filter fun c => slotBank c == b && s.slotConfigured c

/-- The bank that a LIFT GROUP port names, when it is configured (R48). -/
def State.portBank (s : State) (p : PortId) : Option BankId :=
  if s.role p == .liftGroup then
    match s.cfg.ports[p].bank with
    | some b => if s.cfg.banks[b].configured then some b else none
    | none => none
  else none

/-- A zone carries the flag of a bank (1.4). -/
def State.zoneFlag (s : State) (z : ZoneId) (b : BankId) : Bool :=
  if b.val == 0 then s.cfg.zones[z].flagA else s.cfg.zones[z].flagB

/-! ## Landing (R57, R58) -/

/-- The lobby test of a landing floor (R57). -/
def State.lobbyTest (s : State) (b : BankId) (floor : Nat) : Bool :=
  (List.finRange 64).any fun z =>
    s.cfg.zones[z].configured && s.cfg.zones[z].kind == .lobbyDetector && s.zoneFlag z b
      && s.cfg.zones[z].floor == floor && s.rge.zones[z].state == .alarm

/-- The landing that the Zone Table selects for a bank (R57). -/
def State.landingFor (s : State) (b : BankId) : Landing :=
  if s.lobbyTest b s.cfg.banks[b].designated && !s.lobbyTest b s.cfg.banks[b].alternate then .alternate
  else .designated

/-! ## Recall (R52) -/

/-- Raise a bank's order to at least RECALL, with a reason added by `add` (R52). -/
def raiseRecall (b : BankId) (add : Reasons → Reasons) (s : State) : State :=
  s.mapBank b fun r =>
    if r.order == .none then
      { r with order := .recall, landing := s.landingFor b, reasons := add r.reasons }
    else { r with reasons := add r.reasons }

/-- A lobby alarm on the designated landing repeats the landing test of a bank whose landing is DESIGNATED (R58). -/
def switchLanding (b : BankId) (z : ZoneId) (s : State) : State :=
  s.mapBank b fun r =>
    if r.order != .none && r.landing == .designated && s.cfg.zones[z].floor == s.cfg.banks[b].designated then
      { r with landing := s.landingFor b }
    else r

/-- The length of a half of the lamp's cycle, in ms (R59). -/
def lampHalf : Nat := 500

/-- The warning lamp of a bank becomes FLASHING; a flashing lamp keeps its cycle (R59). -/
def flashLamp (b : BankId) (s : State) : State :=
  s.mapBank b fun r =>
    if r.flashing then r
    else { r with flashing := true, lampOn := true, lampNext := some (s.after lampHalf) }

/-! ## Shutdown and trip (R60 to R63) -/

/-- A fresh car is parked: at the recall landing with its doors open, or out of service (R61). -/
def carParked (c : CarRec) : Bool :=
  (c.mode == .atRecallLanding && c.doors == .openDoors) || c.mode == .outOfService

/-- A bank is parked (R61). -/
def State.bankParked (s : State) (b : BankId) : Bool :=
  let fresh := (s.slotsOf b).filter fun c => !s.lfc.cars[c].stale
  !fresh.isEmpty && fresh.all fun c => carParked s.lfc.cars[c]

/-- A bank trips (R63). -/
def tripBank (b : BankId) (s : State) : State :=
  s.mapBank b fun r => { r with order := .tripped, phaseII := false, timer := none }

/-- The parked test of R61. -/
def parkedTest (b : BankId) (s : State) : State := if s.bankParked b && s.inAlarm then tripBank b s else s

/-- A shaft sprinkler alarm at a bank (R60). -/
def sprinklerAlarm (b : BankId) (s : State) : State :=
  let addReason := fun (q : Reasons) => { q with sprinkler := true }
  let timer := some (s.after (s.cfg.tShutdown * 1000))
  match s.lfc.banks[b].order with
  | .none =>
    parkedTest b (s.mapBank b fun r =>
      { r with order := .shutdown, landing := s.landingFor b, timer := timer, reasons := addReason r.reasons })
  | .recall =>
    parkedTest b (s.mapBank b fun r =>
      { r with order := .shutdown, timer := timer, reasons := addReason r.reasons })
  | .shutdown | .tripped => s.mapBank b fun r => { r with reasons := addReason r.reasons }

/-! ## Deliveries to LFC -/

/-- A newly alarmed zone at one bank whose flag it carries (R53). -/
def zoneAlarmAtBank (z : ZoneId) (s : State) (b : BankId) : State :=
  if s.cfg.banks[b].configured && s.zoneFlag z b then
    match s.cfg.zones[z].kind with
    | .lobbyDetector => switchLanding b z (raiseRecall b (fun q => { q with lobby := true }) s)
    | .shaftDetector => flashLamp b (raiseRecall b (fun q => { q with shaft := true }) s)
    | .shaftSprinkler => sprinklerAlarm b s
    | .detector | .callPoint | .flowSwitch => s
  else s

/-- A newly alarmed zone reaches LFC (R53). -/
def zoneAlarmAtLfc (z : ZoneId) (s : State) : State := (List.finRange 2).foldl (zoneAlarmAtBank z) s

/-- LFC_ZONE_ALARM (R53 to R61). -/
def execLfcZoneAlarm (z : ZoneId) (s : State) : Result :=
  .next (onDelivery (.lfcZoneAlarm z) (event .lfc (zoneAlarmAtLfc z)) s)

/-- The entry to ALARM at the banks that recall on general alarm (R54). -/
def alarmEntryAtLfc (s : State) : State :=
  (List.finRange 2).foldl (fun t b =>
    if t.cfg.banks[b].configured && t.cfg.banks[b].recallOnGeneral then
      raiseRecall b (fun q => { q with general := true }) t
    else t) s

/-- LFC_ALARM_ENTRY (R54). -/
def execLfcAlarmEntry (s : State) : Result :=
  .next (onDelivery .lfcAlarmEntry (event .lfc alarmEntryAtLfc) s)

/-- The empty reason set. -/
def noReasons : Reasons := ⟨false, false, false, false, false⟩

/-- A Bank Order record after an accepted REGIME RESET (R66): an order with phase II authorised is kept over it. -/
def resetBank (r : BankRec) : BankRec :=
  let q := { r with timer := none, flashing := false, lampOn := false, lampNext := none, reasons := noReasons }
  if r.phaseII then { q with order := .recall } else { q with order := .none, landing := .designated }

/-- The reset at every configured bank (R66). -/
def resetAtLfc (s : State) : State :=
  (List.finRange 2).foldl (fun t b => if t.cfg.banks[b].configured then t.mapBank b resetBank else t) s

/-- LFC_REGIME_RESET (R66). -/
def execLfcRegimeReset (s : State) : Result :=
  .next (onDelivery .lfcRegimeReset (event .lfc resetAtLfc) s)

/-- The bank link status follows its port; at LOST every configured slot of the bank becomes stale (R51). Where two LIFT GROUP
ports name one bank, which no commit accepts (R48), it follows the delivery taken last. DESIGN CHOICE (log entry 46). -/
def presenceAtLfc (p : PortId) (q : Presence) (s : State) : State :=
  match s.portBank p with
  | none => s
  | some b =>
    let t := s.mapBank b fun r => { r with link := q }
    if q == .lost then
      t.withLfc { t.lfc with
       cars := tab fun c =>
        if (s.slotsOf b).contains c then { t.lfc.cars[c] with stale := true } else t.lfc.cars[c] }
    else t

/-- LFC_PRESENCE_CHANGE (R51, R154). -/
def execLfcPresenceChange (p : PortId) (q : Presence) (s : State) : Result :=
  .next (onDelivery (.lfcPresenceChange p q) (event .lfc (presenceAtLfc p q)) s)

/-! ## Timers of LFC -/

/-- The shutdown timer of a bank expires: the bank trips if the regime is ALARM, else the expiry is discarded (R62). -/
def shutdownExpires (b : BankId) (s : State) : State :=
  if s.inAlarm then tripBank b s else s.mapBank b fun r => { r with timer := none }

/-- SHUTDOWN_TIMER_EXPIRY (R62, R63). -/
def execShutdownTimerExpiry (b : BankId) (s : State) : Result :=
  .next (if s.due s.lfc.banks[b].timer then event .lfc (shutdownExpires b) s else s)

/-- The LAMP contact of a flashing bank toggles (R59). -/
def lampToggles (b : BankId) (s : State) : State :=
  s.mapBank b fun r => { r with lampOn := !r.lampOn, lampNext := r.lampNext.map (· + lampHalf) }

/-- LAMP_HALF_CYCLE (R59): the contact's position is no readable record. -/
def execLampHalfCycle (b : BankId) (s : State) : Result :=
  .next (if s.due s.lfc.banks[b].lampNext then lampToggles b s else s)

/-! ## CAR REPORT (R49) -/

/-- A car's entry as one entry of a CAR REPORT rewrites it: the position clamped to the bank's served range. -/
def carFrom (k : BankCfg) (e : CarEntry) (m : Motion) (d : CarDoors) (o : CarMode) : CarRec :=
  { position := if e.position < k.lowest then k.lowest else if k.highest < e.position then k.highest else e.position
    motion := m
    doors := d
    mode := o
    stale := false }

/-- One entry of a CAR REPORT for a bank; it is ignored when its car number or one of its codes is out of range. -/
def carEntryTaken (b : BankId) (s : State) (e : CarEntry) : State :=
  match carSlot b e.car, motionOf e.motion, carDoorsOf e.doors, carModeOf e.mode with
  | some c, some m, some d, some o =>
    if e.car < s.cfg.banks[b].cars then
      s.withLfc { s.lfc with cars := s.lfc.cars.set c.val (carFrom s.cfg.banks[b] e m d o) }
    else s
  | _, _, _, _ => s

/-- The entries of a CAR REPORT in order, then the parked test if the order is SHUTDOWN (R49). -/
def carReportTaken (b : BankId) (es : List CarEntry) (s : State) : State :=
  let t := es.foldl (carEntryTaken b) s
  if t.lfc.banks[b].order == .shutdown then parkedTest b t else t

/-! ## Lift commands -/

/-- RECALL BANK (R55). -/
def cmdRecallBank (n : Byte) (s : State) : State × Reason :=
  match s.bankNamed n.toNat with
  | none => (s, .range)
  | some b => (raiseRecall b (fun q => { q with manual := true }) s, .accepted)

/-- A bank's order returns to NONE (R58). -/
def endOrder (r : BankRec) : BankRec := { r with order := .none, landing := .designated }

/-- CANCEL RECALL (R56). -/
def cmdCancelRecall (n : Byte) (s : State) : State × Reason :=
  match s.bankNamed n.toNat with
  | none => (s, .range)
  | some b =>
    let r := s.lfc.banks[b]
    if r.order == .recall && r.reasons == { noReasons with manual := true } && !r.phaseII then
      (s.mapBank b fun r => endOrder { r with reasons := noReasons }, .accepted)
    else (s, .state)

/-- AUTHORISE PHASE II (R64). -/
def cmdAuthorisePhaseII (n : Byte) (s : State) : State × Reason :=
  match s.bankNamed n.toNat with
  | none => (s, .range)
  | some b =>
    match s.lfc.banks[b].order with
    | .none | .tripped => (s, .state)
    | .recall | .shutdown => (s.mapBank b fun r => { r with phaseII := true }, .accepted)

/-- WITHDRAW PHASE II (R65). -/
def cmdWithdrawPhaseII (n : Byte) (s : State) : State × Reason :=
  match s.bankNamed n.toNat with
  | none => (s, .range)
  | some b =>
    if !s.lfc.banks[b].phaseII then (s, .state)
    else
      (s.mapBank b fun r =>
        if r.order == .recall && r.reasons == noReasons then endOrder { r with phaseII := false }
        else { r with phaseII := false }, .accepted)

end Sys2Proof.Machine
end

