-- ==== Sys2Proof/Machine/Doors.lean ====
section
/-! DEFINITION. The Door Sequencer: door points and release queues (chapter 4), pacing, the hold budget and takeover
(chapter 5). -/

namespace Sys2Proof.Machine

/-! ## Records -/

def State.setDoor (s : State) (d : DoorId) (r : DoorState) : State :=
  s.withDsq { s.dsq with doors := s.dsq.doors.set d.val r }

def State.setGroup (s : State) (g : GroupId) (r : GroupRec) : State :=
  s.withDsq { s.dsq with groups := s.dsq.groups.set g.val r }

/-- Change the record of a group. -/
def State.mapGroup (s : State) (g : GroupId) (f : GroupRec → GroupRec) : State := s.setGroup g (f s.dsq.groups[g])

/-- A configured STRIKE of the table. -/
def State.isStrike (s : State) (d : DoorId) : Bool := s.cfg.doors[d].configured && s.cfg.doors[d].kind == .strike

/-- A configured MAGNET of the table. -/
def State.isMagnet (s : State) (d : DoorId) : Bool := s.cfg.doors[d].configured && s.cfg.doors[d].kind == .magnet

/-- A configured strike of a group. -/
def State.strikeOf (s : State) (g : GroupId) (d : DoorId) : Bool := s.isStrike d && s.cfg.doors[d].group == g.val

def DoorState.inRamp (d : DoorState) : Bool :=
  match d with
  | .ramp _ => true
  | _ => false

/-- Some strike of a group is in ENERGISING with sub-phase RAMP (R93). -/
def State.anyRamp (s : State) (g : GroupId) : Bool :=
  (List.finRange 128).any fun d => s.strikeOf g d && s.dsq.doors[d].inRamp

/-- The number of FAILED configured strikes of a floor (R82). -/
def State.failedStrikes (s : State) (f : FloorId) : Nat :=
  ((List.finRange 128).filter fun d =>
    s.isStrike d && s.cfg.doors[d].floor == f.val && s.dsq.doors[d] == .failed).length

/-! ## Release queues (4.4) -/

/-- The class of a floor read at a DSQ event: 0 for an origin floor, 1 for another floor in EVACUATE, 2 otherwise (R72). -/
def State.floorClass (s : State) (floor : Nat) : Nat :=
  match rowAt s.rge.floors floor with
  | some r => if r.origin then 0 else if r.phase == .evacuate then 1 else 2
  | none => 2

/-- Append an entry at the tail of its class. -/
def insertEntry (q : List QueueEntry) (e : QueueEntry) : List QueueEntry :=
  q.takeWhile (fun x => decide (x.cls ≤ e.cls)) ++ e :: q.dropWhile (fun x => decide (x.cls ≤ e.cls))

/-- The strikes that an event queues are SECURED ones that it names (R74). -/
def State.queueable (s : State) (names : DoorId → Bool) (d : DoorId) : Bool :=
  s.isStrike d && names d && s.dsq.doors[d] == .secured

/-- The entries an event appends to a group's queue, in ascending order of door point number (R74). -/
def newEntries (s : State) (names : DoorId → Bool) (g : GroupId) : List QueueEntry :=
  ((List.finRange 128).filter fun d => s.strikeOf g d && s.queueable names d).map
    fun d => ⟨d, s.floorClass s.cfg.doors[d].floor⟩

/-- Queue every SECURED strike that an event names (R74). -/
def queueStrikes (names : DoorId → Bool) (s : State) : State :=
  s.withDsq { s.dsq with
   doors := tab fun d => if s.queueable names d then .queued else s.dsq.doors[d]
   groups := tab fun g =>
    { s.dsq.groups[g] with queue := (newEntries s names g).foldl insertEntry s.dsq.groups[g].queue } }

/-- An entry whose class is higher-numbered than its floor's class, on a floor that the delivery names (R75). -/
def promotable (floors : List FloorId) (s : State) (e : QueueEntry) : Bool :=
  floors.any (fun f => s.cfg.doors[e.door].floor == f.val) && s.floorClass s.cfg.doors[e.door].floor < e.cls

/-- Promotion in one queue: promoted entries keep their relative order, each behind the entries of its new class (R75). -/
def promoteQueue (floors : List FloorId) (s : State) (q : List QueueEntry) : List QueueEntry :=
  ((q.filter (promotable floors s)).map fun e => { e with cls := s.floorClass s.cfg.doors[e.door].floor }).foldl
    insertEntry (q.filter fun e => !promotable floors s e)

/-- Promotion in every queue (R75). -/
def promote (floors : List FloorId) (s : State) : State :=
  s.withDsq { s.dsq with
   groups := tab fun g => { s.dsq.groups[g] with queue := promoteQueue floors s s.dsq.groups[g].queue } }

/-! ## The gap (R91) -/

/-- The inrush interval in units of 1/256 ms. -/
def inrush (k : GroupCfg) (w : Nat) : Nat := w * 2 ^ k.scale * 65536 / k.ratio

/-- The total with the carry. -/
def gapTotal (k : GroupCfg) (w carry : Nat) : Nat := inrush k w + carry

/-- The whole milliseconds of the total. -/
def gapWhole (k : GroupCfg) (w carry : Nat) : Nat := gapTotal k w carry / 256

/-- The new carry. -/
def gapCarry (k : GroupCfg) (w carry : Nat) : Nat := gapTotal k w carry % 256

/-- The gap of the group's mode. -/
def gap (k : GroupCfg) (w carry : Nat) : Nat :=
  match k.mode with
  | some .max => max k.gMin (gapWhole k w carry)
  | some .sum => k.gMin + gapWhole k w carry
  | none => Config.unstatedGap k.gMin (gapWhole k w carry)

/-! ## Release attempts (R89, R90) -/

/-- The ramp of a strike, in ms (R77). -/
def rampTime : Nat := 50

/-- The first entry of a group's queue that fits its hold budget (R90). -/
def State.fitting (s : State) (g : GroupId) : Option QueueEntry :=
  s.dsq.groups[g].queue.find? fun e =>
    decide (s.dsq.groups[g].holdSum + s.cfg.doors[e.door].hold ≤ s.cfg.groups[g].budget)

/-- A group's record after a release is issued for an entry (R90, R91, R92). -/
def issuedGroup (s : State) (g : GroupId) (e : QueueEntry) (r : GroupRec) : GroupRec :=
  let k := s.cfg.groups[g]
  let w := s.cfg.doors[e.door].weight
  let pause := gap k w r.carry
  { r with
    queue := r.queue.erase e
    holdSum := r.holdSum + s.cfg.doors[e.door].hold
    carry := gapCarry k w r.carry
    nextRelease := s.after pause
    pacing := if pause == 0 then none else some (s.after pause)
    zeroGap := pause == 0
    limited := false }

/-- A release is issued for an entry (R77, R90). -/
def issueRelease (g : GroupId) (e : QueueEntry) (s : State) : State :=
  (s.setDoor e.door (.ramp (s.after rampTime))).setGroup g (issuedGroup s g e s.dsq.groups[g])

/-- A release attempt of a group (R89, R90). -/
def attempt (g : GroupId) (s : State) : State :=
  if s.dsq.groups[g].takeover == .owned && s.inAlarm && !s.dsq.groups[g].queue.isEmpty then
    match s.fitting g with
    | some e => issueRelease g e s
    | none => (s.mapGroup g fun r => { r with limited := true }).raise .supplyLimit g.val
  else s

/-- The attempt that appended entries make when the next release may be issued already (R89). -/
def attemptIfAppended (before : State) (s : State) (g : GroupId) : State :=
  if before.dsq.groups[g].queue.length < s.dsq.groups[g].queue.length && s.dsq.groups[g].nextRelease ≤ s.now then
    attempt g s
  else s

/-- The attempts of an event that appended entries to queues. -/
def attemptsAfter (before : State) (s : State) : State := (List.finRange 4).foldl (attemptIfAppended before) s

/-! ## Takeover (5.6) -/

/-- A group enters TAKEN (R95): its drivers follow the drive line, and LIMITED becomes no. -/
def enterTaken (g : GroupId) (s : State) : State :=
  s.mapGroup g fun r =>
    { r with takeover := .taken, limited := false, pacing := if r.takeover == .reacquiring then none else r.pacing }

/-- A group enters HANDING OVER (R93, R94). -/
def enterHandover (g : GroupId) (s : State) : State :=
  s.mapGroup g fun r => { r with takeover := .handingOver, limited := false }

/-- The request line asserted at a group that is OWNED or REACQUIRING (R93). -/
def takeRequest (g : GroupId) (s : State) : State :=
  match s.dsq.groups[g].takeover with
  | .owned | .reacquiring => if s.anyRamp g then enterHandover g s else enterTaken g s
  | .handingOver | .taken => s

/-- A group is handed back (R96): carry 0, the next release G_min later, the pacing timer towards it, REACQUIRING. With a
G_min of 0 the timer is due at this instant, and the group passes on to OWNED in a further event. -/
def handBack (g : GroupId) (s : State) : State :=
  s.mapGroup g fun r =>
    { r with
      takeover := .reacquiring
      carry := 0
      nextRelease := s.after s.cfg.groups[g].gMin
      pacing := some (s.after s.cfg.groups[g].gMin) }

/-- The end of a handover, when no strike of the group is in RAMP (R94). -/
def endHandover (g : GroupId) (s : State) : State :=
  if s.dsq.groups[g].takeover == .handingOver && !s.anyRamp g then
    if s.dsq.groups[g].request then enterTaken g s else handBack g s
  else s

/-! ## What an event at DSQ raises, clears and writes -/

/-- The DOOR FAILED raises and clears of an event (R81), in rising order of the door points. DESIGN CHOICE (log entry 37). -/
def doorTroubles (s t : State) : List Instr :=
  (List.finRange 128).flatMap fun d =>
    if s.isStrike d then troubleChange .doorFailed d.val (s.dsq.doors[d] == .failed) (t.dsq.doors[d] == .failed)
    else []

/-- The clears of SUPPLY LIMIT and the raises and clears of TAKEOVER ACTIVE of an event (R90, R94 to R98), in rising order of
the groups; of one group SUPPLY LIMIT's clear stands before TAKEOVER ACTIVE's raise, which R95 names first. DESIGN CHOICE (log
entry 37). -/
def groupTroubles (s t : State) : List Instr :=
  (List.finRange 4).flatMap fun g =>
    (if s.dsq.groups[g].limited && !t.dsq.groups[g].limited then [.troubleClear .supplyLimit g.val] else [])
      ++ troubleChange .takeoverActive g.val (s.dsq.groups[g].takeover == .taken) (t.dsq.groups[g].takeover == .taken)

/-- The re-entry impaired writes of an event (R82), in rising order of the floors. DESIGN CHOICE (log entry 37). -/
def impairedWrites (s t : State) : List Instr :=
  (List.finRange 32).flatMap fun f =>
    if (s.failedStrikes f == 0) == (t.failedStrikes f == 0) then []
    else [.reentryImpairedWrite f (t.failedStrikes f != 0)]

/-- A DSQ event without its part of the change counter. Behind the SUPPLY LIMIT raises of its attempts it delivers the DOOR FAILED
raises and clears, then those of the groups, so that a REGIME RESET that ends a handover clears DOOR FAILED before it raises
TAKEOVER ACTIVE (R83, R98), then the impaired writes. DESIGN CHOICE (log entry 37). -/
def dsqChange (f : State → State) (s : State) : State :=
  let t := f s
  t.deliver (doorTroubles s t ++ groupTroubles s t ++ impairedWrites s t)

/-- An event at DSQ. -/
def dsqEvent (f : State → State) (s : State) : State := event .dsq (dsqChange f) s

/-! ## Deliveries from RGE -/

/-- The floors of a phase change whose new phase is ALERT or EVACUATE (R73, R74): the phase that the delivery carries, though a later
event may have changed the Floor Table since (R72). DESIGN CHOICE (log entry 54). -/
def raisedFloors (fs : List (FloorId × Phase)) : List FloorId :=
  (fs.filter fun x => x.2 != .quiet).map Prod.fst

/-- A door point lies on one of some floors. -/
def State.doorOn (s : State) (fs : List FloorId) (d : DoorId) : Bool := fs.any fun f => s.cfg.doors[d].floor == f.val

/-- The magnets of some floors drop (R73). -/
def dropMagnets (fs : List FloorId) (s : State) : State :=
  s.withDsq { s.dsq with
   doors := tab fun d =>
    if s.isMagnet d && s.doorOn fs d && s.dsq.doors[d] == .holding then .dropped else s.dsq.doors[d] }

/-- A phase change at DSQ: it is discarded while the regime read is not ALARM (R72); otherwise magnets drop (R73), strikes
are queued (R74), entries are promoted (R75), and groups that appended entries may make an attempt (R89). DEDUCED (log
entry 14): strikes are queued before entries are promoted. -/
def phaseChangeAtDsq (fs : List (FloorId × Phase)) (s : State) : State :=
  if s.inAlarm then
    let raised := raisedFloors fs
    let queued := queueStrikes (s.doorOn raised) (dropMagnets raised s)
    attemptsAfter s (promote (fs.map Prod.fst) queued)
  else s

/-- DSQ_PHASE_CHANGE (R72 to R75, R89). -/
def execDsqPhaseChange (fs : List (FloorId × Phase)) (s : State) : Result :=
  .next (onDelivery (.dsqPhaseChange fs) (dsqEvent (phaseChangeAtDsq fs)) s)

/-- DSQ_LIST_APPEND (R72, R75). -/
def execDsqListAppend (f : FloorId) (s : State) : Result :=
  .next (onDelivery (.dsqListAppend f) (dsqEvent fun s => if s.inAlarm then promote [f] s else s) s)

/-- A group's pacing at an accepted REGIME RESET (R98), before the end of a handover. -/
def resetGroup (s : State) (r : GroupRec) : GroupRec :=
  let q := { r with queue := [], holdSum := 0, carry := 0, limited := false, zeroGap := false }
  match r.takeover with
  | .owned => { q with nextRelease := s.now, pacing := none }
  | .handingOver | .taken | .reacquiring => q

/-- The door points at an accepted REGIME RESET (R83). -/
def resetDoor (s : State) (d : DoorId) : DoorState :=
  if s.isStrike d then .secured else if s.isMagnet d then .holding else s.dsq.doors[d]

/-- An accepted REGIME RESET at DSQ (R83, R98). -/
def resetAtDsq (s : State) : State :=
  let t := s.withDsq
    { doors := tab fun d => resetDoor s d
      groups := tab fun g => resetGroup s s.dsq.groups[g] }
  (List.finRange 4).foldl (fun u g => endHandover g u) t

/-- DSQ_REGIME_RESET (R83, R98). -/
def execDsqRegimeReset (s : State) : Result := .next (onDelivery .dsqRegimeReset (dsqEvent resetAtDsq) s)

/-! ## RELEASE ALL DOORS (R76) -/

def cmdReleaseAllDoors (s : State) : State × Reason :=
  if s.inAlarm then (attemptsAfter s (queueStrikes (fun _ => true) s), .accepted) else (s, .state)

/-! ## Timers of DSQ -/

/-- The pacing timer of a group expires (R86, R89, R94, R95, R97). -/
def pacingExpires (g : GroupId) (s : State) : State :=
  let t := s.mapGroup g fun r => { r with pacing := none }
  match s.dsq.groups[g].takeover with
  | .owned => attempt g t
  | .reacquiring => attempt g (t.mapGroup g fun r => { r with takeover := .owned })
  | .handingOver | .taken => t

/-- PACING_TIMER_EXPIRY (R89, R97). -/
def execPacingTimerExpiry (g : GroupId) (s : State) : Result :=
  .next (if s.due s.dsq.groups[g].pacing then dsqEvent (pacingExpires g) s else s)

/-- ZERO_GAP_ATTEMPT (R89): the further attempt after a release whose gap was 0. -/
def execZeroGapAttempt (g : GroupId) (s : State) : Result :=
  .next (if s.dsq.groups[g].zeroGap then
    dsqEvent (fun s => attempt g (s.mapGroup g fun r => { r with zeroGap := false })) s else s)

/-- The stable band of a strike's feedback loop, read from the Loop Scanner (R78). -/
def State.feedbackBand (s : State) (d : DoorId) : Option Band :=
  match s.cfg.doors[d].feedback with
  | some n => (rowAt s.lsc.loops n).map (·.stable)
  | none => none

/-- A strike at the end of its ramp (R78). -/
def State.afterRamp (s : State) (d : DoorId) : DoorState :=
  match s.feedbackBand d with
  | none => .released
  | some .normal => .released
  | some .alarm | some .openLine | some .short => .verify (s.after s.cfg.tDoorVerify)

/-- The group that a strike names. -/
def State.groupOf (s : State) (d : DoorId) : Option GroupId := toIndex 4 s.cfg.doors[d].group

/-- A strike's ramp ends, and with the last ramp of its group a handover (R78, R94). -/
def rampEnds (d : DoorId) (s : State) : State :=
  let t := s.setDoor d (s.afterRamp d)
  match s.groupOf d with
  | some g => endHandover g t
  | none => t

/-- The instant at which a strike's ramp ends. -/
def DoorState.rampTimer (r : DoorState) : Option Nat :=
  match r with
  | .ramp t => some t
  | _ => none

/-- The expiry of a strike's verify timer. -/
def DoorState.verifyTimer (r : DoorState) : Option Nat :=
  match r with
  | .verify t => some t
  | _ => none

/-- RAMP_END (R78, R94). -/
def execRampEnd (d : DoorId) (s : State) : Result :=
  .next (if s.due s.dsq.doors[d].rampTimer then dsqEvent (rampEnds d) s else s)

/-- DOOR_VERIFY_TIMER_EXPIRY (R79). -/
def execDoorVerifyTimerExpiry (d : DoorId) (s : State) : Result :=
  .next (if s.due s.dsq.doors[d].verifyTimer then dsqEvent (fun s => s.setDoor d .failed) s else s)

/-! ## Feedback (R79, R80) -/

/-- A strike's state after a change of its feedback loop's stable band. -/
def feedbackActs (b : Band) (r : DoorState) : DoorState :=
  match r, b with
  | .verify _, .normal => .released
  | .released, .alarm => .failed
  | .failed, .normal => .released
  | _, _ => r

/-- A band change reaches every strike that names the loop, each according to its own state (R79, R80). -/
def feedbackAtDsq (l : LoopId) (b : Band) (s : State) : State :=
  s.withDsq { s.dsq with
   doors := tab fun d =>
    if s.isStrike d && s.cfg.doors[d].feedback == some l.val then feedbackActs b s.dsq.doors[d]
    else s.dsq.doors[d] }

/-- DSQ_FEEDBACK_BAND (R79, R80). -/
def execDsqFeedbackBand (l : LoopId) (b : Band) (s : State) : Result :=
  .next (onDelivery (.dsqFeedbackBand l b) (dsqEvent (feedbackAtDsq l b)) s)

/-! ## The takeover lines (5.6) -/

/-- TAKEOVER_REQUEST_ASSERTED (R93): a change of the line; in CONFIG FAULT only its level stands (R171). -/
def execTakeoverRequestAsserted (g : GroupId) (s : State) : Result :=
  .next (if s.dsq.groups[g].request then s
    else
      let f := fun (u : State) => u.mapGroup g fun r => { r with request := true }
      if s.configFault then f s else dsqEvent (fun u => takeRequest g (f u)) s)

/-- TAKEOVER_REQUEST_RELEASED (R94, R96). -/
def execTakeoverRequestReleased (g : GroupId) (s : State) : Result :=
  .next (if !s.dsq.groups[g].request then s
    else
      let f := fun (u : State) => u.mapGroup g fun r => { r with request := false }
      if s.configFault then f s
      else dsqEvent (fun u => if u.dsq.groups[g].takeover == .taken then handBack g (f u) else f u) s)

/-- TAKEOVER_DRIVE_CHANGE (R95): the drivers of a TAKEN group follow the level (`State.doorDriver`). -/
def execTakeoverDriveChange (g : GroupId) (level : Bool) (s : State) : Result :=
  .next (s.mapGroup g fun r => { r with drive := level })

end Sys2Proof.Machine
end

