-- ==== Sys2Proof/Machine/Cues.lean ====
section
/-! DEFINITION. The Cue Engine (chapter 6): Zone Demand records, programmes and chains. -/

namespace Sys2Proof.Machine

/-! ## Records -/

def State.setDemand (s : State) (z : SpeakerId) (r : ZoneDemand) : State :=
  s.withCue { s.cue with zones := s.cue.zones.set z.val r }

def State.setChain (s : State) (c : ChannelId) (k : Option Chain) : State :=
  s.withCue { s.cue with chains := s.cue.chains.set c.val k }

def State.setChannel (s : State) (c : ChannelId) (r : ChannelRec) : State :=
  s.withChr { s.chr with channels := s.chr.channels.set c.val r }

/-- Change the record of a channel. -/
def State.mapChannel (s : State) (c : ChannelId) (f : ChannelRec → ChannelRec) : State :=
  s.setChannel c (f s.chr.channels[c])

/-! ## Effective demand (R106) -/

/-- The priority number of a demand: 0 is the highest priority (R106). -/
def demandPriority (d : Demand) : Nat :=
  match d with
  | .live .liveC => 0
  | .fire _ .evac => 1
  | .fire _ .alert => 2
  | .live .liveP => 3
  | .tenant _ _ => 4

/-- A demand with its demand instant and whether its complete flag is set. -/
structure Claim where
  demand : Demand
  instant : Nat
  complete : Bool
  deriving DecidableEq, Repr

/-- The claims that the present slots of a Zone Demand record make (6.4). -/
def slotClaims (r : ZoneDemand) : List Claim :=
  (r.fire.toList.map fun f => ⟨.fire f.cue f.prio, f.instant, f.complete⟩)
    ++ (r.live.toList.map fun l => ⟨.live l.source, l.instant, false⟩)
    ++ (r.tenant.toList.map fun t => ⟨.tenant t.ticket t.cue, t.instant, t.complete⟩)

/-- The claim of the lower priority number. -/
def strongerClaim (a b : Claim) : Claim := if demandPriority b.demand < demandPriority a.demand then b else a

/-- The claim whose priority number is lowest. -/
def strongest (cs : List Claim) : Option Claim :=
  match cs with
  | [] => none
  | c :: rest => some (rest.foldl strongerClaim c)

/-- The effective claim of a record (R106). -/
def effective (r : ZoneDemand) : Option Claim := strongest (slotClaims r)

/-- A zone whose effective demand is a slot with its complete flag set rests (R106). -/
def rests (r : ZoneDemand) : Bool := (effective r).any (·.complete)

/-- The claim that puts a zone into a programme: its effective claim, unless the zone rests (R110). -/
def hearing (r : ZoneDemand) : Option Claim :=
  match effective r with
  | some c => if c.complete then none else some c
  | none => none

/-! ## Programmes (R110) -/

/-- The programme a configured speaker zone belongs to. -/
def State.programmeOf (s : State) (z : SpeakerId) : Option Demand :=
  if s.speakerConfigured z then (hearing s.cue.zones[z]).map (·.demand) else none

/-- The demand set of a programme. -/
def State.demandSet (s : State) (d : Demand) : List SpeakerId :=
  (List.finRange 36).filter fun z => s.programmeOf z == some d

/-- The earlier of an instant and the instants seen so far. -/
def earlier (a : Option Nat) (b : Nat) : Option Nat := some (a.elim b (min b))

/-- The demand instant of a programme: the earliest among the slots of its zones. -/
def State.demandInstant (s : State) (d : Demand) : Option Nat :=
  (s.demandSet d).foldl (fun t z => (hearing s.cue.zones[z]).elim t fun c => earlier t c.instant) none

/-- The programmes that exist, each once. -/
def State.programmes (s : State) : List Demand := ((List.finRange 36).filterMap s.programmeOf).eraseDups

/-- The channel that holds a programme. -/
def State.holder (s : State) (d : Demand) : Option ChannelId :=
  (List.finRange 4).find? fun c => s.chr.channels[c].grant.any fun g => g.prog.demand == d

/-! ## The monitored channel (R135) -/

/-- The channel that the monitor selection names as the state stands. -/
def State.monitorTarget (s : State) : Option ChannelId :=
  match s.chr.selection with
  | .off => none
  | .channel c => some c
  | .followOrigin =>
    match s.rge.firstAlarms.head? with
    | none => none
    | some f => (List.finRange 4).find? fun c => s.chr.channels[c].zoneSet.any fun z => z.val == f.val

/-- Work out the monitored channel afresh (R135). -/
def remonitor (s : State) : State := s.withChr { s.chr with monitored := s.monitorTarget }

/-- The zone sets of the four channels. -/
def State.zoneSets (s : State) : List (List SpeakerId) := s.chr.channels.toList.map (·.zoneSet)

/-- Work out the monitored channel afresh when an event from `s` to `t` changed a zone set or the selection (R135). -/
def remonitorIfMoved (s t : State) : State :=
  t.withChr { t.chr with
    monitored :=
      if s.zoneSets == t.zoneSets && s.chr.selection == t.chr.selection then t.chr.monitored else t.monitorTarget }

/-! ## What CUE hands the Channel Router (R110, R124) -/

/-- What CUE hands over about one programme between two states. -/
def newsOf (s t : State) (d : Demand) : List Instr :=
  if (s.demandSet d).isEmpty then
    if (t.demandSet d).isEmpty then []
    else
      match d with
      | .tenant k q => [.tenantProgrammeHanded k q ((t.demandInstant d).getD t.now)]
      | .fire _ _ | .live _ => [.programmeHanded d .formed ((t.demandInstant d).getD t.now)]
  else if (t.demandSet d).isEmpty then [.programmeHanded d .ended t.now]
  else if s.demandSet d == t.demandSet d && s.demandInstant d == t.demandInstant d then []
  else [.programmeHanded d .changed ((t.demandInstant d).getD t.now)]

/-- A programme is handed over before another of the same event: by priority, then by demand instant (R122). -/
def State.handedBefore (t : State) (d e : Demand) : Bool :=
  if demandPriority d != demandPriority e then demandPriority d < demandPriority e
  else (t.demandInstant d).getD t.now < (t.demandInstant e).getD t.now

/-- Put a programme among others in the order in which they are handed over. -/
def handInsert (t : State) (d : Demand) (ds : List Demand) : List Demand :=
  ds.takeWhile (fun e => !t.handedBefore d e) ++ d :: ds.dropWhile (fun e => !t.handedBefore d e)

/-- The new programmes of an event in the order of the waiting programmes (R122): those of equal priority and instant stay in
the order of their lowest zones. DEDUCED (log entry 19). -/
def newProgrammes (s t : State) : List Demand :=
  (t.programmes.filter fun d => !s.programmes.contains d).foldl (fun ds d => handInsert t d ds) []

/-- What CUE hands over between two states: changes to programmes that were there, then the new ones. -/
def cueNews (s t : State) : List Instr := s.programmes.flatMap (newsOf s t) ++ (newProgrammes s t).flatMap (newsOf s t)

/-- The zones that left the programme they belonged to between two states. -/
def State.left (s t : State) (z : SpeakerId) : Bool :=
  (s.programmeOf z).isSome && s.programmeOf z != t.programmeOf z

/-- Zones that left their programme leave its channel's zone set at once, and their pending joins are cancelled (R125). -/
def zonesLeave (s t : State) : State :=
  t.withChr { t.chr with
   channels := tab fun c =>
    { t.chr.channels[c] with
      zoneSet := t.chr.channels[c].zoneSet.filter fun z => !s.left t z
      joins := t.chr.channels[c].joins.filter fun z => !s.left t z } }

/-- A programme that ended between two states. -/
def endedBetween (s t : State) (d : Demand) : Bool := !(s.demandSet d).isEmpty && (t.demandSet d).isEmpty

/-- The chain of a channel is cleared when its programme's demand set has emptied (R115). -/
def chainsEnd (s t : State) : State :=
  t.withCue { t.cue with
   chains := tab fun c =>
    if t.chr.channels[c].grant.any fun g => endedBetween s t g.prog.demand then none else t.cue.chains[c] }

/-- A CUE event without its part of the change counter: the change, the zones that leave, the chains that end, the monitored
channel, and what is handed to the Channel Router (R106, R110, R115, R125). -/
def cueChange (f : State → State) (s : State) : State :=
  let t := f s
  (remonitorIfMoved s (chainsEnd s (zonesLeave s t))).deliver (cueNews s t)

/-- An event at CUE. -/
def cueEvent (f : State → State) (s : State) : State := event .cue (cueChange f) s

/-! ## Fire slots (R107) -/

/-- The target of a zone's fire slot: a start cue and a priority (R107). -/
def State.fireTarget (s : State) (z : SpeakerId) : Option (Nat × FirePriority) :=
  if !s.inAlarm then none
  else
    match toIndex 32 z.val with
    | some f =>
      match s.rge.floors[f].phase with
      | .evacuate => s.cfg.floors[f].evacuateCue.map fun q => (q, .evac)
      | .alert => if s.rge.silence.isSome then none else s.cfg.floors[f].alertCue.map fun q => (q, .alert)
      | .quiet => none
    | none => ((rowAt s.cfg.stairs (z.val - 32)).bind (·.cue)).map fun q => (q, .evac)

/-- A fire slot after a recompute with a target (R107). -/
def recomputeSlot (now : Nat) (target : Option (Nat × FirePriority)) (slot : Option FireSlot) : Option FireSlot :=
  match target with
  | none => none
  | some (q, p) =>
    match slot with
    | some f => if f.cue == q && f.prio == p then some f else some ⟨q, p, now, false⟩
    | none => some ⟨q, p, now, false⟩

/-- Recompute the fire slots of the configured zones that an event names (R107). -/
def recomputeFire (names : SpeakerId → Bool) (s : State) : State :=
  s.withCue { s.cue with
   zones := tab fun z =>
    if s.speakerConfigured z && names z then
      { s.cue.zones[z] with fire := recomputeSlot s.now (s.fireTarget z) s.cue.zones[z].fire }
    else s.cue.zones[z] }

/-- CUE_PHASE_CHANGE (R107): the floor zones of the floors it names. -/
def execCuePhaseChange (fs : List (FloorId × Phase)) (s : State) : Result :=
  .next (onDelivery (.cuePhaseChange fs)
    (cueEvent (recomputeFire fun z => fs.any fun x => x.1.val == z.val)) s)

/-- CUE_ALARM_ENTRY (R107): every configured zone. -/
def execCueAlarmEntry (s : State) : Result :=
  .next (onDelivery .cueAlarmEntry (cueEvent (recomputeFire fun _ => true)) s)

/-- CUE_SILENCE_CHANGE (R107, R108): every floor zone. -/
def execCueSilenceChange (s : State) : Result :=
  .next (onDelivery .cueSilenceChange (cueEvent (recomputeFire fun z => z.val < 32)) s)

/-- CUE_REGIME_RESET (R107): every configured zone. -/
def execCueRegimeReset (s : State) : Result :=
  .next (onDelivery .cueRegimeReset (cueEvent (recomputeFire fun _ => true)) s)

/-! ## Live and tenant slots (R109) -/

/-- A live slot after a write (R109, R133): LIVE-C replaces LIVE-P, LIVE-P leaves LIVE-C, and a clear clears the slot that
holds its source. -/
def writeLive (now : Nat) (w : LiveWrite) (slot : Option LiveSlot) : Option LiveSlot :=
  match w, slot with
  | .put src, none => some ⟨src, now⟩
  | .put .liveC, some _ => some ⟨.liveC, now⟩
  | .put .liveP, some l => if l.source == .liveC then some l else some ⟨.liveP, now⟩
  | .erase _, none => none
  | .erase src, some l => if l.source == src then none else some l

/-- LIVE_SLOT_WRITE (R109). -/
def execLiveSlotWrite (z : SpeakerId) (w : LiveWrite) (s : State) : Result :=
  .next (onDelivery (.liveSlotWrite z w)
    (cueEvent fun s =>
      s.setDemand z { s.cue.zones[z] with live := writeLive s.now w s.cue.zones[z].live }) s)

/-- A tenant slot after a write (R109, R141, R142): a clear clears the slot that still holds the ticket. -/
def writeTenant (now : Nat) (w : TenantWrite) (slot : Option TenantSlot) : Option TenantSlot :=
  match w with
  | .put k q => some ⟨k, q, now, false⟩
  | .erase k => if slot.any fun t => t.ticket == k then none else slot

/-- TENANT_SLOT_WRITE (R109). -/
def execTenantSlotWrite (z : SpeakerId) (w : TenantWrite) (s : State) : Result :=
  .next (onDelivery (.tenantSlotWrite z w)
    (cueEvent fun s =>
      s.setDemand z { s.cue.zones[z] with tenant := writeTenant s.now w s.cue.zones[z].tenant }) s)

/-! ## Cues (6.2) -/

/-- What a cue number above Q95 reads as, which no commit accepts (R103): one block, block 0, once. DESIGN CHOICE (log entry
47). -/
def emptyCue : CueCfg := ⟨false, 0, 1, 1, 0, .always, none, none, false⟩

/-- The cue record of a number. -/
def State.cueAt (s : State) (q : Nat) : CueCfg := (rowAt s.cfg.cues q).getD emptyCue

/-- The number of blocks of a cue's played segment, clamped at the last present block (R104). A cue that no commit accepts
(R103), of length 0 or with its segment start not a present block, has 0 here and plays the block of its segment start in each
repetition. DESIGN CHOICE (log entry 47). -/
def State.playedLength (s : State) (q : Nat) : Nat :=
  min (s.cueAt q).length (s.cfg.memorySize - (s.cueAt q).start)

/-- The repetitions of a cue; none is continuous (R104). -/
def State.repetitions (s : State) (q : Nat) : Option Nat :=
  if (s.cueAt q).repeats == 0 then none else some (s.cueAt q).repeats

/-- A chain at the first block of a cue (R111, R113). -/
def State.atCue (s : State) (q started : Nat) : Chain := ⟨q, s.repetitions q, .segment 0, started⟩

/-- The message block at a chain's position; none in the gap. -/
def State.blockAt (s : State) (k : Chain) : Option Nat :=
  match k.pos with
  | .segment i => some ((s.cueAt k.cue).start + i)
  | .gap _ => none

/-- The end of a repetition: none when the cue ends (R112). -/
def endRepetition (k : Chain) : Option Chain :=
  match k.remaining with
  | none => some { k with pos := .segment 0 }
  | some r => if r ≤ 1 then none else some { k with remaining := some (r - 1), pos := .segment 0 }

/-- The position after a block boundary within a cue; none when the cue ends (R112). -/
def State.advance (s : State) (k : Chain) : Option Chain :=
  match k.pos with
  | .segment i =>
    if i + 1 < s.playedLength k.cue then some { k with pos := .segment (i + 1) }
    else if (s.cueAt k.cue).gap == 0 then endRepetition k
    else some { k with pos := .gap 0 }
  | .gap j =>
    if j + 1 < (s.cueAt k.cue).gap then some { k with pos := .gap (j + 1) } else endRepetition k

/-! ## Link conditions (R114) -/

/-- The re-entry condition of a zone: its own floor's flag for a floor zone, any floor's of the configured range for a stair
zone. -/
def State.zoneImpaired (s : State) (z : SpeakerId) : Bool :=
  match toIndex 32 z.val with
  | some f => s.rge.floors[f].impaired
  | none => (List.finRange 32).any fun f => s.inRange f.val && s.rge.floors[f].impaired

/-- Whether a link condition is true for a channel (R114). -/
def State.linkTrue (s : State) (c : ChannelId) (l : LinkCondition) : Bool :=
  match l with
  | .always => true
  | .liftsUnavailable => s.liftsUnavailable
  | .reentryImpaired => s.chr.channels[c].zoneSet.any s.zoneImpaired
  | .notSilenced => s.rge.silence.isNone

/-- The link that the end of a cue takes on a channel (R113). -/
def State.chosenLink (s : State) (c : ChannelId) (q : Nat) : Option Nat :=
  if s.linkTrue c (s.cueAt q).condition then (s.cueAt q).nextTrue else (s.cueAt q).nextFalse

/-! ## The read-ahead order (R128) -/

/-- The next block of a played segment within the cue, the gap left out; none at the end of its last repetition. -/
def State.nextSegment (s : State) (k : Chain) : Option Chain :=
  match k.pos with
  | .segment i =>
    if i + 1 < s.playedLength k.cue then some { k with pos := .segment (i + 1) } else endRepetition k
  | .gap _ => endRepetition k

/-- The cues whose first blocks are the candidates at a cue's end: next-if-true, then next-if-false, each once (R128). -/
def State.candidates (s : State) (q : Nat) : List Nat :=
  ((s.cueAt q).nextTrue.toList ++ (s.cueAt q).nextFalse.toList).eraseDups

/-- At most `n` message blocks that a chain will play after its present position, as far as it is decided. -/
def State.upcoming (s : State) (n : Nat) (k : Chain) : List Nat :=
  match n with
  | 0 => []
  | m + 1 =>
    match s.nextSegment k with
    | some j => (s.blockAt j).toList ++ s.upcoming m j
    | none =>
      match (s.cueAt k.cue).condition with
      | .always =>
        match (s.cueAt k.cue).nextTrue with
        | some q => (s.blockAt (s.atCue q k.started)).toList ++ s.upcoming m (s.atCue q k.started)
        | none => []
      | .liftsUnavailable | .reentryImpaired | .notSilenced =>
        (s.candidates k.cue).map fun q => (s.cueAt q).start

end Sys2Proof.Machine
end

