-- ==== Sys2Proof/Machine/Channels.lean ====
section
/-! DEFINITION. The Channel Router (chapter 7): channels and their arbiter, speaker routing, areas and the memory read port,
live programmes and the monitor output. -/

namespace Sys2Proof.Machine

/-- The length of a block, in ms (6.1). -/
def blockTime : Nat := 64

/-- The longest time of a flash read, in ms (R129, R131). -/
def readLimit : Nat := 8

/-! ## Live sources -/

def State.source (s : State) (src : LiveSourceId) : LiveRec :=
  match src with
  | .liveC => s.chr.liveC
  | .liveP => s.chr.liveP

def State.setSource (s : State) (src : LiveSourceId) (r : LiveRec) : State :=
  match src with
  | .liveC => s.withChr { s.chr with liveC := r }
  | .liveP => s.withChr { s.chr with liveP := r }

/-! ## Areas (R127) -/

/-- The size of the area joined to a channel or a live source. An image that no commit accepts can join several areas to one of
them (R127): the lowest-numbered is its area. DESIGN CHOICE (log entry 43). -/
def State.areaSize (s : State) (j : AreaJoin) : Nat :=
  (s.cfg.areas.toList.find? fun a => a.join == some j).elim 0 (·.size)

/-- Give a channel's area its non-empty slots. A read in progress whose slot is no longer filling is discarded at its
completion (R127, R129). -/
def putSlots (c : ChannelId) (slots : List Slot) (s : State) : State :=
  let t := s.mapChannel c fun r => { r with slots := slots }
  t.withChr { t.chr with
   reading := t.chr.reading.map fun r =>
    if r.channel == c && !slots.any (fun x => x.status == .filling) then { r with discarded := true } else r }

/-- The start cue of a demand; none for a live programme. -/
def startCue (d : Demand) : Option Nat :=
  match d with
  | .fire q _ => some q
  | .tenant _ q => some q
  | .live _ => none

/-- The first `n` blocks of a channel's read-ahead order (R128): before the programme begins from the first block of its
chain, afterwards from the block in progress if it holds the first slot. -/
def State.readOrder (s : State) (c : ChannelId) (n : Nat) : List Nat :=
  let r := s.chr.channels[c]
  match r.grant.bind fun g => startCue g.prog.demand with
  | none => []
  | some q =>
    if r.begun then
      match s.cue.chains[c] with
      | none => []
      | some k => (if r.headInPlay then (s.blockAt k).toList else []) ++ s.upcoming n k
    else
      (s.blockAt (s.atCue q s.now)).toList ++ s.upcoming n (s.atCue q s.now)

/-- The block that the port would read for a channel: the first of its order without a slot, while its area has an empty
slot (R129). -/
def State.nextRead (s : State) (c : ChannelId) : Option Nat :=
  let size := s.areaSize (.channel c)
  let used := s.chr.channels[c].slots.length
  if used < size then (s.readOrder c size)[used]? else none

/-- The channels in the order in which the port considers them: from the one after the last served (R129). -/
def State.portOrder (s : State) : List ChannelId :=
  (List.range 4).map fun i => Fin.ofNat 4 (s.chr.lastServed.val + 1 + i)

/-- The port, when idle, begins a read for the first eligible channel (R129). -/
def kickPort (s : State) : State :=
  match s.chr.reading with
  | some _ => s
  | none =>
    match s.portOrder.findSome? fun c => (s.nextRead c).map fun b => (c, b) with
    | none => s
    | some (c, b) =>
      let t := s.mapChannel c fun r => { r with slots := r.slots ++ [⟨b, .filling⟩] }
      t.withChr { t.chr with reading := some ⟨c, t.now, false⟩, lastServed := c }

/-! ## Beginning (R120) -/

/-- What a slot gives to the audio output: its block, or silence when its read failed (R130, R131). -/
def slotAudio (x : Slot) : Audio :=
  match x.status with
  | .complete => .flashBlock x.block
  | .faulted | .filling => .silence

/-- The complete blocks in the ring of a live source that has completed `done` blocks, newest first (R134). The newest
blocks of the area's size stay in it. DEDUCED (log entry 28). -/
def ringBlocks (done size : Nat) : List Nat := (List.range (min done size)).map fun i => done - i

/-- What a live programme plays next: the newest block in its source's ring that it has not played since it began, or
silence; and the blocks in the ring that it has then played (R134). -/
def livePlay (src : LiveSourceId) (ring played : List Nat) : Audio × List Nat :=
  match ring.find? fun n => !played.contains n with
  | some n => (.liveBlock src n, n :: played.filter ring.contains)
  | none => (.silence, played.filter ring.contains)

/-- The complete blocks in the area of a live source. -/
def State.ring (s : State) (src : LiveSourceId) : List Nat := ringBlocks (s.source src).blocks (s.areaSize (.live src))

/-- A programme begins on its channel: its zone set becomes its demand set, the block boundaries count from now, and CUE
sets the chain working state (R111, R120, R125). -/
def beginProgramme (c : ChannelId) (d : Demand) (s : State) : State :=
  let zones := s.demandSet d
  let boundary := some (s.after blockTime)
  match d with
  | .live src =>
    let play := livePlay src (s.ring src) []
    s.mapChannel c fun r =>
      { r with begun := true, zoneSet := zones, joins := [], boundary := boundary, livePlayed := play.2, audio := play.1 }
  | .fire q _ | .tenant _ q =>
    (s.mapChannel c fun r =>
      { r with
        begun := true, zoneSet := zones, joins := [], boundary := boundary, headInPlay := true
        audio := (r.slots.head?).elim .silence slotAudio }).setChain c (some (s.atCue q s.now))

/-- A programme on a PLAYING channel begins when its source is live or its first block is complete or faulted (R120, R131). -/
def tryBegin (c : ChannelId) (s : State) : State :=
  let r := s.chr.channels[c]
  match r.grant with
  | none => s
  | some g =>
    if r.state == .playing && !r.begun then
      match startCue g.prog.demand with
      | none => beginProgramme c g.prog.demand s
      | some _ =>
        if (r.slots.head?).any fun x => x.status != .filling then beginProgramme c g.prog.demand s else s
    else s

/-! ## The channel arbiter (R122 to R124) -/

/-- A channel is free (R119). -/
def ChannelRec.free (r : ChannelRec) : Bool :=
  r.state == .standby || r.state == .ready || (r.state == .waking && r.grant.isNone)

/-- The channel that a grant chooses: READY first, then WAKING without a programme, then STANDBY, the lowest-numbered
first (R122). -/
def State.freeChoice (s : State) : Option ChannelId :=
  ((List.finRange 4).find? fun c => s.chr.channels[c].state == .ready).or
    (((List.finRange 4).find? fun c => s.chr.channels[c].state == .waking && s.chr.channels[c].grant.isNone).or
      ((List.finRange 4).find? fun c => s.chr.channels[c].state == .standby))

/-- The lowest-numbered zone of a demand set; 36 when the set is empty. -/
def State.lowestZone (s : State) (d : Demand) : Nat := (s.demandSet d).head?.elim 36 (·.val)

/-- The order of the waiting programmes: priority, demand instant, lowest-numbered zone (R122). -/
def State.goesBefore (s : State) (p q : Programme) : Bool :=
  if demandPriority p.demand != demandPriority q.demand then demandPriority p.demand < demandPriority q.demand
  else if p.instant != q.instant then p.instant < q.instant
  else s.lowestZone p.demand < s.lowestZone q.demand

/-- The first of two programmes in the order of R122. -/
def State.firstOf (s : State) (p q : Programme) : Programme := if s.goesBefore q p then q else p

/-- The head of the waiting programmes (R122). -/
def State.headWaiting (s : State) : Option Programme :=
  match s.chr.waiting with
  | [] => none
  | p :: rest => some (rest.foldl s.firstOf p)

/-- A waiting programme no longer waits. -/
def dropWaiting (d : Demand) (s : State) : State :=
  s.withChr { s.chr with waiting := s.chr.waiting.filter fun p => p.demand != d }

/-- Grant a channel to a programme (R119, R120, R122): a STANDBY channel wakes, a READY channel plays at once, a WAKING
channel keeps its warm-up timer, a PLAYING channel passes to its pre-emptor. -/
def grantChannel (c : ChannelId) (p : Programme) (s : State) : State :=
  let t := (dropWaiting p.demand s).mapChannel c fun r =>
    { r with
      state := match r.state with
        | .standby | .waking => .waking
        | .ready | .playing => .playing
      grant := some ⟨p, s.now⟩
      begun := false
      warmUp := if r.state == .standby then some (s.after s.cfg.tWarmUp) else r.warmUp
      idle := none
      zoneSet := []
      joins := []
      headInPlay := false
      boundary := none
      livePlayed := []
      audio := .silence }
  tryBegin c (putSlots c [] t)

/-- The programme that a pre-emption would take the channel from: the greatest priority number, then the latest grant, then
the highest-numbered channel (R123). -/
def State.victim (s : State) : Option (ChannelId × Grant) :=
  (List.finRange 4).foldl (fun best c =>
    match s.chr.channels[c].grant with
    | none => best
    | some g =>
      match best with
      | none => some (c, g)
      | some (d, h) =>
        if demandPriority h.prog.demand < demandPriority g.prog.demand
            || (demandPriority h.prog.demand == demandPriority g.prog.demand && h.granted ≤ g.granted) then some (c, g)
        else some (d, h)) none

/-- A programme that was taken off its channel by a pre-emption: it waits again, but a tenant programme is delivered to the
Tenant Queue (R123, R124). -/
def victimGoes (p : Programme) (s : State) : State :=
  match p.demand with
  | .tenant k _ => s.deliver [.tenantPreEmption k]
  | .fire _ _ | .live _ => s.withChr { s.chr with waiting := s.chr.waiting ++ [p] }

/-- A pre-emption (R123). -/
def preempt (c : ChannelId) (old : Programme) (p : Programme) (s : State) : State :=
  grantChannel c p (victimGoes old (s.setChain c none))

/-- An arbitration pass (R122). Each turn grants a free channel or takes one from a programme of a strictly greater priority
number, so 32 turns are more than a pass can have. -/
def arbitrate (turns : Nat) (s : State) : State :=
  match turns with
  | 0 => s
  | n + 1 =>
    match s.headWaiting with
    | none => s
    | some p =>
      match s.freeChoice with
      | some c => arbitrate n (grantChannel c p s)
      | none =>
        match s.victim with
        | none => s
        | some (c, g) =>
          if demandPriority p.demand < demandPriority g.prog.demand then
            arbitrate n (preempt c g.prog p s)
          else s

/-- A whole arbitration pass. -/
def arbitrationPass (s : State) : State := arbitrate 32 s

/-- A programme leaves its channel (R121): the zone set and the area are emptied, the chain is cleared, and a PLAYING channel
becomes READY, with its idle timer unless idling is suspended. -/
def releaseChannel (c : ChannelId) (s : State) : State :=
  let t := (s.setChain c none).mapChannel c fun r =>
    { r with
      state := if r.state == .playing then .ready else r.state
      grant := none
      begun := false
      idle := if r.state == .playing && !s.chr.idlingSuspended then some (s.after (s.cfg.tIdle * 1000)) else r.idle
      zoneSet := []
      joins := []
      headInPlay := false
      boundary := none
      livePlayed := []
      audio := .silence }
  putSlots c [] t

/-! ## An event at CHR -/

/-- An event that leaves a channel free while no programme waits (R124). DEDUCED (log entry 16): a channel that was not free
before it. -/
def freedChannel (s t : State) : Bool :=
  t.chr.waiting.isEmpty &&
    (List.finRange 4).any fun c => t.chr.channels[c].free && !s.chr.channels[c].free

/-- A CHR event without its part of the change counter: the change, the read port, the monitored channel, and the delivery
of a free channel to the Tenant Queue (R124, R129, R135), which stands behind the event's other deliveries to that block. DESIGN
CHOICE (log entry 48). -/
def chrChange (f : State → State) (s : State) : State :=
  let t := kickPort (f s)
  (remonitorIfMoved s t).deliver (if freedChannel s t then [.tnqChannelFree] else [])

/-- An event at CHR. -/
def chrEvent (f : State → State) (s : State) : State := event .chr (chrChange f) s

/-! ## Programmes handed over (R110, R122, R124) -/

/-- The demand instant of a programme that waits or holds a channel. -/
def renewInstant (d : Demand) (instant : Nat) (s : State) : State :=
  s.withChr { s.chr with
   waiting := s.chr.waiting.map fun p => if p.demand == d then { p with instant := instant } else p
   channels := tab fun c =>
    { s.chr.channels[c] with
      grant := s.chr.channels[c].grant.map fun g =>
        if g.prog.demand == d then { g with prog := ⟨d, instant⟩ } else g } }

/-- The zones of a begun programme's demand set that are not in its channel's zone set wait with a pending join (R125). -/
def pendJoins (d : Demand) (s : State) : State :=
  match s.holder d with
  | none => s
  | some c =>
    if s.chr.channels[c].begun then
      s.mapChannel c fun r => { r with joins := (s.demandSet d).filter fun z => !r.zoneSet.contains z }
    else s

/-- Whether a programme waits. -/
def State.isWaiting (s : State) (d : Demand) : Bool := s.chr.waiting.any fun p => p.demand == d

/-- A live programme whose source has stopped is no programme (R133). -/
def State.sourceStopped (s : State) (d : Demand) : Bool :=
  match d with
  | .live src => !(s.source src).live
  | .fire _ _ | .tenant _ _ => false

/-- A new programme joins the waiting programmes (R122); a tenant programme never waits (R124). -/
def programmeFormed (d : Demand) (instant : Nat) (s : State) : State :=
  match d with
  | .tenant _ _ => s
  | .fire _ _ | .live _ =>
    if s.sourceStopped d || s.isWaiting d || (s.holder d).isSome then s
    else s.withChr { s.chr with waiting := s.chr.waiting ++ [⟨d, instant⟩] }

/-- The end of a tenant programme that held a channel is delivered to the Tenant Queue (R124). -/
def tenantEnded (d : Demand) (s : State) : State :=
  match d with
  | .tenant k _ => s.deliver [.tenantProgrammeEmptied k]
  | .fire _ _ | .live _ => s

/-- A programme whose demand set has emptied ends: it leaves the waiting programmes or its channel (R121, R122, R124). -/
def programmeEnded (d : Demand) (s : State) : State :=
  match s.holder d with
  | none => dropWaiting d s
  | some c => tenantEnded d (releaseChannel c (dropWaiting d s))

/-- CHR takes a new programme, a change to one, or the end of one, and makes an arbitration pass (R122). The demand set and the
demand instant are those of R110 as CUE holds the slots at this event: the end of a chain can have moved the instant, or emptied
the set, since the programme was handed over. DEDUCED (log entry 18). -/
def programmeTaken (d : Demand) (news : ProgrammeNews) (s : State) : State :=
  arbitrationPass
    (match news, s.demandInstant d with
      | .ended, _ => programmeEnded d s
      | .formed, some i => programmeFormed d i s
      | .changed, some i => pendJoins d (renewInstant d i s)
      | .formed, none | .changed, none => s)

/-- PROGRAMME_HANDED (R110, R122, R123, R125). The instant is the demand instant at CUE's event. -/
def execProgrammeHanded (d : Demand) (news : ProgrammeNews) (instant : Nat) (s : State) : Result :=
  .next (onDelivery (.programmeHanded d news instant) (chrEvent (programmeTaken d news)) s)

/-- A tenant programme is granted a free channel at once or refused (R124). -/
def tenantTaken (ticket cue instant : Nat) (s : State) : State :=
  match s.freeChoice with
  | some c => grantChannel c ⟨.tenant ticket cue, instant⟩ s
  | none => s.deliver [.tenantRefusal ticket]

/-- TENANT_PROGRAMME_HANDED (R124). -/
def execTenantProgrammeHanded (ticket cue instant : Nat) (s : State) : Result :=
  .next (onDelivery (.tenantProgrammeHanded ticket cue instant) (chrEvent (tenantTaken ticket cue instant)) s)

/-! ## Deliveries from RGE and the ports -/

/-- The entry to ALARM suspends idling and stops every idle timer (R121). -/
def suspendIdling (s : State) : State :=
  s.withChr { s.chr with
   idlingSuspended := true
   channels := tab fun c => { s.chr.channels[c] with idle := none } }

/-- CHR_ALARM_ENTRY (R121). -/
def execChrAlarmEntry (s : State) : Result := .next (onDelivery .chrAlarmEntry (chrEvent suspendIdling) s)

/-- An accepted REGIME RESET clears idling suspended, starts the idle timer of every READY channel and works out the
monitored channel (R121, R135). -/
def resumeIdling (s : State) : State :=
  remonitor (s.withChr { s.chr with
   idlingSuspended := false
   channels := tab fun c =>
    { s.chr.channels[c] with
      idle := if s.chr.channels[c].state == .ready then some (s.after (s.cfg.tIdle * 1000))
        else s.chr.channels[c].idle } })

/-- CHR_REGIME_RESET (R121, R135). -/
def execChrRegimeReset (s : State) : Result := .next (onDelivery .chrRegimeReset (chrEvent resumeIdling) s)

/-- CHR_LIST_APPEND (R135). -/
def execChrListAppend (f : FloorId) (s : State) : Result :=
  .next (onDelivery (.chrListAppend f) (chrEvent remonitor) s)

/-- The live slots of a stopped source's claimed set are cleared; zones that LIVE-P claims are given back to it (R133). All clears
stand first, then the writes of LIVE-P, each in rising order of the zones. DESIGN CHOICE (log entry 48). -/
def stopWrites (s : State) (src : LiveSourceId) : List Instr :=
  ((s.source src).claimed.map fun z => .liveSlotWrite z (.erase src))
    ++ (match src with
      | .liveC =>
        if s.chr.liveP.live then
          (s.chr.liveC.claimed.filter fun z => s.chr.liveP.claimed.contains z).map fun z =>
            .liveSlotWrite z (.put .liveP)
        else []
      | .liveP => [])

/-- A live source ends (R133): it becomes IDLE with an empty claimed set and an empty area, its slots are cleared, and its
programme leaves the channel it holds or the waiting programmes. -/
def stopSource (src : LiveSourceId) (s : State) : State :=
  let t := (s.setSource src ⟨false, [], 0, 0, 0⟩).deliver (stopWrites s src)
  arbitrationPass (programmeEnded (.live src) t)

/-- The live source of a port's role (R132). -/
def sourceOfRole (r : PortRole) : Option LiveSourceId :=
  match r with
  | .commandStation => some .liveC
  | .pagingConsole => some .liveP
  | .firePanel | .liftGroup | .unused => none

/-- The loss of a port ends its live source if it is LIVE (R133). -/
def portLostAtChr (p : PortId) (s : State) : State :=
  match sourceOfRole (s.role p) with
  | some src => if (s.source src).live then stopSource src s else s
  | none => s

/-- CHR_PORT_LOSS (R133, R154). -/
def execChrPortLoss (p : PortId) (s : State) : Result :=
  .next (onDelivery (.chrPortLoss p) (chrEvent (portLostAtChr p)) s)

/-! ## Timers of a channel -/

/-- The warm-up of a channel ends: PLAYING with its programme, or READY (R119). -/
def warmUpEnds (c : ChannelId) (s : State) : State :=
  let r := s.chr.channels[c]
  if r.grant.isSome then
    tryBegin c (s.mapChannel c fun r => { r with state := .playing, warmUp := none })
  else
    arbitrationPass (s.mapChannel c fun r =>
      { r with
        state := .ready
        warmUp := none
        idle := if s.chr.idlingSuspended then none else some (s.after (s.cfg.tIdle * 1000)) })

/-- WARM_UP_EXPIRY (R119, R120, R121). -/
def execWarmUpExpiry (c : ChannelId) (s : State) : Result :=
  .next (if s.due s.chr.channels[c].warmUp then chrEvent (warmUpEnds c) s else s)

/-- IDLE_TIMER_EXPIRY (R121): the enable is released and the channel enters STANDBY. -/
def execIdleTimerExpiry (c : ChannelId) (s : State) : Result :=
  .next (if s.due s.chr.channels[c].idle then
    chrEvent (fun s => s.mapChannel c fun r => { r with state := .standby, idle := none }) s else s)

/-! ## The block boundary (R126, R130) -/

/-- The slot of the block that has just ended is emptied, if that block held one (R130). -/
def dropEnded (c : ChannelId) (s : State) : State :=
  if s.chr.channels[c].headInPlay then
    (putSlots c (s.chr.channels[c].slots.drop 1) s).mapChannel c fun r => { r with headInPlay := false }
  else s

/-- Pending joins join the zone set (R125, R126). -/
def joinZones (c : ChannelId) (s : State) : State :=
  s.mapChannel c fun r =>
    { r with
      zoneSet := (List.finRange 36).filter fun z => r.zoneSet.contains z || r.joins.contains z
      joins := [] }

/-- An underrun (R130): silence, the sticky flag, a momentary CHANNEL UNDERRUN, and a filling read for the block is
discarded. -/
def underrunAt (c : ChannelId) (s : State) : State :=
  let t := putSlots c (s.chr.channels[c].slots.drop 1) s
  (t.mapChannel c fun r => { r with headInPlay := false, underrun := true, audio := .silence }).raiseMomentary
    .channelUnderrun c.val

/-- The block at the new position is played (R130, R131). -/
def playBlock (c : ChannelId) (k : Chain) (s : State) : State :=
  match s.blockAt k with
  | none => s.mapChannel c fun r => { r with headInPlay := false, audio := .silence }
  | some _ =>
    match s.chr.channels[c].slots.head? with
    | some x =>
      if x.status == .filling then underrunAt c s
      else s.mapChannel c fun r => { r with headInPlay := true, audio := slotAudio x }
    | none => underrunAt c s

/-- The candidate of the link not taken is removed from the area, and a read for it is discarded (R128). -/
def keepCandidate (c : ChannelId) (old chosen : Nat) (s : State) : State :=
  if (s.cueAt old).condition == .always then s
  else
    let kept := ((s.candidates old).zip s.chr.channels[c].slots).filterMap fun x =>
      if x.1 == chosen then some x.2 else none
    putSlots c kept s

/-- The zones that hear a chain to its end rest: the slot each was hearing has its complete flag set (R116). -/
def completeSlot (d : Demand) (r : ZoneDemand) : ZoneDemand :=
  match d with
  | .fire _ _ => { r with fire := r.fire.map fun f => { f with complete := true } }
  | .tenant _ _ => { r with tenant := r.tenant.map fun t => { t with complete := true } }
  | .live _ => r

/-- The finished mark of a channel at a chain's end (R116). -/
def markFinished (c : ChannelId) (cue start : Nat) (s : State) : State :=
  if (s.cueAt cue).report then
    s.withCue { s.cue with finished := s.cue.finished.set c.val (some ⟨cue, start, s.now⟩) }
  else s

/-- The zones of a channel's zone set come to rest. -/
def restZones (c : ChannelId) (d : Demand) (s : State) : State :=
  s.withCue { s.cue with
   zones := tab fun z =>
    if s.chr.channels[c].zoneSet.contains z then completeSlot d s.cue.zones[z] else s.cue.zones[z] }

/-- What follows the release of a channel by a chain's end: the completion of a tenant entry is delivered; a fire programme
with zones left waits again (R116, R122). -/
def afterChain (p : Programme) (s : State) : State :=
  match p.demand with
  | .tenant k _ => s.deliver [.tenantCompletion k]
  | .fire _ _ | .live _ =>
    match s.demandInstant p.demand with
    | some i => s.withChr { s.chr with waiting := s.chr.waiting ++ [⟨p.demand, i⟩] }
    | none => s

/-- The end of a chain at a block boundary (R116). -/
def chainEnds (c : ChannelId) (cue : Nat) (g : Grant) (s : State) : State :=
  let start := (startCue g.prog.demand).getD cue
  arbitrationPass (afterChain g.prog
    (releaseChannel c (restZones c g.prog.demand (markFinished c cue start s))))

/-- A channel with a chain at its block boundary (R112, R113, R126, R130). -/
def chainBoundary (c : ChannelId) (k : Chain) (g : Grant) (s : State) : State :=
  let s1 := dropEnded c s
  match s.advance k with
  | some j => joinZones c (playBlock c j (s1.setChain c (some j)))
  | none =>
    match s.chosenLink c k.cue with
    | some q =>
      let j := s.atCue q k.started
      joinZones c (playBlock c j (keepCandidate c k.cue q (s1.setChain c (some j))))
    | none => chainEnds c k.cue g s1

/-- A channel with a live programme at its block boundary (R134). -/
def liveBoundary (c : ChannelId) (src : LiveSourceId) (s : State) : State :=
  let play := livePlay src (s.ring src) s.chr.channels[c].livePlayed
  joinZones c (s.mapChannel c fun r => { r with livePlayed := play.2, audio := play.1 })

/-- A block boundary of a channel; the next falls 64 ms later (R120, R126). When CUE has cleared the chain (R115) and CHR has not
yet taken the end of its programme (R121), the channel keeps the audio of the block before. DESIGN CHOICE (log entry 55). -/
def boundaryAt (c : ChannelId) (s : State) : State :=
  let s1 := s.mapChannel c fun r => { r with boundary := r.boundary.map (· + blockTime) }
  match s.chr.channels[c].grant with
  | none => s1
  | some g =>
    match g.prog.demand with
    | .live src => liveBoundary c src s1
    | .fire _ _ | .tenant _ _ =>
      match s.cue.chains[c] with
      | some k => chainBoundary c k g s1
      | none => s1

/-- BLOCK_BOUNDARY (R112 to R116, R126, R130, R134). -/
def execBlockBoundary (c : ChannelId) (s : State) : Result :=
  .next (if s.due s.chr.channels[c].boundary then chrEvent (boundaryAt c) s else s)

/-! ## The memory read port (R129, R131) -/

/-- The filling slot of an area takes a status. -/
def settleSlots (st : SlotStatus) (slots : List Slot) : List Slot :=
  slots.map fun x => if x.status == .filling then { x with status := st } else x

/-- The read in progress ends with a status for its slot, unless it was discarded. -/
def readEnds (r : FlashRead) (st : SlotStatus) (s : State) : State :=
  let t := s.withChr { s.chr with reading := none }
  if r.discarded then t
  else tryBegin r.channel (t.mapChannel r.channel fun q => { q with slots := settleSlots st q.slots })

/-- A failed read raises MEMORY READ FAULT unless it was discarded (R131). -/
def readFails (r : FlashRead) (s : State) : State :=
  let t := readEnds r .faulted s
  if r.discarded then t else t.raiseMomentary .memoryReadFault r.channel.val

/-- The read limit has not passed. -/
def State.readInTime (s : State) (r : FlashRead) : Bool := s.now ≤ r.started + readLimit

/-- The flash delivers the block of a read: the read is complete, or, more than 8 ms after it began, it has failed (R129,
R131). -/
def readDelivered (r : FlashRead) (s : State) : State :=
  if s.readInTime r then readEnds r .complete s else readFails r s

/-- MEMORY_READ_COMPLETE (R129, R131). -/
def execMemoryReadComplete (s : State) : Result :=
  .next (match s.chr.reading with
    | none => s
    | some r => chrEvent (readDelivered r) s)

/-- MEMORY_READ_FAILED (R131): the flash reports a failed transfer, or 8 ms have passed since the read began. -/
def execMemoryReadFailed (s : State) : Result :=
  .next (match s.chr.reading with
    | none => s
    | some r => chrEvent (readFails r) s)

/-! ## Live blocks (R134) -/

/-- A 64 ms block of a LIVE source completes; the complete count of its area is no readable record (R136). -/
def liveBlockTaken (src : LiveSourceId) (s : State) : State :=
  let r := s.source src
  s.setSource src { r with blocks := r.blocks + 1, nextBlock := r.nextBlock + blockTime }

/-- LIVE_BLOCK_COMPLETE (R134). -/
def execLiveBlockComplete (src : LiveSourceId) (s : State) : Result :=
  .next (if (s.source src).live && (s.source src).nextBlock ≤ s.now then liveBlockTaken src s else s)

/-! ## Requests and the removal of an underrun -/

/-- LIVE START for a source (R132). Its writes reach CUE in rising order of the zones. DESIGN CHOICE (log entry 48). -/
def cmdLiveStart (src : LiveSourceId) (zones : List SpeakerId) (s : State) : State × Reason :=
  let claimed := zones.filter s.speakerConfigured
  if claimed.isEmpty then (s, .range)
  else if (s.source src).live then (s, .state)
  else
    ((s.setSource src ⟨true, claimed, s.now, 0, s.after blockTime⟩).deliver
      (claimed.map fun z => .liveSlotWrite z (.put src)), .accepted)

/-- LIVE STOP for a source (R133). -/
def cmdLiveStop (src : LiveSourceId) (s : State) : State × Reason :=
  if (s.source src).live then (stopSource src s, .accepted) else (s, .state)

/-- The monitor selection of a selection code and a channel number; none out of range (R135). -/
def selectionOf (code channel : Byte) : Option MonitorSelection :=
  match code.toNat with
  | 0 => some .off
  | 1 => (toIndex 4 channel.toNat).map .channel
  | 2 => some .followOrigin
  | _ => none

/-- MONITOR SELECT (R135). -/
def cmdMonitorSelect (code channel : Byte) (s : State) : State × Reason :=
  match selectionOf code channel with
  | none => (s, .range)
  | some m => (remonitor (s.withChr { s.chr with selection := m }), .accepted)

/-- UNDERRUN_REMOVAL (R130, R149). -/
def execUnderrunRemoval (c : ChannelId) (s : State) : Result :=
  .next (onDelivery (.underrunRemoval c)
    (chrEvent fun s => s.mapChannel c fun r => { r with underrun := false }) s)

end Sys2Proof.Machine
end

