-- ==== Sys2Proof/Machine/Image.lean ====
section
/-! DEFINITION. Configuration images as addressed memories of 4096 bytes (R169), and the checks a commit makes (R174). -/

namespace Sys2Proof.Machine

/-! ## Cells -/

/-- The bytes of an image (11.1). -/
def imageSize : Nat := 4096

/-- What a byte of an image reads as when no cell lists it: 0xFF, an erased EEPROM byte. DESIGN CHOICE (log entry 2), unsafe:
the manual gives no contents for an EEPROM that nobody has written. -/
def unlistedByte : Byte := 0xFF

/-- The byte of an image at an offset. -/
def Image.byteAt (m : Image) (a : Nat) : Byte :=
  match m with
  | [] => unlistedByte
  | (b, v) :: rest => if a == b then v else Image.byteAt rest a

/-- The cells with the byte at `a` replaced; a byte equal to what an unlisted offset reads as is not listed. -/
def Image.put (m : Image) (a : Nat) (v : Byte) : Image :=
  match m with
  | [] => if v == unlistedByte then [] else [(a, v)]
  | (b, w) :: rest =>
    if a < b then (if v == unlistedByte then (b, w) :: rest else (a, v) :: (b, w) :: rest)
    else if a == b then (if v == unlistedByte then rest else (a, v) :: rest)
    else (b, w) :: Image.put rest a v

/-- The bytes `vs` put from offset `a` on. -/
def Image.putAll (m : Image) (a : Nat) (vs : List Byte) : Image :=
  match vs with
  | [] => m
  | v :: rest => Image.putAll (m.put a v) (a + 1) rest

/-- The `n` bytes from offset `a` on. -/
def Image.bytesFrom (m : Image) (a n : Nat) : List Byte := (List.range n).map fun i => m.byteAt (a + i)

/-- The cells of a row of bytes that starts at offset `a`. -/
def Image.cellsOf (a : Nat) (bs : List Byte) : Image :=
  match bs with
  | [] => []
  | b :: rest => if b == unlistedByte then Image.cellsOf (a + 1) rest else (a, b) :: Image.cellsOf (a + 1) rest

/-- The one form in which an image is held: offsets strictly rising and within the image, and no cell that an unlisted
offset would read the same. -/
def Image.wf (m : Image) : Bool :=
  decide ((m.map Prod.fst).Pairwise (· < ·)) && m.all fun c => decide (c.1 < imageSize) && c.2 != unlistedByte

/-! ## Soundness -/

/-- The format version, bytes 0 and 1 (11.1). -/
def Image.version (m : Image) : Nat := (m.byteAt 0).toNat * 256 + (m.byteAt 1).toNat

/-- The stored image check, bytes 2 and 3 (11.1). -/
def Image.storedCheck (m : Image) : Nat := (m.byteAt 2).toNat * 256 + (m.byteAt 3).toNat

/-- The sum of the bytes from offset `a` over `n` offsets. -/
def Image.sumFrom (m : Image) (a n : Nat) : Nat := (m.bytesFrom a n).foldl (fun t b => t + b.toNat) 0

/-- The sum of bytes 0, 1 and 4 to 4095, modulo 65536 (R169). -/
def Image.sum (m : Image) : Nat := (m.sumFrom 0 2 + m.sumFrom 4 4092) % 65536

/-- An image is sound when its format version is 2 and its image check equals its sum (R169). -/
def Image.sound (m : Image) : Bool := m.version == 2 && m.storedCheck == m.sum

/-- The image with bytes 2 and 3 set to its image check (R174). -/
def Image.withCheck (m : Image) : Image :=
  (m.put 2 (byteOf (m.sum / 256))).put 3 (byteOf m.sum)

/-- The configuration that an image stands for: its bytes 4 to 4095 hold the configured values (11.1). -/
def configOf (m : Image) : Configuration := Config.readImage (m.filter fun c => 4 ≤ c.1)

/-! ## The checks of a commit -/

/-- A number lies between two bounds, both included. -/
def within (lo hi n : Nat) : Bool := lo ≤ n && n ≤ hi

/-- The role of a loop that a number names. -/
def loopRoleAt (c : Configuration) (n : Nat) : Option LoopRole := (rowAt c.loops n).map (·.role)

/-- A threshold set passes (R3). -/
def thresholdSetFits (t : ThresholdSet) : Bool :=
  within 1 1022 t.t1 && within 1 1022 t.t2 && within 1 1022 t.t3 && t.t1 < t.t2 && t.t2 < t.t3
  && t.hysteresis ≤ 63 && t.hysteresis * 2 < t.t2 - t.t1 && t.hysteresis * 2 < t.t3 - t.t2
  && t.hysteresis < t.t1 && t.t3 + t.hysteresis ≤ 1023

/-- A zone record passes (R9), apart from the comparison of sources. -/
def zoneFits (c : Configuration) (z : ZoneCfg) : Bool :=
  !z.configured ||
    (z.floor ≤ c.topFloor &&
      match z.source with
      | .loop n => loopRoleAt c n == some .zoneInput
      | .link port point => (rowAt c.ports port).map (·.role) == some .firePanel && point ≤ 255)

/-- No other configured zone has the source of zone `z` (R9). -/
def sourceAlone (c : Configuration) (z : ZoneId) : Bool :=
  !c.zones[z].configured ||
    (List.finRange 64).all fun y => y == z || !c.zones[y].configured || c.zones[y].source != c.zones[z].source

/-- The LIFT GROUP ports that name a bank. -/
def portsOfBank (c : Configuration) (b : BankId) : List PortId :=
  (List.finRange 6).filter fun p => c.ports[p].role == .liftGroup && c.ports[p].bank == some b

/-- A bank passes (R48). -/
def bankFits (c : Configuration) (b : BankId) : Bool :=
  let k := c.banks[b]
  !k.configured ||
    (within 1 6 k.cars && k.lowest ≤ k.highest && k.highest ≤ c.topFloor
      && within k.lowest k.highest k.designated && within k.lowest k.highest k.alternate
      && k.designated != k.alternate && (portsOfBank c b).length == 1)

/-- A door point passes (R70, R85). -/
def doorFits (c : Configuration) (d : DoorCfg) : Bool :=
  !d.configured ||
    (d.floor ≤ c.topFloor &&
      (d.kind == .magnet ||
        ((d.stair.any (· < 4)) && within 1 63 d.weight && d.hold ≤ 1000
          && ((rowAt c.groups d.group).any fun g => d.hold ≤ g.budget)
          && (d.feedback.all fun n => loopRoleAt c n == some .doorFeedback))))

/-- A loop passes: its threshold set is one of the four (1.1), and a DOOR FEEDBACK loop is named by some configured STRIKE
(R70). -/
def loopFits (c : Configuration) (l : LoopId) : Bool :=
  c.loops[l].set < 4 &&
    (c.loops[l].role != .doorFeedback ||
      (List.finRange 128).any fun d =>
        c.doors[d].configured && c.doors[d].kind == .strike && c.doors[d].feedback == some l.val)

/-- A supply group passes (R85). -/
def groupFits (g : GroupCfg) : Bool :=
  g.gMin ≤ 2000 && g.scale ≤ 5 && within 64 8191 g.ratio && g.budget ≤ 8000 && g.mode.isSome

/-- A number names a configured cue. -/
def cueConfigured (c : Configuration) (q : Nat) : Bool := (rowAt c.cues q).any (·.configured)

/-- A cue record passes (R103, 6.2). -/
def cueRecordFits (c : Configuration) (q : CueCfg) : Bool :=
  !q.configured ||
    (within 1 4095 q.length && q.start < c.memorySize && q.repeats ≤ 255 && q.gap ≤ 255
      && (q.nextTrue.all (cueConfigured c)) && (q.nextFalse.all (cueConfigured c)))

/-- A floor record's start cues pass (R103, R105); records above the top floor index are not checked. -/
def floorFits (c : Configuration) (f : FloorId) : Bool :=
  c.topFloor < f.val ||
    ((c.floors[f].alertCue.all (cueConfigured c)) && (c.floors[f].evacuateCue.all (cueConfigured c)))

/-- A stair's start cue passes when its speaker zone is configured (R105). -/
def stairFits (c : Configuration) (s : StairCfg) : Bool := !s.configured || s.cue.all (cueConfigured c)

/-- The areas joined to a channel or a live source. -/
def areasJoined (c : Configuration) (j : AreaJoin) : List (Fin 8) :=
  (List.finRange 8).filter fun a => c.areas[a].join == some j

/-- Every channel and every live source. -/
def allJoins : List AreaJoin := (List.finRange 4).map .channel ++ [.live .liveC, .live .liveP]

/-- The sizes of all areas together. -/
def areaTotal (c : Configuration) : Nat := c.areas.toList.foldl (fun t a => t + a.size) 0

/-- An area passes (R127): its own size and join, that no other area has its join, that no channel or source is without an
area, and the total. -/
def areaFits (c : Configuration) (a : Fin 8) : Bool :=
  (match c.areas[a].join with
    | none => c.areas[a].size == 0
    | some j =>
      within 1 16 c.areas[a].size && (areasJoined c j).length == 1
        && (match j with
            | .live _ => 2 ≤ c.areas[a].size
            | .channel _ => true))
  && (allJoins.all fun j => (areasJoined c j).length == 1) && areaTotal c ≤ 32

/-- The number of ports with a role. -/
def portsWithRole (c : Configuration) (r : PortRole) : Nat :=
  ((List.finRange 6).filter fun p => c.ports[p].role == r).length

/-- A port passes (R157, R48). -/
def portFits (c : Configuration) (p : PortId) : Bool :=
  let k := c.ports[p]
  (portsWithRole c k.role ≤ (match k.role with
    | .firePanel | .liftGroup => 2
    | .commandStation | .pagingConsole => 1
    | .unused => 6))
  && (k.role == .unused ||
      ((k.baud == 9600 || k.baud == 19200 || k.baud == 38400) && within 1 126 k.address && within 500 10000 k.tSup))
  && (k.role != .liftGroup || k.bank.any fun b => c.banks[b].configured && (portsOfBank c b).length == 1)

/-- The part-wide values and timers with their checks (00_scope.md, Symbols and Capacities). -/
def partWideChecks (c : Configuration) : List (ConfigItem × Bool) :=
  [(.tVerify, decide (c.tVerify ≤ 60)), (.tPhase, within 30 600 c.tPhase), (.alertSpan, decide (c.alertSpan ≤ 31)),
    (.tShutdown, within 10 300 c.tShutdown), (.tDoorVerify, within 200 10000 c.tDoorVerify),
    (.tWarmUp, within 100 2000 c.tWarmUp), (.tIdle, within 10 600 c.tIdle), (.tAge, within 30 3600 c.tAge),
    (.debounce, within 1 15 c.debounce), (.topFloor, decide (c.topFloor ≤ 31)),
    (.memorySize, within 1 32768 c.memorySize)]

/-- The items of a configuration that fail the checks of a commit (R174): the ranges of the timers and counts, then the
checks of each block. -/
def failedItems (c : Configuration) : List ConfigItem :=
  ((partWideChecks c).filter fun x => !x.2).map Prod.fst
  ++ ((List.finRange 4).filter fun i => !thresholdSetFits c.sets[i]).map .thresholdSet
  ++ ((List.finRange 48).filter fun l => !loopFits c l).map .loop
  ++ ((List.finRange 64).filter fun z => !(zoneFits c c.zones[z] && sourceAlone c z)).map .zone
  ++ ((List.finRange 32).filter fun f => !floorFits c f).map .floor
  ++ ((List.finRange 2).filter fun b => !bankFits c b).map .bank
  ++ ((List.finRange 128).filter fun d => !doorFits c c.doors[d]).map .door
  ++ ((List.finRange 4).filter fun g => !groupFits c.groups[g]).map .group
  ++ ((List.finRange 96).filter fun q => !cueRecordFits c c.cues[q]).map .cue
  ++ ((List.finRange 4).filter fun s => !stairFits c c.stairs[s]).map .stair
  ++ ((List.finRange 8).filter fun a => !areaFits c a).map .area
  ++ ((List.finRange 6).filter fun p => !portFits c p).map .port

/-- The offset of an item: the format version stands at byte 0 (11.1), the others where `Config.itemOffset` says. -/
def offsetOf (i : ConfigItem) : Nat := if i == .formatVersion then 0 else Config.itemOffset i

/-- The items of an image that fail a commit's checks: its format version and the items of its configuration (R174). -/
def Image.failures (m : Image) : List ConfigItem :=
  (if m.version == 2 then [] else [.formatVersion]) ++ failedItems (configOf m)

/-- The lowest offset among items; 0xFFFF when there is none (R174). -/
def lowestOffset (items : List ConfigItem) : Nat :=
  match items with
  | [] => 65535
  | i :: rest => if rest.isEmpty then offsetOf i else min (offsetOf i) (lowestOffset rest)

end Sys2Proof.Machine
end

