-- ==== Sys2Proof/Machine/Tenants.lean ====
section
/-! DEFINITION. The Tenant Queue (chapter 8). -/

namespace Sys2Proof.Machine

/-- The tenant queue holds at most 12 entries (8.1). -/
def queueCapacity : Nat := 12

/-! ## Tickets (R138) -/

/-- A ticket that an entry of the queue or the playing list holds. -/
def Tnq.holds (q : Tnq) (t : Nat) : Bool := (q.queue ++ q.playing).any fun e => e.ticket == t

/-- The first free ticket counting upward from the next ticket, wrapping from 255 to 0 (R138). -/
def freeTicket (q : Tnq) : Nat :=
  (((List.range 256).map fun i => (q.nextTicket + i) % 256).find? fun t => !q.holds t).getD q.nextTicket

/-! ## Slots as TNQ sees them -/

/-- Whether a zone's tenant slot is absent once a delivery of TNQ has been taken, when `free` says so before it. -/
def freeAfter (z : SpeakerId) (free : Bool) (e : Instr) : Bool :=
  match e with
  | .tenantSlotWrite y (.put _ _) => free && y != z
  | .tenantSlotWrite y (.erase _) => free || y == z
  | _ => free

/-- Whether a zone's tenant slot is absent as TNQ's own writes leave it: its last write on the way to CUE decides, else the
record (R140). DEDUCED (log entry 17). -/
def State.tenantSlotFree (s : State) (z : SpeakerId) : Bool := s.deliveries.foldl (freeAfter z) s.cue.zones[z].tenant.isNone

/-- A zone is free for a tenant entry: its fire, live and tenant slots are absent (R140). -/
def State.zoneFree (s : State) (z : SpeakerId) : Bool :=
  s.cue.zones[z].fire.isNone && s.cue.zones[z].live.isNone && s.tenantSlotFree z

/-- The number of free channels that CHR presents (R124). -/
def State.freeChannels (s : State) : Nat := ((List.finRange 4).filter fun c => s.chr.channels[c].free).length

/-! ## Starting and the admission scan (R140, R141) -/

/-- An entry is started (R141): it moves to the playing list, and its zones' tenant slots are written, in rising
order of the zones. DESIGN CHOICE (log entry 48). -/
def startEntry (e : TenantEntry) (s : State) : State :=
  (s.withTnq { s.tnq with
    queue := s.tnq.queue.filter fun x => x.ticket != e.ticket
    playing := s.tnq.playing ++ [{ e with aging := none, started := some s.now }] }).deliver
    (e.zones.map fun z => .tenantSlotWrite z (.put e.ticket e.cue))

/-- The scan of the queue from an entry on, with the number of free channels left (R140). -/
def scanEntries (es : List TenantEntry) (free : Nat) (s : State) : State :=
  match es with
  | [] => s
  | e :: rest =>
    if 0 < free && e.zones.all s.zoneFree then scanEntries rest (free - 1) (startEntry e s)
    else scanEntries rest free s

/-- An admission scan (R140): it starts nothing in ALARM. -/
def admissionScan (s : State) : State := if s.inAlarm then s else scanEntries s.tnq.queue s.freeChannels s

/-! ## Requests -/

/-- ANNOUNCE TENANT (R139): the state, the reason and the ticket of an accepted request. -/
def cmdAnnounceTenant (q : Nat) (mask : List SpeakerId) (s : State) : State × Reason × Nat :=
  let zones := mask.filter s.speakerConfigured
  if !cueConfigured s.cfg q || zones.isEmpty then (s, .range, 0)
  else if s.inAlarm then (s, .state, 0)
  else if queueCapacity ≤ s.tnq.queue.length then (s, .full, 0)
  else
    let t := freeTicket s.tnq
    (admissionScan (s.withTnq { s.tnq with
      queue := s.tnq.queue ++ [⟨t, q, zones, s.now, some (s.after (s.cfg.tAge * 1000)), none⟩]
      nextTicket := (t + 1) % 256 }), .accepted, t)

/-- Clear the tenant slots of an entry (R142), in rising order of the zones. DESIGN CHOICE (log entry 48). -/
def clearSlots (e : TenantEntry) (s : State) : State :=
  s.deliver (e.zones.map fun z => .tenantSlotWrite z (.erase e.ticket))

/-- An entry leaves the playing list and its slots are cleared. -/
def endPlaying (e : TenantEntry) (s : State) : State :=
  clearSlots e (s.withTnq { s.tnq with playing := s.tnq.playing.filter fun x => x.ticket != e.ticket })

/-- A count that saturates at 65535, increased by `n`. -/
def addCount (n k : Nat) : Nat := min 65535 (n + k)

/-- ANNOUNCE CANCEL (R143). -/
def cmdAnnounceCancel (t : Nat) (s : State) : State × Reason :=
  match s.tnq.queue.find? fun e => e.ticket == t with
  | some _ => (s.withTnq { s.tnq with queue := s.tnq.queue.filter fun x => x.ticket != t }, .accepted)
  | none =>
    match s.tnq.playing.find? fun e => e.ticket == t with
    | some e => (admissionScan (endPlaying e s), .accepted)
    | none => (s, .state)

/-! ## Aging (R144) -/

/-- A queued entry is aged (R144). -/
def ageEntry (t : Nat) (s : State) : State :=
  s.withTnq { s.tnq with
    queue := s.tnq.queue.filter fun x => x.ticket != t
    aged := addCount s.tnq.aged 1 }

/-- The aging timer of a queued ticket. -/
def State.agingTimer (s : State) (t : Nat) : Option Nat := (s.tnq.queue.find? fun e => e.ticket == t).bind (·.aging)

/-- AGING_TIMER_EXPIRY (R144). -/
def execAgingTimerExpiry (t : Nat) (s : State) : Result :=
  .next (if s.due (s.agingTimer t) then event .tnq (ageEntry t) s else s)

/-! ## Deliveries to TNQ -/

/-- TNQ_CHANNEL_FREE (R140). -/
def execTnqChannelFree (s : State) : Result := .next (onDelivery .tnqChannelFree (event .tnq admissionScan) s)

/-- The cut count increased (R142, R145, R146). -/
def addCut (n : Nat) (s : State) : State := s.withTnq { s.tnq with cut := addCount s.tnq.cut n }

/-- Place an entry among the queued ones by its enqueue instant, behind those of the same instant (R141). -/
def requeue (e : TenantEntry) (q : List TenantEntry) : List TenantEntry :=
  q.takeWhile (fun x => decide (x.enqueued ≤ e.enqueued)) ++ e :: q.dropWhile (fun x => decide (x.enqueued ≤ e.enqueued))

/-- A refused entry returns to the queue, is aged at once, or is dropped from a full queue (R141). -/
def refused (e : TenantEntry) (s : State) : State :=
  let t := endPlaying e s
  if queueCapacity ≤ t.tnq.queue.length then addCut 1 t
  else
    let expiry := e.enqueued + t.cfg.tAge * 1000
    let u := t.withTnq { t.tnq with queue := requeue { e with aging := some expiry, started := none } t.tnq.queue }
    if expiry ≤ u.now then ageEntry e.ticket u else u

/-- Act on the playing entry with a ticket; a delivery that finds none is discarded (R141, R142). -/
def onPlaying (t : Nat) (f : TenantEntry → State → State) (s : State) : State :=
  match s.tnq.playing.find? fun e => e.ticket == t with
  | some e => f e s
  | none => s

/-- TENANT_REFUSAL (R141). -/
def execTenantRefusal (t : Nat) (s : State) : Result :=
  .next (onDelivery (.tenantRefusal t) (event .tnq (onPlaying t refused)) s)

/-- The end of a playing entry that is completed (R142). -/
def completed (e : TenantEntry) (s : State) : State := admissionScan (endPlaying e s)

/-- The end of a playing entry that is cut (R142). -/
def cutShort (e : TenantEntry) (s : State) : State := admissionScan (addCut 1 (endPlaying e s))

/-- TENANT_COMPLETION (R142). -/
def execTenantCompletion (t : Nat) (s : State) : Result :=
  .next (onDelivery (.tenantCompletion t) (event .tnq (onPlaying t completed)) s)

/-- TENANT_PRE_EMPTION (R142). -/
def execTenantPreEmption (t : Nat) (s : State) : Result :=
  .next (onDelivery (.tenantPreEmption t) (event .tnq (onPlaying t cutShort)) s)

/-- TENANT_PROGRAMME_EMPTIED (R142). -/
def execTenantProgrammeEmptied (t : Nat) (s : State) : Result :=
  .next (onDelivery (.tenantProgrammeEmptied t) (event .tnq (onPlaying t cutShort)) s)

/-- The flush at the entry to ALARM (R145): the playing entries are cleared in the order of the playing list. DESIGN CHOICE (log
entry 48). -/
def flush (s : State) : State :=
  let n := s.tnq.queue.length + s.tnq.playing.length
  let t := s.tnq.playing.foldl (fun u e => clearSlots e u) s
  t.withTnq { t.tnq with queue := [], playing := [], cut := addCount t.tnq.cut n }

/-- TNQ_ALARM_FLUSH (R145). -/
def execTnqAlarmFlush (s : State) : Result := .next (onDelivery .tnqAlarmFlush (event .tnq flush) s)

end Sys2Proof.Machine
end

