-- ==== Sys2Proof/Machine/Troubles.lean ====
section
/-! DEFINITION. The Trouble List (chapter 9.1). -/

namespace Sys2Proof.Machine

/-- The trouble list holds at most 48 entries (R147). -/
def listCapacity : Nat := 48

/-- Whether a kind is latching (9.2). -/
def latching (k : TroubleKind) : Bool :=
  match k with
  | .verifyBypassed | .doorFailed | .channelUnderrun | .memoryReadFault => true
  | .loopOpen | .loopShort | .zoneFault | .zoneIsolated | .partyLost | .supplyLimit | .takeoverActive => false

/-- An entry names a kind and a subject. -/
def TroubleEntry.names (e : TroubleEntry) (k : TroubleKind) (n : Nat) : Bool := e.kind == k && e.subject == n

/-- What the removal of an entry delivers: a VERIFY BYPASSED removal to RGE, a CHANNEL UNDERRUN removal to CHR (R149). -/
def removalNews (e : TroubleEntry) : List Instr :=
  match e.kind with
  | .verifyBypassed => (toIndex 64 e.subject).toList.map .verifyBypassedRemoval
  | .channelUnderrun => (toIndex 4 e.subject).toList.map .underrunRemoval
  | _ => []

/-- A raise taken by the Trouble List (R148). -/
def troubleRaised (k : TroubleKind) (n : Nat) (s : State) : State :=
  if s.trl.entries.any fun e => e.names k n then
    s.withTrl { s.trl with
      entries := s.trl.entries.map fun e => if e.names k n then { e with present := true } else e }
  else if s.trl.entries.length < listCapacity then
    s.withTrl { s.trl with entries := s.trl.entries ++ [⟨k, n, s.now, true, false⟩] }
  else s.withTrl { s.trl with overflow := addCount s.trl.overflow 1 }

/-- TROUBLE_RAISE (R148). -/
def execTroubleRaise (k : TroubleKind) (n : Nat) (s : State) : Result :=
  .next (onDelivery (.troubleRaise k n) (event .trl (troubleRaised k n)) s)

/-- A cleared entry stays when it is latching and not acknowledged (R149). -/
def staysAtClear (e : TroubleEntry) : Bool := latching e.kind && !e.acknowledged

/-- A clear taken by the Trouble List (R149). -/
def troubleCleared (k : TroubleKind) (n : Nat) (s : State) : State :=
  match s.trl.entries.find? fun e => e.names k n with
  | none => s
  | some e =>
    if staysAtClear e then
      s.withTrl { s.trl with
        entries := s.trl.entries.map fun x => if x.names k n then { x with present := false } else x }
    else
      (s.withTrl { s.trl with entries := s.trl.entries.filter fun x => !x.names k n }).deliver (removalNews e)

/-- TROUBLE_CLEAR (R149). -/
def execTroubleClear (k : TroubleKind) (n : Nat) (s : State) : Result :=
  .next (onDelivery (.troubleClear k n) (event .trl (troubleCleared k n)) s)

/-- A latching entry whose condition is not present is removed by an acknowledgement (R150). -/
def removedByAck (e : TroubleEntry) : Bool := latching e.kind && !e.present

/-- An ACKNOWLEDGE taken by the Trouble List (R150); its removals are delivered in the order of the list. DESIGN CHOICE (log entry
48). -/
def acknowledgeAll (s : State) : State :=
  (s.withTrl
    { entries := (s.trl.entries.filter fun e => !removedByAck e).map fun e => { e with acknowledged := true }
      overflow := 0 }).deliver ((s.trl.entries.filter removedByAck).flatMap removalNews)

/-- TRL_ACKNOWLEDGE (R150). -/
def execTrlAcknowledge (s : State) : Result := .next (onDelivery .trlAcknowledge (event .trl acknowledgeAll) s)

end Sys2Proof.Machine
end

