-- ==== Sys2Proof/Machine/Tables.lean ====
section
/-! DEFINITION. What the part answers from its records: SUMMARY, the READ tables and the other answers (R50, R166, R167, R171,
10.8). -/

namespace Sys2Proof.Machine

/-! ## Coding of fields (R166) -/

/-- A numbered field, 0xFF when it is none or absent. -/
def orNone (n : Option Nat) : List Byte := [n.elim 0xFF byteOf]

/-- An instant: the low 32 bits of the time base, 0xFF throughout when absent. -/
def instantBytes (n : Option Nat) : List Byte := n.elim [0xFF, 0xFF, 0xFF, 0xFF] bytes4

/-- The time in ms from now to an instant; 0 when it is absent or not in the future. -/
def State.remaining (s : State) (t : Option Nat) : Nat := t.elim 0 fun i => i - s.now

def flag (b : Bool) : List Byte := [flagByte b]

/-- A set of named values as a bit mask, bit 0 for the first of its list. -/
def flagMask (bs : List Bool) : Byte :=
  match bs with
  | [] => 0
  | b :: rest => flagByte b + 2 * flagMask rest

/-- A row padded with zeros. -/
def padRow (size : Nat) (bs : List Byte) : List Byte := bs ++ List.replicate (size - bs.length) 0

def bandCode (b : Band) : Nat :=
  match b with
  | .short => 0
  | .alarm => 1
  | .normal => 2
  | .openLine => 3

def conditionCode (c : Condition) : Nat :=
  match c with
  | .clear => 0
  | .alarm => 1
  | .fault => 2

def zoneStateCode (z : ZoneState) : Nat :=
  match z with
  | .normal => 0
  | .prealarm => 1
  | .alarm => 2
  | .fault => 3
  | .isolated => 4

def loopRoleCode (r : LoopRole) : Nat :=
  match r with
  | .zoneInput => 0
  | .doorFeedback => 1
  | .keyswitch => 2
  | .unused => 3

def regimeCode (r : RegimeState) : Nat :=
  match r with
  | .normal => 0
  | .prealarm => 1
  | .alarm => 2

def presenceCode (p : Presence) : Nat :=
  match p with
  | .absent => 0
  | .attaching => 1
  | .present => 2
  | .lost => 3

def roleCode (r : PortRole) : Nat :=
  match r with
  | .commandStation => 0
  | .firePanel => 1
  | .pagingConsole => 2
  | .liftGroup => 3
  | .unused => 4

def motionCode (m : Motion) : Nat :=
  match m with
  | .up => 0
  | .down => 1
  | .stopped => 2

def carDoorsCode (d : CarDoors) : Nat :=
  match d with
  | .openDoors => 0
  | .closed => 1
  | .moving => 2

def carModeCode (m : CarMode) : Nat :=
  match m with
  | .normal => 0
  | .independent => 1
  | .outOfService => 2
  | .recalling => 3
  | .atRecallLanding => 4
  | .phaseII => 5

def orderCode (o : LiftOrder) : Nat :=
  match o with
  | .none => 0
  | .recall => 1
  | .shutdown => 2
  | .tripped => 3

def landingCode (l : Landing) : Nat :=
  match l with
  | .designated => 0
  | .alternate => 1

def reasonMask (r : Reasons) : Byte := flagMask [r.lobby, r.shaft, r.sprinkler, r.general, r.manual]

def takeoverCode (t : Takeover) : Nat :=
  match t with
  | .owned => 0
  | .handingOver => 1
  | .taken => 2
  | .reacquiring => 3

def channelStateCode (c : ChannelState) : Nat :=
  match c with
  | .standby => 0
  | .waking => 1
  | .ready => 2
  | .playing => 3

def sourceCode (l : LiveSourceId) : Nat :=
  match l with
  | .liveC => 0
  | .liveP => 1

/-- A programme kind: 0 fire, 1 live, 2 tenant. -/
def demandKindCode (d : Demand) : Nat :=
  match d with
  | .fire _ _ => 0
  | .live _ => 1
  | .tenant _ _ => 2

/-- A programme's start cue or its live source. -/
def demandSubject (d : Demand) : Nat :=
  match d with
  | .fire q _ => q
  | .live l => sourceCode l
  | .tenant _ q => q

def joinCode (j : AreaJoin) : Nat :=
  match j with
  | .channel c => c.val
  | .live .liveC => 4
  | .live .liveP => 5

def troubleCode (k : TroubleKind) : Nat :=
  match k with
  | .loopOpen => 0
  | .loopShort => 1
  | .zoneFault => 2
  | .zoneIsolated => 3
  | .verifyBypassed => 4
  | .partyLost => 5
  | .doorFailed => 6
  | .supplyLimit => 7
  | .takeoverActive => 8
  | .channelUnderrun => 9
  | .memoryReadFault => 10

/-- A door point's state: its position in the list of its own kind (4.1). -/
def doorStateCode (d : DoorState) : Nat :=
  match d with
  | .absent => 0
  | .secured => 0
  | .queued => 1
  | .ramp _ => 2
  | .verify _ => 2
  | .released => 3
  | .failed => 4
  | .holding => 0
  | .dropped => 1

/-- The sub-phase of a strike in ENERGISING: 0 RAMP, 1 VERIFY. -/
def subPhase (d : DoorState) : Option Nat :=
  match d with
  | .ramp _ => some 0
  | .verify _ => some 1
  | _ => none

/-! ## Rows -/

/-- FLOORS. -/
def floorRow (s : State) (i : Nat) : List Byte :=
  match rowAt s.rge.floors i, rowAt s.cfg.floors i with
  | some r, some c =>
    flag c.alwaysEvacuate ++ [byteOf (phaseRank r.phase), byteOf r.alarmed, byteOf r.prealarmed] ++ flag r.origin
      ++ flag r.impaired ++ bytes2 r.entryTime
  | _, _ => []

/-- ZONES. -/
def zoneRow (s : State) (i : Nat) : List Byte :=
  match rowAt s.rge.zones i, rowAt s.cfg.zones i with
  | some r, some c =>
    if c.configured then
      [1, byteOf (zoneStateCode r.state), byteOf (conditionCode r.condition), byteOf r.unconfirmed]
    else []
  | _, _ => []

/-- LOOPS. -/
def loopRow (s : State) (i : Nat) : List Byte :=
  match rowAt s.lsc.loops i, rowAt s.cfg.loops i with
  | some r, some c =>
    [byteOf (loopRoleCode c.role), byteOf c.set, byteOf (bandCode r.stable), byteOf (bandCode r.pendingBand),
      byteOf r.pendingCount]
  | _, _ => []

/-- The queue of a group that a number names. -/
def State.queueOf (s : State) (g : Nat) : List QueueEntry := (rowAt s.dsq.groups g).elim [] (·.queue)

/-- DOORS, rows 0 to 127 (R71). -/
def doorRow (s : State) (d : DoorId) : List Byte :=
  let c := s.cfg.doors[d]
  let r := s.dsq.doors[d]
  if !c.configured then []
  else
    match c.kind with
    | .strike =>
      [1, 0, byteOf c.floor] ++ orNone c.stair ++ [byteOf c.group, byteOf (doorStateCode r)] ++ orNone (subPhase r)
        ++ orNone (((s.queueOf c.group).find? fun e => e.door == d).map (·.cls))
        ++ orNone ((s.queueOf c.group).findIdx? fun e => e.door == d)
    | .magnet =>
      [1, 1, byteOf c.floor] ++ orNone c.stair ++ [0xFF, byteOf (doorStateCode r), 0xFF, 0xFF, 0xFF]

/-- DOORS, rows 128 to 131 (R88). -/
def groupRow (s : State) (r : GroupRec) : List Byte :=
  [byteOf (takeoverCode r.takeover)] ++ bytes2 r.holdSum ++ flag r.limited
    ++ [byteOf r.carry, byteOf r.queue.length] ++ bytes2 (s.remaining (some r.nextRelease))

/-- DOORS. -/
def doorsRow (s : State) (i : Nat) : List Byte :=
  match toIndex 128 i with
  | some d => doorRow s d
  | none => (rowAt s.dsq.groups (i - 128)).elim [] (groupRow s)

/-- CARS. -/
def carRow (s : State) (i : Nat) : List Byte :=
  match toIndex 12 i with
  | some c =>
    let r := s.lfc.cars[c]
    flag (s.slotConfigured c) ++ [byteOf r.position, byteOf (motionCode r.motion), byteOf (carDoorsCode r.doors),
      byteOf (carModeCode r.mode)] ++ flag r.stale
  | none => []

/-- The Bank Order record as BANK ORDER and the BANKS table give it (R50). -/
def orderFields (r : BankRec) : List Byte :=
  [byteOf (orderCode r.order), byteOf (landingCode r.landing)] ++ flag r.flashing ++ flag r.phaseII
    ++ [reasonMask r.reasons]

/-- BANKS (R50). The time remaining on the shutdown timer is given in the whole seconds that it holds. DESIGN CHOICE (log
entry 40). -/
def bankRow (s : State) (i : Nat) : List Byte :=
  match toIndex 2 i with
  | some b =>
    let r := s.lfc.banks[b]
    if s.cfg.banks[b].configured then
      [1] ++ orderFields r ++ bytes2 (s.remaining r.timer / 1000) ++ [byteOf (presenceCode r.link)]
        ++ flag s.liftsUnavailable
    else []
  | none => []

/-- The number of entries that are not acknowledged (R147). -/
def Trl.unacknowledged (t : Trl) : Nat := (t.entries.filter fun e => !e.acknowledged).length

def troubleEntryRow (e : TroubleEntry) : List Byte :=
  [byteOf (troubleCode e.kind), byteOf e.subject] ++ bytes4 e.raised ++ flag (latching e.kind) ++ flag e.present
    ++ flag e.acknowledged

/-- TROUBLES. -/
def troubleRow (s : State) (i : Nat) : List Byte :=
  match i with
  | 0 => [byteOf s.trl.entries.length, byteOf s.trl.unacknowledged] ++ bytes2 s.trl.overflow
  | k + 1 => (s.trl.entries[k]?).elim [] troubleEntryRow

/-- The programme of a channel and its grant instant. -/
def grantFields (g : Option Grant) : List Byte :=
  orNone (g.map fun g => demandKindCode g.prog.demand) ++ orNone (g.map fun g => demandSubject g.prog.demand)
    ++ orNone (g.map fun g => demandPriority g.prog.demand) ++ instantBytes (g.map fun g => g.prog.instant)
    ++ instantBytes (g.map (·.granted))

/-- The current cue and the remaining repetitions, 0 for a continuous cue. -/
def chainFields (k : Option Chain) : List Byte :=
  orNone (k.map (·.cue)) ++ orNone (k.map fun c => c.remaining.getD 0)

def finishedFields (m : Option FinishedMark) : List Byte :=
  orNone (m.map (·.cue)) ++ orNone (m.map (·.startCue)) ++ instantBytes (m.map (·.instant))

/-- The begun flag of a channel: none where the channel has no programme (R137). -/
def beginFlag (r : ChannelRec) : List Byte := orNone (r.grant.map fun _ => r.begun.toNat)

/-- CHANNELS, rows 0 to 3 (R117, R136). -/
def channelRow (s : State) (c : ChannelId) : List Byte :=
  let r := s.chr.channels[c]
  [byteOf (channelStateCode r.state)] ++ grantFields r.grant ++ beginFlag r ++ zoneBytes r.zoneSet
    ++ orNone ((areasJoined s.cfg (.channel c)).head?.map (·.val)) ++ flag r.underrun ++ chainFields s.cue.chains[c]
    ++ finishedFields s.cue.finished[c]

def firePriorityCode (p : FirePriority) : Nat := demandPriority (.fire 0 p)

def fireFields (f : Option FireSlot) : List Byte :=
  orNone (f.map (·.cue)) ++ orNone (f.map fun x => firePriorityCode x.prio) ++ instantBytes (f.map (·.instant))
    ++ orNone (f.map fun x => x.complete.toNat)

def liveFields (l : Option LiveSlot) : List Byte :=
  orNone (l.map fun x => sourceCode x.source) ++ instantBytes (l.map (·.instant))

def tenantFields (t : Option TenantSlot) : List Byte :=
  orNone (t.map (·.ticket)) ++ orNone (t.map (·.cue)) ++ instantBytes (t.map (·.instant))
    ++ orNone (t.map fun x => x.complete.toNat)

/-- The channel whose zone set holds a zone. -/
def State.channelOf (s : State) (z : SpeakerId) : Option ChannelId :=
  (List.finRange 4).find? fun c => s.chr.channels[c].zoneSet.contains z

/-- CHANNELS, rows 4 to 39 (R117). -/
def speakerRow (s : State) (z : SpeakerId) : List Byte :=
  let r := s.cue.zones[z]
  flag (s.speakerConfigured z) ++ fireFields r.fire ++ liveFields r.live ++ tenantFields r.tenant
    ++ orNone ((effective r).map fun c => demandKindCode c.demand) ++ flag (rests r)
    ++ orNone ((s.channelOf z).map (·.val))

/-- The monitor selection and its channel (10.8). -/
def selectionFields (m : MonitorSelection) : List Byte :=
  match m with
  | .off => [0, 0xFF]
  | .channel c => [1, byteOf c.val]
  | .followOrigin => [2, 0xFF]

/-- CHANNELS, row 40 (R136). -/
def monitorRow (s : State) : List Byte :=
  selectionFields s.chr.selection ++ orNone (s.chr.monitored.map (·.val)) ++ flag s.chr.liveC.live
    ++ zoneBytes s.chr.liveC.claimed ++ flag s.chr.liveP.live ++ zoneBytes s.chr.liveP.claimed

/-- CHANNELS. -/
def channelsRow (s : State) (i : Nat) : List Byte :=
  match toIndex 4 i with
  | some c => channelRow s c
  | none =>
    match toIndex 36 (i - 4) with
    | some z => speakerRow s z
    | none => monitorRow s

/-- The fields that the rows of queued and of playing entries share (R138). -/
def entryFields (e : TenantEntry) : List Byte :=
  [byteOf e.ticket, byteOf e.cue] ++ zoneBytes e.zones ++ bytes4 e.enqueued

/-- TENANT QUEUE (R138). The time to the aging expiry is given in the whole seconds that it holds. DESIGN CHOICE (log entry
40). -/
def tenantRow (s : State) (i : Nat) : List Byte :=
  match i with
  | 0 =>
    bytes2 s.tnq.aged ++ bytes2 s.tnq.cut
      ++ [byteOf s.tnq.nextTicket, byteOf s.tnq.queue.length, byteOf s.tnq.playing.length]
  | k + 1 =>
    if k < 12 then
      (s.tnq.queue[k]?).elim [] fun e => entryFields e ++ bytes2 (s.remaining e.aging / 1000)
    else (s.tnq.playing[k - 12]?).elim [] fun e => entryFields e ++ instantBytes e.started

/-- PORTS (R155). -/
def portRow (s : State) (i : Nat) : List Byte :=
  match toIndex 6 i with
  | some p =>
    let r := s.links.ports[p]
    if s.role p == .unused then
      [byteOf (roleCode .unused), 0xFF, 0xFF, 0xFF, 0xFF, 0xFF, 0xFF, 0xFF, 0, 0]
    else
      [byteOf (roleCode (s.role p)), byteOf (presenceCode r.presence), byteOf r.attach, byteOf r.errors.framing,
        byteOf r.errors.parity, byteOf r.errors.overrun, byteOf r.errors.check, byteOf r.errors.length]
        ++ bytes2 (s.remaining r.supervision)
  | none => []

/-- The number of complete slots of an area (R136): a live area holds at most its size of the blocks its source has
completed. -/
def State.completeSlots (s : State) (a : AreaCfg) : Nat :=
  match a.join with
  | none => 0
  | some (.channel c) => (s.chr.channels[c].slots.filter fun x => x.status == .complete).length
  | some (.live src) => min (s.source src).blocks a.size

/-- AREAS (R136, R166). An area whose join is none has size 0 under every image that a commit accepts (R127); under another the row
gives its configured size. DESIGN CHOICE (log entry 49). -/
def areaRow (s : State) (i : Nat) : List Byte :=
  match rowAt s.cfg.areas i with
  | some a => [byteOf a.size] ++ orNone (a.join.map joinCode) ++ [byteOf (s.completeSlots a)]
  | none => []

/-! ## READ (R166) -/

/-- A table of READ: the number of its rows, the row size and the fields of each row. -/
structure ReadTable where
  rows : Nat
  size : Nat
  row : State → Nat → List Byte

/-- The table that a code names. -/
def State.tableNamed (s : State) (code : Nat) : Option ReadTable :=
  match code with
  | 1 => some ⟨s.cfg.topFloor + 1, 8, floorRow⟩
  | 2 => some ⟨64, 6, zoneRow⟩
  | 3 => some ⟨48, 6, loopRow⟩
  | 4 => some ⟨132, 10, doorsRow⟩
  | 5 => some ⟨12, 6, carRow⟩
  | 6 => some ⟨2, 10, bankRow⟩
  | 7 => some ⟨49, 10, troubleRow⟩
  | 8 => some ⟨41, 32, channelsRow⟩
  | 9 => some ⟨13 + s.tnq.playing.length, 18, tenantRow⟩
  | 10 => some ⟨6, 10, portRow⟩
  | 11 => some ⟨8, 4, areaRow⟩
  | _ => none

/-- The number of rows that an answer carries. -/
def ReadTable.count (t : ReadTable) (first requested : Nat) : Nat := min requested (min (t.rows - first) (53 / t.size))

/-- The rows of an answer. -/
def ReadTable.rowsFrom (t : ReadTable) (s : State) (first n : Nat) : List Byte :=
  (List.range n).flatMap fun i => padRow t.size (t.row s (first + i))

/-- The answer REFUSED (10.8). -/
def refusedAnswer (kind : Byte) (r : Reason) : Answer := ⟨0xFF, [kind, r.code]⟩

/-- The answer to a READ with a table code, a first row index and a requested count. -/
def readAnswer (s : State) (code first requested : Byte) : Answer :=
  match s.tableNamed code.toNat with
  | none => refusedAnswer 5 .range
  | some t =>
    let n := t.count first.toNat requested.toNat
    ⟨0x85, [code, first, byteOf n] ++ t.rowsFrom s first.toNat n⟩

/-! ## SUMMARY (R167, R171) -/

/-- A holding's setter level, 0xFF when it is absent. -/
def levelBytes (s : State) : List Byte :=
  orNone s.rge.silence ++ orNone s.rge.evacuateAll ++ orNone s.rge.expansionHold ++ orNone s.rge.manual

/-- The presence of a port in SUMMARY. -/
def presenceByte (s : State) (p : PortId) : Byte :=
  if s.role p == .unused then 0xFF else byteOf (presenceCode s.links.ports[p].presence)

/-- SUMMARY outside CONFIG FAULT (10.8). -/
def summaryBody (s : State) : List Byte :=
  [byteOf (regimeCode s.rge.regime), flagMask [false, s.cfs.mode, s.rge.acknowledged]] ++ levelBytes s
    ++ bytes2 s.rge.changeCounter.toNat ++ [byteOf s.rge.stepCount] ++ bytes2 s.elapsed
    ++ [byteOf s.trl.entries.length, byteOf s.trl.unacknowledged] ++ bytes2 s.trl.overflow
    ++ (List.finRange 6).map (presenceByte s) ++ orNone (s.rge.firstAlarms.head?.map (·.val))

/-- SUMMARY in CONFIG FAULT (R171). -/
def faultSummary : List Byte :=
  [0, 1, 0xFF, 0xFF, 0xFF, 0xFF, 0, 0, 0, 0, 0, 0, 0, 0, 0, 0, 0, 0, 0, 0, 0, 0xFF]

/-- The answer to a POLL (R167). -/
def pollAnswer (s : State) : Answer := ⟨0x81, if s.configFault then faultSummary else summaryBody s⟩

/-! ## The other answers (10.8) -/

/-- REPORT TAKEN. -/
def reportAnswer (accepted ignored : Nat) : Answer := ⟨0x82, [byteOf accepted, byteOf ignored]⟩

/-- COMMAND RESULT. -/
def commandAnswer (code : Byte) (r : Reason) : Answer := ⟨0x83, [code, r.code]⟩

/-- BANK ORDER (R50). -/
def bankAnswer (s : State) (b : BankId) : Answer := ⟨0x84, orderFields s.lfc.banks[b]⟩

/-- ANNOUNCE RESULT (R167). -/
def announceAnswer (sub : Byte) (r : Reason) (ticket : Nat) : Answer := ⟨0x86, [sub, r.code, byteOf ticket]⟩

/-- CONFIGURE RESULT (R173). -/
def configureAnswer (sub : Byte) (r : Reason) (offset : Nat) (bs : List Byte) : Answer :=
  ⟨0x87, [sub, r.code] ++ bytes2 offset ++ bs⟩

end Sys2Proof.Machine
end

