-- ==== Sys2Proof/Machine/Characters.lean ====
section
/-! DEFINITION. The characters of the party links: their bits and errors (R158), the characters of an answer (R159, R161), and
the level of a port's line output (R162). -/

namespace Sys2Proof.Machine

/-! ## Characters (R158) -/

/-- The bits of a character. -/
def characterBits : Nat := 11

/-- The data bits of a character, sent least significant bit first. -/
def dataOf (ch : LineChar) : Byte := ch.bits.setWidth 8

/-- The bit after the data bits: the mark bit in ADDRESSED mode, the parity bit in DIRECT mode. -/
def ninthBit (ch : LineChar) : Bool := ch.bits.getLsbD 8

/-- The number of 1s among some bits. -/
def onesAmong {w : Nat} (v : BitVec w) : Nat := ((List.range w).filter fun i => v.getLsbD i).length

/-- A framing error: two or three of the samples of the stop bit are 0. -/
def framingError (ch : LineChar) : Bool := onesAmong ch.stop ≤ 1

/-- A parity error, in DIRECT mode: the number of 1s among the data bits and the parity bit is not even. -/
def parityError (ch : LineChar) : Bool := onesAmong ch.bits % 2 == 1

/-- A character with a ninth bit and a correct stop bit. -/
def lineChar (ninth : Bool) (b : Byte) : LineChar := ⟨b.setWidth 9 ||| (if ninth then 256 else 0), 7⟩

/-- The parity bit that makes the number of 1s even. -/
def evenParity (b : Byte) : Bool := onesAmong b % 2 == 1

/-- A data character in a mode: mark bit 0, or even parity. -/
def dataChar (m : PortMode) (b : Byte) : LineChar :=
  match m with
  | .addressed => lineChar false b
  | .direct => lineChar (evenParity b) b

/-- An address character: mark bit 1. -/
def addressChar (b : Byte) : LineChar := lineChar true b

/-- The bits of a sent character on the line, in their order: the start bit 0, the data bits, the mark or parity bit, and the
stop bit 1. -/
def wireBits (ch : LineChar) : List Bool := false :: (List.range 9).map ch.bits.getLsbD ++ [true]

/-! ## Answers on the line (R159, R161, R162) -/

/-- The bytes of an answer frame (R161). -/
def answerFrame (a : Answer) : List Byte :=
  let head := [a.kind, byteOf a.body.length] ++ a.body
  head ++ bytes2 (head.foldl (fun t b => t + b.toNat) 0)

/-- The data bits of the address character that begins an answer in ADDRESSED mode (R159). -/
def answerAddress : Byte := 127

/-- The characters of an answer as they are sent (R159, R161). -/
def answerLine (m : PortMode) (a : Answer) : List LineChar :=
  (if m == .addressed then [addressChar answerAddress] else []) ++ (answerFrame a).map (dataChar m)

/-- A number of bit times at a port's baud rate has passed between two instants in µs. -/
def State.bitsPassed (s : State) (p : PortId) (since bits at_ : Nat) : Bool :=
  bits * 1000000 ≤ (at_ - since) * s.portBaud p

/-- The time of a number of bits at a port's baud rate, in whole µs, rounded up. -/
def State.bitsTime (s : State) (p : PortId) (bits : Nat) : Nat :=
  (bits * 1000000 + (s.portBaud p - 1)) / s.portBaud p

/-- The bits of the answer that an ANSWERING port sends. -/
def State.answerBits (s : State) (p : PortId) : List Bool :=
  if s.links.ports[p].rx == .answering then
    s.links.ports[p].answer.elim [] fun a => (answerLine (s.portMode p) a).flatMap wireBits
  else []

/-- The level of a port's line output at an instant in µs: the bit of its answer that is being sent, and idle (1) outside an
answer. The part never speaks first (chapter 10). -/
def State.lineOutput (s : State) (p : PortId) (at_ : Nat) : Bool :=
  (s.answerBits p).getD ((at_ - s.links.ports[p].begunAt) * s.portBaud p / 1000000) true

end Sys2Proof.Machine
end

