-- ==== Sys2Proof/Machine/Links.lean ====
section
/-! DEFINITION. Party presence (9.3) and the receive states of the party link ports (10.1 to 10.5). -/

namespace Sys2Proof.Machine

/-! ## Records -/

def State.setPort (s : State) (p : PortId) (r : PortRec) : State :=
  s.withLinks { s.links with ports := s.links.ports.set p.val r }

/-- Change the record of a port. -/
def State.mapPort (s : State) (p : PortId) (f : PortRec → PortRec) : State := s.setPort p (f s.links.ports[p])

/-! ## Presence (R152 to R154) -/

/-- A LIFT GROUP port delivers its changes of presence to LFC (R154). -/
def presenceNews (s : State) (p : PortId) (q : Presence) : List Instr :=
  if s.role p == .liftGroup then [.lfcPresenceChange p q] else []

/-- The instant at which the supervision timer of a port expires when it is started now. -/
def State.supervisionEnd (s : State) (p : PortId) : Option Nat := some (s.after s.cfg.ports[p].tSup)

/-- A valid frame acts on the presence of its port (R152); the ports keep no presence in CONFIG FAULT (R155). -/
def presenceOnFrame (p : PortId) (s : State) : State :=
  if s.configFault then s
  else
    let r := s.links.ports[p]
    let timer := s.supervisionEnd p
    match r.presence with
    | .absent | .lost =>
      (s.setPort p { r with presence := .attaching, attach := 1, supervision := timer }).deliver
        (presenceNews s p .attaching)
    | .attaching =>
      if 3 ≤ r.attach + 1 then
        ((s.setPort p { r with presence := .present, attach := 0, supervision := timer }).clear .partyLost p.val).deliver
          (presenceNews s p .present)
      else s.setPort p { r with attach := r.attach + 1, supervision := timer }
    | .present => s.setPort p { r with supervision := timer }

/-- What the loss of a port delivers, by its role (R154). -/
def lossNews (s : State) (p : PortId) : List Instr :=
  match s.role p with
  | .firePanel => [.rgePanelLoss p]
  | .liftGroup => [.lfcPresenceChange p .lost]
  | .commandStation => [.rgeCommandStationLoss p, .chrPortLoss p]
  | .pagingConsole => [.chrPortLoss p]
  | .unused => []

/-- A port becomes LOST (R153, R154). -/
def losePort (p : PortId) (s : State) : State :=
  ((s.mapPort p fun r => { r with presence := .lost, attach := 0, supervision := none }).raise .partyLost p.val).deliver
    (lossNews s p)

/-- SUPERVISION_TIMER_EXPIRY (R153). -/
def execSupervisionTimerExpiry (p : PortId) (s : State) : Result :=
  .next (if s.due s.links.ports[p].supervision then event (.port p) (losePort p) s else s)

/-- A port of a used role that is still ABSENT at the end of the start grace becomes LOST (R153), an event of that port. -/
def graceEndsAt (s : State) (p : PortId) : State :=
  if s.role p != .unused && s.links.ports[p].presence == .absent then event (.port p) (losePort p) s else s

/-- The start grace ends (R153). -/
def graceEnds (s : State) : State :=
  (List.finRange 6).foldl graceEndsAt (s.withLinks { s.links with grace := none })

/-- START_GRACE_END (R153). -/
def execStartGraceEnd (s : State) : Result := .next (if s.due s.links.grace then graceEnds s else s)

/-! ## Answers on their way out (R162, R174) -/

/-- The EEPROM write of an accepted COMMIT, begun at an instant. -/
def writeBegun (since : Nat) (w : CommitWrite) : CommitWrite := { w with stage := .writing since }

/-- A commit write is in progress: it has begun, and its cold start has not come (R174). -/
def State.committing (s : State) : Bool :=
  s.cfs.write.any fun w =>
    match w.stage with
    | .awaiting _ => false
    | .writing _ => true

/-- The EEPROM write of an accepted COMMIT begins when its port has sent or abandoned the answer (R174). -/
def startWrite (p : PortId) (s : State) : State :=
  s.withCfs { s.cfs with
   write := s.cfs.write.map fun w =>
    match w.stage with
    | .awaiting q => if q == p then writeBegun s.now w else w
    | .writing _ => w }

/-- A port that is PREPARING abandons its answer (R162); a port in another state has none to abandon. -/
def abandon (p : PortId) (s : State) : State :=
  if s.links.ports[p].rx == .preparing then startWrite p (s.mapPort p fun r => { r with answer := none }) else s

/-- An instant of the present ms, in µs. -/
def State.instantAt (s : State) (us : Nat) : Nat := s.now * 1000 + us

/-- The port has taken a frame at an instant: it is PREPARING with the answer (R161). -/
def prepare (p : PortId) (a : Answer) (at_ : Nat) (s : State) : State :=
  s.mapPort p fun r => { r with rx := .preparing, buffer := [], answer := some a, idleFrom := at_, takenAt := at_ }

/-- A port hears its line: it is used and not ANSWERING (R157, R162). -/
def State.hears (s : State) (p : PortId) : Bool := s.portUsed p && s.links.ports[p].rx != .answering

/-- The latest delay of an answer after the last check character of its request, in µs (R162). -/
def answerLimit : Nat := 10000

/-- The latest instant at which the answer of a PREPARING port begins, in µs (R162): 10 ms after the last check character, or
2 character times where the baud rate, one that no commit accepts, makes them longer. -/
def State.answerLatest (s : State) (p : PortId) : Nat :=
  s.links.ports[p].takenAt + max answerLimit (s.bitsTime p (2 * characterBits))

/-- The answer of a PREPARING port may begin at an instant: 2 character times have passed since the last check character, and
the latest instant has not (R162). -/
def State.answerReady (s : State) (p : PortId) (at_ : Nat) : Bool :=
  s.links.ports[p].rx == .preparing && s.links.ports[p].answer.isSome
    && s.bitsPassed p s.links.ports[p].takenAt (2 * characterBits) at_ && decide (at_ ≤ s.answerLatest p)

/-- The port begins to send its answer. -/
def beginAnswer (p : PortId) (at_ : Nat) (s : State) : State :=
  s.mapPort p fun r => { r with rx := .answering, begunAt := at_ }

/-- ANSWER_BEGIN (R162). The instant within the window of R162 is given by the command. DESIGN CHOICE (log entry 10). -/
def execAnswerBegin (a : AnswerEdge) (s : State) : Result :=
  .next (if s.answerReady a.port (s.instantAt a.us) then beginAnswer a.port (s.instantAt a.us) s else s)

/-- The bits of an answer on the line. -/
def State.answerLength (s : State) (p : PortId) (a : Answer) : Nat := characterBits * (answerLine (s.portMode p) a).length

/-- The last character of the answer has been sent at an instant. -/
def State.answerDone (s : State) (p : PortId) (at_ : Nat) : Bool :=
  s.links.ports[p].rx == .answering
    && s.links.ports[p].answer.any fun a => s.bitsPassed p s.links.ports[p].begunAt (s.answerLength p a) at_

/-- The instant at which the last character of an answer has been sent. -/
def State.answerEnd (s : State) (p : PortId) : Nat :=
  s.links.ports[p].begunAt + s.links.ports[p].answer.elim 0 fun a => s.bitsTime p (s.answerLength p a)

/-- The answer is sent and the port listens again, its line idle from the answer's end (R160, R162). -/
def finishAnswer (p : PortId) (s : State) : State :=
  startWrite p (s.mapPort p fun r =>
    { r with rx := .listening, buffer := [], answer := none, idleFrom := s.answerEnd p })

/-- ANSWER_SENT (R162). -/
def execAnswerSent (a : AnswerEdge) (s : State) : Result :=
  .next (if s.answerDone a.port (s.instantAt a.us) then finishAnswer a.port s else s)

/-! ## Receive errors (R163) -/

/-- The counter of an error, one higher. -/
def ErrorCounters.count (c : ErrorCounters) (e : ReceiveErrorKind) : ErrorCounters :=
  match e with
  | .framing => { c with framing := saturate 255 c.framing }
  | .parity => { c with parity := saturate 255 c.parity }
  | .overrun => { c with overrun := saturate 255 c.overrun }
  | .check => { c with check := saturate 255 c.check }
  | .length => { c with length := saturate 255 c.length }

/-- The receive errors of one character: the partial frame is dropped or the answer withheld, the port is DISCARDING, and the
counter of each error rises. -/
def receiveFails (p : PortId) (es : List ReceiveErrorKind) (s : State) : State :=
  (abandon p s).mapPort p fun r =>
    { r with rx := .discarding, buffer := [], errors := es.foldl ErrorCounters.count r.errors }

/-- A character with receive errors is one event of its port. -/
def receiveErrors (p : PortId) (es : List ReceiveErrorKind) (s : State) : State := event (.port p) (receiveFails p es) s

/-! ## Selection and frame starts (R159, R160) -/

/-- The port acts on an address character for this station, or another (R159): it is selected and receives afresh, or it
listens. -/
def addressTaken (p : PortId) (own : Bool) (s : State) : State :=
  (abandon p s).mapPort p fun r => { r with rx := if own then .receiving else .listening, buffer := [] }

/-- The port acts on a frame start: it receives with this character as the kind (R160). -/
def frameStarted (p : PortId) (b : Byte) (s : State) : State :=
  (abandon p s).mapPort p fun r => { r with rx := .receiving, buffer := [b] }

/-- The start bit of a character that ends at an instant follows at least 2 character times of an idle line (R160): with its
own character time, 3 since the line became idle. -/
def State.startsFrame (s : State) (p : PortId) (at_ : Nat) : Bool :=
  s.bitsPassed p s.links.ports[p].idleFrom (3 * characterBits) at_

/-! ## What a character is to a port (R158 to R161, R163) -/

/-- The sum of bytes, modulo 65536 (R161). -/
def frameSum (bs : List Byte) : Nat := (bs.foldl (fun t b => t + b.toNat) 0) % 65536

/-- What a port makes of a character. -/
inductive Reception where
  /-- The receive errors of the character, each kind once (R163). -/
  | fails (es : List ReceiveErrorKind)
  /-- An address character, for this station or another (R159). -/
  | addressed (own : Bool)
  /-- A frame start with this character as the kind (R160). -/
  | starts (b : Byte)
  /-- Collected, the frame not yet complete (R161). -/
  | collects (bs : List Byte)
  /-- The frame is complete and its check matches (R161). -/
  | takes (kind : Byte) (body : List Byte)
  /-- A character without a frame start in DIRECT mode in LISTENING: DISCARDING (R160). -/
  | lost
  /-- Ignored. -/
  | ignored
  deriving DecidableEq, Repr

/-- The characters collected of a frame, with the one just received (R161): a length byte above 56 is a length error, and a
complete frame is taken or has a check error. -/
def collected (bs : List Byte) : Reception :=
  match bs with
  | kind :: len :: rest =>
    if !decide (len.toNat ≤ 56) then .fails [.length]
    else if rest.length == len.toNat + 2 then
      let body := rest.take len.toNat
      if number2 (rest.getD len.toNat 0) (rest.getD (len.toNat + 1) 0) == frameSum (kind :: len :: body) then
        .takes kind body
      else .fails [.check]
    else .collects bs
  | _ => .collects bs

/-- The character has a receive error of a kind. -/
def Reception.hasError (x : Reception) (e : ReceiveErrorKind) : Bool :=
  match x with
  | .fails es => es.contains e
  | .addressed _ | .starts _ | .collects _ | .takes _ _ | .lost | .ignored => false

/-- A character in ADDRESSED mode (R159, R163). A data character with a framing error in PREPARING is an error of two kinds, framing
and length, and each counts. DEDUCED (log entry 44). -/
def addressedReception (address : Nat) (r : PortRec) (ch : LineChar) : Reception :=
  if framingError ch then
    if r.rx == .preparing && !ninthBit ch then .fails [.framing, .length]
    else if r.rx == .receiving || r.rx == .preparing || ninthBit ch then .fails [.framing]
    else .ignored
  else if ninthBit ch then .addressed ((dataOf ch).toNat == address)
  else
    match r.rx with
    | .receiving => collected (r.buffer ++ [dataOf ch])
    | .preparing => .fails [.length]
    | .listening | .discarding | .answering => .ignored

/-- What the framing or parity error of a character in DIRECT mode is at a port (R163). In DISCARDING the character is ignored. In
PREPARING a character that is not a frame start is an overrun too, and each of the two errors counts. DEDUCED (log entry 44). -/
def directError (e : ReceiveErrorKind) (start : Bool) (r : PortRec) : Reception :=
  match r.rx with
  | .listening | .receiving => .fails [e]
  | .preparing => .fails (if start then [e] else [e, .overrun])
  | .discarding | .answering => .ignored

/-- A character in DIRECT mode (R160, R163). One with a framing error is not a frame start. One with a framing and a parity error
is one with a framing error only, the overrun in PREPARING beside it. DESIGN CHOICE (log entry 52). -/
def directReception (start : Bool) (r : PortRec) (ch : LineChar) : Reception :=
  if framingError ch then directError .framing false r
  else if parityError ch then directError .parity start r
  else if start then .starts (dataOf ch)
  else
    match r.rx with
    | .listening => .lost
    | .receiving => collected (r.buffer ++ [dataOf ch])
    | .preparing => .fails [.overrun]
    | .discarding | .answering => .ignored

/-- What a port makes of a character that ends at an instant. -/
def State.reception (s : State) (p : PortId) (ch : LineChar) (at_ : Nat) : Reception :=
  match s.portMode p with
  | .addressed => addressedReception s.cfg.ports[p].address s.links.ports[p] ch
  | .direct => directReception (s.startsFrame p at_) s.links.ports[p] ch

/-- The line of a port is idle from an instant on, as far as it has been heard (R160). -/
def lineIdle (p : PortId) (at_ : Nat) (s : State) : State := s.mapPort p fun r => { r with idleFrom := at_ }

end Sys2Proof.Machine
end

