-- ==== Sys2Proof/Machine/Store.lean ====
section
/-! DEFINITION. The Configuration Store: configuration mode and the CONFIGURE sub-kinds (R172 to R174). -/

namespace Sys2Proof.Machine

/-! ## Configuration mode (R172) -/

/-- The mode is entered: the working image is a copy of the image in use. -/
def enterMode (s : State) : State := s.withCfs { s.cfs with mode := true, working := s.cfs.inUse }

/-- The mode ends and the working image is discarded. -/
def endMode (s : State) : State := s.withCfs { s.cfs with mode := false, working := none }

/-- The level of the key input. -/
def setKey (on : Bool) (s : State) : State := s.withCfs { s.cfs with key := on }

/-- CFS may enter configuration mode (R172): in NORMAL and while no commit write is in progress; in CONFIG FAULT the key is not
acted on (R171). -/
def State.mayConfigure (s : State) : Bool :=
  !s.configFault && s.rge.regime == .normal && !s.committing

/-- A change of the key to on. -/
def keyTurnedOn (s : State) : State := if s.mayConfigure then enterMode (setKey true s) else setKey true s

/-- CONFIGURATION_KEY_ON (R172): a change of the key input. -/
def execConfigurationKeyOn (s : State) : Result := .next (if s.cfs.key then s else event .cfs keyTurnedOn s)

/-- CONFIGURATION_KEY_OFF (R172). -/
def execConfigurationKeyOff (s : State) : Result :=
  .next (if s.cfs.key then event .cfs (fun s => endMode (setKey false s)) s else s)

/-- CFS_REGIME_DELIVERY (R172): a PREALARM entry or an entry to ALARM ends the mode. -/
def execCfsRegimeDelivery (news : CfsNews) (s : State) : Result :=
  .next (onDelivery (.cfsRegimeDelivery news) (event .cfs endMode) s)

/-! ## CONFIGURE (R173, R174) -/

/-- The result of a CONFIGURE: the reason, the offset bytes and the data bytes. -/
structure ConfigureResult where
  reason : Reason
  offset : Nat
  data : List Byte
  deriving DecidableEq, Repr

/-- A result for which the manual gives no offset. -/
def openResult (sub : Byte) (args : List Byte) (r : Reason) (bs : List Byte) : ConfigureResult :=
  ⟨r, Config.openOffset sub r.code args, bs⟩

/-- WRITE in configuration mode. -/
def configureWrite (m : Image) (args : List Byte) (s : State) : State × ConfigureResult :=
  let offset := number2 (args.getD 0 0) (args.getD 1 0)
  let bs := args.drop 2
  if imageSize < offset + bs.length then (s, openResult 1 args .range [])
  else (s.withCfs { s.cfs with working := some (m.putAll offset bs) }, openResult 1 args .accepted [])

/-- READ BACK in configuration mode. -/
def configureReadBack (m : Image) (args : List Byte) : ConfigureResult :=
  let offset := number2 (args.getD 0 0) (args.getD 1 0)
  let n := (args.getD 2 0).toNat
  if imageSize < offset + n || n == 0 || 52 < n then openResult 2 args .range []
  else openResult 2 args .accepted (m.bytesFrom offset n)

/-- The working image of an accepted COMMIT, with its check, waits for the port's answer to be written. A write in progress is not
interrupted, and its cold start comes first: the image is then not written. One that still waits gives way. DESIGN CHOICE (log
entry 53). -/
def handToWrite (p : PortId) (m : Image) (s : State) : State :=
  if s.committing then s else s.withCfs { s.cfs with write := some ⟨m.withCheck, .awaiting p⟩ }

/-- COMMIT in configuration mode at a port (R174). Its first check reads the regime as it stands, and so refuses STATE while a
PREALARM or ALARM entry is still on its way to CFS. DESIGN CHOICE (log entry 42). -/
def configureCommit (p : PortId) (m : Image) (s : State) : State × ConfigureResult :=
  if s.rge.regime != .normal then (s, openResult 3 [] .state [])
  else if m.failures.isEmpty then
    (endMode (handToWrite p m s), ⟨.accepted, 65535, []⟩)
  else (s, ⟨.range, lowestOffset m.failures, []⟩)

/-- DISCARD in configuration mode. -/
def configureDiscard (s : State) : State × ConfigureResult :=
  (s.withCfs { s.cfs with working := s.cfs.inUse }, openResult 4 [] .accepted [])

/-- CFS decides a CONFIGURE by its sub-kind (R173): an unknown sub-kind is refused KIND in every mode, a known one is refused
STATE outside configuration mode. -/
def configure (p : PortId) (sub : Byte) (args : List Byte) (s : State) : State × ConfigureResult :=
  if !knownSub sub then (s, openResult sub args .kind [])
  else
    match s.cfs.mode, s.cfs.working with
    | true, some m =>
      match sub.toNat with
      | 1 => configureWrite m args s
      | 2 => (s, configureReadBack m args)
      | 3 => configureCommit p m s
      | _ => configureDiscard s
    | _, _ => (s, openResult sub args .state [])

end Sys2Proof.Machine
end

