-- ==== Sys2Proof/Machine/Requests.lean ====
section
/-! DEFINITION. Taking a frame and serving its request (10.4, 10.6, R161, R164 to R167), and the commands that are whole
frames. -/

namespace Sys2Proof.Machine

/-! ## The checks of R164 -/

/-- The role table of the request kinds (R164). -/
def kindRole (kind : Nat) (r : PortRole) : Bool :=
  match kind, r with
  | _, .unused => false
  | 1, _ => true
  | 5, _ => true
  | 2, .firePanel => true
  | 4, .liftGroup => true
  | 3, .commandStation => true
  | 3, .firePanel => true
  | 6, .commandStation => true
  | 6, .pagingConsole => true
  | 7, .commandStation => true
  | _, _ => false

/-- The length of a COMMAND matches its code; an unknown code passes (R164, R165). -/
def commandForm (body : List Byte) : Bool :=
  match body with
  | [] => false
  | code :: args =>
    match commandArgs code.toNat with
    | some n => args.length == n
    | none => true

/-- The length of an ANNOUNCE matches its sub-kind; an unknown sub-kind passes. -/
def announceForm (body : List Byte) : Bool :=
  match body with
  | [] => false
  | sub :: args =>
    match sub.toNat with
    | 1 => args.length == 6
    | 2 => args.length == 1
    | 3 => args.length == 5
    | 4 => args.isEmpty
    | _ => true

/-- The length of a CONFIGURE matches its sub-kind; an unknown sub-kind passes (R173). -/
def configureForm (body : List Byte) : Bool :=
  match body with
  | [] => false
  | sub :: args =>
    match sub.toNat with
    | 1 => 3 ≤ args.length && args.length ≤ 55
    | 2 => args.length == 3
    | 3 => args.isEmpty
    | 4 => args.isEmpty
    | _ => true

/-- The body has the form that 10.8 gives for its kind (R164). -/
def bodyForm (kind : Nat) (body : List Byte) : Bool :=
  match kind with
  | 1 => body.isEmpty
  | 2 => body.length % 2 == 0 && body.length ≤ 56
  | 3 => commandForm body
  | 4 => body.length % 5 == 0 && body.length ≤ 55
  | 5 => body.length == 3
  | 6 => announceForm body
  | _ => configureForm body

/-- The first of the checks of R164 that a request fails, in their order. -/
def State.requestCheck (s : State) (p : PortId) (kind : Byte) (body : List Byte) : Option Reason :=
  if !knownKind kind then some .kind
  else if s.configFault then (if kind.toNat == 1 then (if body.isEmpty then none else some .range) else some .config)
  else if !kindRole kind.toNat (s.role p) then some .role
  else if !bodyForm kind.toNat body then some .range
  else none

/-! ## COMMAND (R165) -/

/-- The owner's decision of a command by its code, at an authority level. -/
def decideCommand (p : PortId) (code : Nat) (args : List Byte) (s : State) : State × Reason :=
  let level := authority (s.role p)
  let a := args.getD 0 0
  let b := args.getD 1 0
  match code with
  | 1 => cmdAcknowledge s
  | 2 => cmdSilence level s
  | 3 => cmdResound level s
  | 4 => cmdRegimeReset level s
  | 5 => cmdEvacuateAll level s
  | 6 => cmdCancelEvacuateAll level s
  | 7 => cmdHoldExpansion level s
  | 8 => cmdReleaseExpansion level s
  | 9 => cmdIsolateZone p a s
  | 10 => cmdRestoreZone p a s
  | 11 => cmdTakeManualControl s
  | 12 => cmdSetFloorPhase a b s
  | 13 => cmdReturnToAutomatic level s
  | 14 => cmdRecallBank a s
  | 15 => cmdCancelRecall a s
  | 16 => cmdAuthorisePhaseII a s
  | 17 => cmdWithdrawPhaseII a s
  | 18 => cmdReleaseAllDoors s
  | 19 => cmdMonitorSelect a b s
  | _ => (s, .kind)

/-- A command is refused KIND or ROLE, or decided by its owner (R165). -/
def serveCommand (p : PortId) (code : Byte) (args : List Byte) (s : State) : State × Reason :=
  if !knownCommand code then (s, .kind)
  else if !commandRole code.toNat (s.role p) then (s, .role)
  else decideCommand p code.toNat args s

/-- The block that decides a command (R165); the port, where it goes to no owner. -/
def commandHome (p : PortId) (code : Byte) (s : State) : Agent :=
  if !knownCommand code || !commandRole code.toNat (s.role p) then .port p
  else if code.toNat ≤ 13 then .rge
  else if code.toNat ≤ 17 then .lfc
  else if code.toNat == 18 then .dsq
  else .chr

/-! ## ANNOUNCE (R167) -/

/-- An ANNOUNCE by its sub-kind: the state, the reason and the ticket. -/
def serveAnnounce (p : PortId) (sub : Byte) (args : List Byte) (s : State) : State × Reason × Nat :=
  match sub.toNat with
  | 1 => cmdAnnounceTenant (args.getD 0 0).toNat (maskZones (args.drop 1)) s
  | 2 =>
    let t := cmdAnnounceCancel (args.getD 0 0).toNat s
    (t.1, t.2, 0)
  | 3 =>
    match sourceOfRole (s.role p) with
    | some src =>
      let t := cmdLiveStart src (maskZones args) s
      (t.1, t.2, 0)
    | none => (s, .role, 0)
  | 4 =>
    match sourceOfRole (s.role p) with
    | some src =>
      let t := cmdLiveStop src s
      (t.1, t.2, 0)
    | none => (s, .role, 0)
  | _ => (s, .kind, 0)

/-- The block that decides an ANNOUNCE (R164). -/
def announceHome (p : PortId) (sub : Byte) : Agent :=
  match sub.toNat with
  | 1 => .tnq
  | 2 => .tnq
  | 3 => .chr
  | 4 => .chr
  | _ => .port p

/-! ## Serving -/

/-- A ZONE REPORT at RGE (R11). -/
def serveZoneReport (p : PortId) (body : List Byte) (s : State) : State × Answer :=
  let es := zoneEntries body
  let n := acceptedEntries p es s
  (zoneReportTaken p es s, reportAnswer n (es.length - n))

/-- A CAR REPORT at LFC. A LIFT GROUP port names a configured bank under every checked image (R48); under one placed from
outside that does not, nothing is taken and the answer is the record of the bank it names, or of bank A. DESIGN CHOICE (log
entry 39). -/
def serveCarReport (p : PortId) (body : List Byte) (s : State) : State × Answer :=
  match s.portBank p with
  | some b =>
    let t := carReportTaken b (carEntries body) s
    (t, bankAnswer t b)
  | none => (s, bankAnswer s ((s.cfg.ports[p].bank).getD 0))

/-- Serve a request that has passed the checks of R164: the state it leaves and its answer. -/
def serveKind (p : PortId) (kind : Byte) (body : List Byte) (s : State) : State × Answer :=
  match kind.toNat with
  | 1 => (s, pollAnswer s)
  | 2 => serveZoneReport p body s
  | 3 =>
    let r := serveCommand p (body.getD 0 0) body.tail s
    (r.1, commandAnswer (body.getD 0 0) r.2)
  | 4 => serveCarReport p body s
  | 5 => (s, readAnswer s (body.getD 0 0) (body.getD 1 0) (body.getD 2 0))
  | 6 =>
    let r := serveAnnounce p (body.getD 0 0) body.tail s
    (r.1, announceAnswer (body.getD 0 0) r.2.1 r.2.2)
  | _ =>
    let r := configure p (body.getD 0 0) body.tail s
    (r.1, configureAnswer (body.getD 0 0) r.2.reason r.2.offset r.2.data)

/-- Serve a taken request (R164): the first check that fails gives REFUSED. -/
def serve (p : PortId) (kind : Byte) (body : List Byte) (s : State) : State × Answer :=
  match s.requestCheck p kind body with
  | some r => (s, refusedAnswer kind r)
  | none => serveKind p kind body s

/-- The block at whose state a taken request is an event (R164, R165); the port, when it goes to no other block. -/
def serveHome (p : PortId) (kind : Byte) (body : List Byte) (s : State) : Agent :=
  match s.requestCheck p kind body with
  | some _ => .port p
  | none =>
    match kind.toNat with
    | 2 => .rge
    | 3 => commandHome p (body.getD 0 0) s
    | 4 => .lfc
    | 6 => announceHome p (body.getD 0 0)
    | 7 => if knownSub (body.getD 0 0) then .cfs else .port p
    | _ => .port p

/-! ## Taking a frame (R161) -/

/-- What a block does at the end of each of its events (R21, R24, R45; R81, R82, R90; R124, R129, R135). -/
def blockChange (home : Agent) (f : State → State) (s : State) : State :=
  match home with
  | .rge => rgeChange f s
  | .dsq => dsqChange f s
  | .chr => chrChange f s
  | .lsc | .lfc | .cue | .tnq | .trl | .cfs | .port _ => f s

/-- A block takes one delivery of a port. -/
def takePortDelivery (s : State) (e : Instr) : State :=
  match e with
  | .rgePanelLoss p => onDelivery e (rgeEvent (panelLost p)) s
  | .rgeCommandStationLoss _ => onDelivery e (rgeEvent commandStationLost) s
  | .changeCounterIncrease _ => onDelivery e counterIncreased s
  | .lfcPresenceChange p q => onDelivery e (event .lfc (presenceAtLfc p q)) s
  | .chrPortLoss p => onDelivery e (chrEvent (portLostAtChr p)) s
  | _ => s

/-- The deliveries of a port that a block has not yet taken are taken before a later request of the port at that block, each
as its own event (R51). DEDUCED for the other blocks (log entry 8). -/
def takeEarlier (p : PortId) (home : Agent) (s : State) : State :=
  (s.deliveries.filter fun e => route e == some (.port p, home)).foldl takePortDelivery s

/-- A CAR REPORT finds the bank with its port's presence as the frame left it (R51, R152). -/
def takeOwnPresence (p : PortId) (s : State) : State :=
  match s.deliveries.find? fun e => route e == some (.port p, .lfc) with
  | some (.lfcPresenceChange q r) => presenceAtLfc q r (s.taken (.lfcPresenceChange q r))
  | _ => s

/-- The state in which a taken frame is served: its effect on presence is in place (R152). -/
def beforeService (p : PortId) (home : Agent) (s : State) : State :=
  if home == .lfc && s.role p == .liftGroup then takeOwnPresence p (presenceOnFrame p s) else presenceOnFrame p s

/-- A frame is served and its answer prepared. -/
def serveFrame (p : PortId) (home : Agent) (kind : Byte) (body : List Byte) (at_ : Nat) (s : State) : State :=
  let r := serve p kind body (beforeService p home s)
  prepare p r.2 at_ r.1

/-- A frame whose last check character ends at an instant is taken at a port (R161): one event, with the deliveries the port
made before it taken first. -/
def takeFrame (p : PortId) (kind : Byte) (body : List Byte) (at_ : Nat) (s : State) : State :=
  let home := serveHome p kind body s
  event home (blockChange home (serveFrame p home kind body at_)) (takeEarlier p home s)

/-- A whole frame without a receive error arrives at a port that hears its line, its last character at the present ms. What
the port was receiving is dropped and an answer it was preparing is abandoned (R159, R160); a body above 56 bytes is a length
error (R161). DESIGN CHOICE (log entry 7). -/
def frameArrives (p : PortId) (kind : Byte) (body : List Byte) (s : State) : State :=
  if s.hears p then
    if bodyFits body then takeFrame p kind body (s.instantAt 0) (abandon p s)
    else receiveErrors p [.length] (lineIdle p (s.instantAt 0) s)
  else s

/-! ## Characters (R158 to R163) -/

/-- The port acts on what it made of a character that ends at an instant. -/
def received (p : PortId) (x : Reception) (at_ : Nat) (s : State) : State :=
  match x with
  | .fails es => receiveErrors p es s
  | .addressed own => addressTaken p own s
  | .starts b => frameStarted p b s
  | .collects bs => s.mapPort p fun r => { r with buffer := bs }
  | .takes kind body => takeFrame p kind body at_ s
  | .lost => s.mapPort p fun r => { r with rx := .discarding, buffer := [] }
  | .ignored => s

/-- A port hears a character: its line is busy until the character's end, and the port acts on the character. -/
def hearCharacter (p : PortId) (b : Heard) (s : State) : State :=
  let at_ := s.instantAt b.us
  received p (s.reception p b.char at_) at_ (lineIdle p at_ s)

/-- ADDRESS_CHARACTER (R159): in ADDRESSED mode, a character with a mark bit of 1. -/
def execAddressCharacter (p : PortId) (b : Heard) (s : State) : Result :=
  .next (if s.hears p && s.portMode p == .addressed && ninthBit b.char then hearCharacter p b s else s)

/-- FRAME_START (R160): a character in DIRECT mode. Whether it starts a frame is the port's own test of the idle line. -/
def execFrameStart (p : PortId) (b : Heard) (s : State) : Result :=
  .next (if s.hears p && s.portMode p == .direct then hearCharacter p b s else s)

/-- DATA_CHARACTER (R159 to R161): a character without a mark bit of 1 in ADDRESSED mode. -/
def execDataCharacter (p : PortId) (b : Heard) (s : State) : Result :=
  .next (if s.hears p && !(s.portMode p == .addressed && ninthBit b.char) then hearCharacter p b s else s)

/-- RECEIVE_ERROR (R163): a character that has this receive error at the port as it stands; one that has two counts both, whichever
of them the command names (log entry 44). -/
def execReceiveError (p : PortId) (e : ReceiveErrorKind) (b : Heard) (s : State) : Result :=
  .next (if s.hears p && (s.reception p b.char (s.instantAt b.us)).hasError e then hearCharacter p b s else s)

/-! ## The requests of the table: each is a whole frame at a port -/

/-- POLL (R167). -/
def execPoll (p : PortId) (body : List Byte) (s : State) : Result := .next (frameArrives p 1 body s)

/-- READ (R166). -/
def execRead (p : PortId) (body : List Byte) (s : State) : Result := .next (frameArrives p 5 body s)

/-- ZONE_REPORT (R11). -/
def execZoneReport (p : PortId) (body : List Byte) (s : State) : Result := .next (frameArrives p 2 body s)

/-- CAR_REPORT (R49). -/
def execCarReport (p : PortId) (body : List Byte) (s : State) : Result := .next (frameArrives p 4 body s)

/-- UNKNOWN_REQUEST_KIND (R164). A kind that is known is no command of this row and has no effect. -/
def execUnknownRequestKind (p : PortId) (kind : Byte) (body : List Byte) (s : State) : Result :=
  .next (if knownKind kind then s else frameArrives p kind body s)

/-- ACKNOWLEDGE (R35). -/
def execAcknowledge (p : PortId) (args : List Byte) (s : State) : Result := .next (frameArrives p 3 (1 :: args) s)

/-- SILENCE (R36). -/
def execSilence (p : PortId) (args : List Byte) (s : State) : Result := .next (frameArrives p 3 (2 :: args) s)

/-- RESOUND (R37). -/
def execResound (p : PortId) (args : List Byte) (s : State) : Result := .next (frameArrives p 3 (3 :: args) s)

/-- REGIME_RESET (R43, R44). -/
def execRegimeReset (p : PortId) (args : List Byte) (s : State) : Result := .next (frameArrives p 3 (4 :: args) s)

/-- EVACUATE_ALL (R38). -/
def execEvacuateAll (p : PortId) (args : List Byte) (s : State) : Result := .next (frameArrives p 3 (5 :: args) s)

/-- CANCEL_EVACUATE_ALL (R38). -/
def execCancelEvacuateAll (p : PortId) (args : List Byte) (s : State) : Result := .next (frameArrives p 3 (6 :: args) s)

/-- HOLD_EXPANSION (R39). -/
def execHoldExpansion (p : PortId) (args : List Byte) (s : State) : Result := .next (frameArrives p 3 (7 :: args) s)

/-- RELEASE_EXPANSION (R39). -/
def execReleaseExpansion (p : PortId) (args : List Byte) (s : State) : Result := .next (frameArrives p 3 (8 :: args) s)

/-- ISOLATE_ZONE (R18). -/
def execIsolateZone (p : PortId) (args : List Byte) (s : State) : Result := .next (frameArrives p 3 (9 :: args) s)

/-- RESTORE_ZONE (R19). -/
def execRestoreZone (p : PortId) (args : List Byte) (s : State) : Result := .next (frameArrives p 3 (10 :: args) s)

/-- TAKE_MANUAL_CONTROL (R40). -/
def execTakeManualControl (p : PortId) (args : List Byte) (s : State) : Result := .next (frameArrives p 3 (11 :: args) s)

/-- SET_FLOOR_PHASE (R41). -/
def execSetFloorPhase (p : PortId) (args : List Byte) (s : State) : Result := .next (frameArrives p 3 (12 :: args) s)

/-- RETURN_TO_AUTOMATIC (R42). -/
def execReturnToAutomatic (p : PortId) (args : List Byte) (s : State) : Result := .next (frameArrives p 3 (13 :: args) s)

/-- RECALL_BANK (R55). -/
def execRecallBank (p : PortId) (args : List Byte) (s : State) : Result := .next (frameArrives p 3 (14 :: args) s)

/-- CANCEL_RECALL (R56). -/
def execCancelRecall (p : PortId) (args : List Byte) (s : State) : Result := .next (frameArrives p 3 (15 :: args) s)

/-- AUTHORISE_PHASE_II (R64). -/
def execAuthorisePhaseII (p : PortId) (args : List Byte) (s : State) : Result := .next (frameArrives p 3 (16 :: args) s)

/-- WITHDRAW_PHASE_II (R65). -/
def execWithdrawPhaseII (p : PortId) (args : List Byte) (s : State) : Result := .next (frameArrives p 3 (17 :: args) s)

/-- RELEASE_ALL_DOORS (R76). -/
def execReleaseAllDoors (p : PortId) (args : List Byte) (s : State) : Result := .next (frameArrives p 3 (18 :: args) s)

/-- MONITOR_SELECT (R135). -/
def execMonitorSelect (p : PortId) (args : List Byte) (s : State) : Result := .next (frameArrives p 3 (19 :: args) s)

/-- UNKNOWN_COMMAND_CODE (R165). A code that is known is no command of this row and has no effect. -/
def execUnknownCommandCode (p : PortId) (code : Byte) (args : List Byte) (s : State) : Result :=
  .next (if knownCommand code then s else frameArrives p 3 (code :: args) s)

/-- ANNOUNCE_TENANT (R139). -/
def execAnnounceTenant (p : PortId) (args : List Byte) (s : State) : Result := .next (frameArrives p 6 (1 :: args) s)

/-- ANNOUNCE_CANCEL (R143). -/
def execAnnounceCancel (p : PortId) (args : List Byte) (s : State) : Result := .next (frameArrives p 6 (2 :: args) s)

/-- LIVE_START (R132). -/
def execLiveStart (p : PortId) (args : List Byte) (s : State) : Result := .next (frameArrives p 6 (3 :: args) s)

/-- LIVE_STOP (R133). -/
def execLiveStop (p : PortId) (args : List Byte) (s : State) : Result := .next (frameArrives p 6 (4 :: args) s)

/-- UNKNOWN_ANNOUNCE_SUBKIND (R167). A sub-kind that is known is no command of this row and has no effect. -/
def execUnknownAnnounceSubkind (p : PortId) (sub : Byte) (args : List Byte) (s : State) : Result :=
  .next (if knownSub sub then s else frameArrives p 6 (sub :: args) s)

/-- CONFIGURE_WRITE (R173). -/
def execConfigureWrite (p : PortId) (args : List Byte) (s : State) : Result := .next (frameArrives p 7 (1 :: args) s)

/-- CONFIGURE_READ_BACK (R173). -/
def execConfigureReadBack (p : PortId) (args : List Byte) (s : State) : Result := .next (frameArrives p 7 (2 :: args) s)

/-- CONFIGURE_COMMIT (R174). -/
def execConfigureCommit (p : PortId) (args : List Byte) (s : State) : Result := .next (frameArrives p 7 (3 :: args) s)

/-- CONFIGURE_DISCARD (R173). -/
def execConfigureDiscard (p : PortId) (args : List Byte) (s : State) : Result := .next (frameArrives p 7 (4 :: args) s)

/-- UNKNOWN_CONFIGURE_SUBKIND (R173). A sub-kind that is known is no command of this row and has no effect. -/
def execUnknownConfigureSubkind (p : PortId) (sub : Byte) (args : List Byte) (s : State) : Result :=
  .next (if knownSub sub then s else frameArrives p 7 (sub :: args) s)

end Sys2Proof.Machine
end

