-- ==== Sys2Proof/Machine/Start.lean ====
section
/-! DEFINITION. Cold start, CONFIG FAULT, warm restart and the end of a commit's EEPROM write (R170, R171, R174, R175, and the
values after a start of each chapter). -/

namespace Sys2Proof.Machine

/-- The length of the start grace, in ms (R153). -/
def graceTime : Nat := 10000

/-! ## Cold-start values (R8, R20, R47, R69, R84, R99, R118, R137, R146, R156, R168) -/

/-- A car entry after a cold start (R69). -/
def coldCar (c : Configuration) (k : CarId) : CarRec := ⟨c.banks[slotBank k].lowest, .stopped, .closed, .normal, true⟩

/-- A door point after a cold start (R84). -/
def coldDoor (c : Configuration) (d : DoorId) : DoorState :=
  if c.doors[d].configured then
    match c.doors[d].kind with
    | .strike => .secured
    | .magnet => .holding
  else .absent

/-- A supply group after a cold start (R99); the levels of its input lines are not its state. -/
def coldGroup (r : GroupRec) : GroupRec := ⟨[], 0, 0, 0, false, none, false, .owned, r.request, r.drive⟩

/-- The part at instant 0 after a cold start under a configuration (R170). -/
def coldValues (c : Configuration) (s : State) : State :=
  { State.reset with
    pending := s.pending
    cfg := c
    lfc := { State.reset.lfc with cars := tab (coldCar c) }
    dsq := ⟨tab (coldDoor c), tab fun g => coldGroup s.dsq.groups[g]⟩
    cfs := s.cfs
    startOutputs := s.startOutputs }

/-! ## The takeover lines after a start (R93, R96, R99, R100) -/

/-- A group acts on the level that DSQ finds on its request line. -/
def readLine (s : State) (g : GroupId) : State :=
  let r := s.dsq.groups[g]
  if r.request then takeRequest g s else if r.takeover == .taken then handBack g s else s

/-- DSQ reads the request lines of the four groups: one event of DSQ. DEDUCED (log entry 35). -/
def readLines (s : State) : State := dsqEvent (fun s => (List.finRange 4).foldl readLine s) s

/-! ## Cold start (R169 to R171) -/

/-- The EEPROM after a read of it at a cold start, and the image that the read gives; none when nothing was read or fewer than
4096 bytes (R169). -/
def readEeprom (e : EepromRead) (held : Option Image) : Option Image × Option Image :=
  match e with
  | .held => (held, held)
  | .unreadable => (held, none)
  | .placed image =>
    if image.length == imageSize then (some (Image.cellsOf 0 image), some (Image.cellsOf 0 image)) else (none, none)

/-- The store after a cold start. -/
def coldStore (eeprom inUse : Option Image) (s : State) : Cfs := ⟨eeprom, inUse, none, false, none, s.cfs.key⟩

/-- The part enters CONFIG FAULT (R171): no image in use, and no tables. -/
def enterConfigFault (eeprom : Option Image) (s : State) : State :=
  (coldValues Configuration.blank s).withCfs (coldStore eeprom none s)

/-- The image becomes the image in use, and every block takes its cold-start values (R170). -/
def startUnder (eeprom : Option Image) (m : Image) (s : State) : State :=
  let t := (coldValues (configOf m) s).withCfs (coldStore eeprom (some m) s)
  readLines { t with configFault := false, links := { t.links with grace := some graceTime } }

/-- The outputs during a start (R170, R175). DEDUCED (log entry 50): the start is one step, and they stand in the state. -/
def showing (out : Outputs) (s : State) : State := { s with startOutputs := out }

/-- A cold start from what the EEPROM holds and what was read from it (R170), with the outputs given during the load. -/
def coldStart (out : Outputs) (eeprom image : Option Image) (start : State) : State :=
  let s := showing out start
  match image with
  | some m => if m.sound then startUnder eeprom m s else enterConfigFault eeprom s
  | none => enterConfigFault eeprom s

/-- What the EEPROM holds at a power-up: a write that the loss of power cut short has failed. DESIGN CHOICE (log entry 32). -/
def State.heldImage (s : State) : Option Image :=
  if s.committing then none else s.cfs.eeprom

/-- A cold start with a read of the EEPROM. -/
def coldStartFrom (out : Outputs) (e : EepromRead) (s : State) : State :=
  let r := readEeprom e s.heldImage
  coldStart out r.1 r.2 s

/-- COLD_START (R170): at power-up in every state, every output de-energised during the load; at the restart input in CONFIG
FAULT, every output holding its value. -/
def execColdStart (cause : StartCause) (e : EepromRead) (s : State) : Result :=
  .next (match cause with
    | .powerUp => coldStartFrom Outputs.deEnergised e s
    | .restartInput => if s.configFault then coldStartFrom s.outputs e s else s)

/-! ## The end of the EEPROM write (R174) -/

/-- The longest time of an EEPROM write, in ms. -/
def writeLimit : Nat := 2000

/-- EEPROM_WRITE_END (R174): a cold start under the written image, or into CONFIG FAULT after a failed write; every output holds
its value during the load (R170). A write that has not ended within 2 s has failed. DESIGN CHOICE (log entry 11). -/
def execEepromWriteEnd (written : Bool) (s : State) : Result :=
  .next (match s.cfs.write with
    | none => s
    | some w =>
      match w.stage with
      | .awaiting _ => s
      | .writing since =>
        if written && s.now ≤ since + writeLimit then coldStart s.outputs (some w.image) (some w.image) s
        else coldStart s.outputs none none s)

/-! ## Warm restart (R175) -/

/-- Deliveries on their way that outlast a warm restart: those to blocks that take fresh values are dropped, but for the
removals of the Trouble List. DEDUCED (log entry 15). -/
def outlastsRestart (e : Instr) : Bool :=
  match route e with
  | none => false
  | some (.trl, .chr) => true
  | some (.port _, .lfc) => false
  | some (_, .cue) => false
  | some (_, .chr) => false
  | some (_, .tnq) => false
  | some (_, _) => true

/-- A loop after a warm restart (R8). -/
def warmLoop (r : LoopRec) : LoopRec := { r with seeded := false, pendingCount := 0 }

/-- A zone after a warm restart (R20). -/
def warmZone (tVerify : Nat) (r : ZoneRec) : ZoneRec :=
  { r with timer := if r.state == .prealarm then some (tVerify * 1000) else none }

/-- The Regime Engine after a warm restart, but for its expansion timer (R28, R47). -/
def warmRge (s : State) : Rge :=
  { s.rge with
    zones := tab fun z => warmZone s.cfg.tVerify s.rge.zones[z]
    elapsedBase := s.elapsed
    elapsedFrom := 0
    changeCounter := s.rge.changeCounter + 1 }

/-- A Bank Order record after a warm restart (R69). -/
def warmBank (tShutdown : Nat) (r : BankRec) : BankRec :=
  { r with
    timer := r.timer.map fun _ => tShutdown * 1000
    link := .absent
    lampOn := r.flashing
    lampNext := if r.flashing then some lampHalf else none }

/-- The Lift Coordinator after a warm restart (R69). -/
def warmLfc (s : State) : Lfc :=
  { cars := tab fun c => { s.lfc.cars[c] with stale := true }
    banks := tab fun b => warmBank s.cfg.tShutdown s.lfc.banks[b] }

/-- A door point after a warm restart (R84). -/
def warmDoor (tDoorVerify : Nat) (r : DoorState) : DoorState :=
  match r with
  | .ramp _ => .ramp rampTime
  | .verify _ => .verify tDoorVerify
  | .absent => .absent
  | .secured => .secured
  | .queued => .queued
  | .released => .released
  | .failed => .failed
  | .holding => .holding
  | .dropped => .dropped

/-- A supply group after a warm restart (R100). -/
def warmGroup (gMin : Nat) (r : GroupRec) : GroupRec :=
  { r with carry := 0, nextRelease := gMin, pacing := some gMin, zeroGap := false }

/-- The Door Sequencer after a warm restart (R84, R100). -/
def warmDsq (s : State) : Dsq :=
  { doors := tab fun d => warmDoor s.cfg.tDoorVerify s.dsq.doors[d]
    groups := tab fun g => warmGroup s.cfg.groups[g].gMin s.dsq.groups[g] }

/-- A channel after a warm restart (R137). -/
def warmChannel (r : ChannelRec) : ChannelRec :=
  { r with
    state := .standby, grant := none, begun := false, warmUp := none, idle := none, zoneSet := [], joins := []
    slots := [], headInPlay := false, boundary := none, livePlayed := [], audio := .silence }

/-- The Channel Router after a warm restart, but for the monitored channel (R137). -/
def warmChr (s : State) : Chr :=
  { State.reset.chr with
    channels := tab fun c => warmChannel s.chr.channels[c]
    idlingSuspended := s.inAlarm
    selection := s.chr.selection }

/-- The Tenant Queue after a warm restart (R146). -/
def warmTnq (q : Tnq) : Tnq :=
  { q with queue := [], playing := [], cut := addCount q.cut (q.queue.length + q.playing.length) }

/-- A port after a warm restart (R156, R168). -/
def warmPort : PortRec := ⟨.listening, [], .absent, 0, none, ⟨0, 0, 0, 0, 0⟩, none, 0, 0, 0⟩

/-- The Configuration Store after a warm restart (R172, R175). The restart loses an answer that is still to be sent (R168); the
COMMIT that it answers stands, and its EEPROM write begins at the restart. DESIGN CHOICE (log entry 41). -/
def warmCfs (c : Cfs) : Cfs := { c with mode := false, working := none, write := c.write.map (writeBegun 0) }

/-- The blocks at instant 0 of the new time base, before the regime's timer, the fire slots and the monitor are worked out. -/
def warmValues (s : State) : State :=
  { s with
    deliveries := s.deliveries.filter outlastsRestart
    now := 0
    lsc := ⟨tab fun l => warmLoop s.lsc.loops[l], 0, 48⟩
    rge := warmRge s
    lfc := warmLfc s
    dsq := warmDsq s
    cue := State.reset.cue
    chr := warmChr s
    tnq := warmTnq s.tnq
    cfs := warmCfs s.cfs
    links := ⟨tab fun _ => warmPort, some graceTime⟩ }

/-- The fire slots are recomputed from the kept regime, and CUE hands over the programmes they form (R107, R118). -/
def warmProgrammes (s : State) : State :=
  let t := recomputeFire (fun _ => true) s
  t.deliver (cueNews s t)

/-- The state of the part after a warm restart, through which every output held its value (R175). -/
def restarted (s : State) : State :=
  readLines (remonitor (warmProgrammes (startExpansion (warmValues (showing s.outputs s)))))

/-- WARM_RESTART (R175): replaced by a cold start in CONFIG FAULT (R171), without effect while a commit write is in progress
(R174). -/
def execWarmRestart (s : State) : Result :=
  .next (if s.configFault then coldStartFrom s.outputs .held s else if s.committing then s else restarted s)

end Sys2Proof.Machine
end

