-- ==== Sys2Proof/Machine/Dispatch.lean ====
section
/-! DEFINITION. Which meaning each command has. -/

namespace Sys2Proof.Machine

/-- The effect of a command on everything but the queue of waiting commands. -/
def exec (i : Instr) (s : State) : Host.Outcome State Fault Refusal :=
  match i with
  | .scanStart => Sys2Proof.Machine.execScanStart s
  | .loopConversion l n => Sys2Proof.Machine.execLoopConversion l n s
  | .zoneConditionArrival z c => Sys2Proof.Machine.execZoneConditionArrival z c s
  | .zoneReport p body => Sys2Proof.Machine.execZoneReport p body s
  | .verificationTimerExpiry z => Sys2Proof.Machine.execVerificationTimerExpiry z s
  | .expansionTimerExpiry => Sys2Proof.Machine.execExpansionTimerExpiry s
  | .acknowledge p args => Sys2Proof.Machine.execAcknowledge p args s
  | .silence p args => Sys2Proof.Machine.execSilence p args s
  | .resound p args => Sys2Proof.Machine.execResound p args s
  | .evacuateAll p args => Sys2Proof.Machine.execEvacuateAll p args s
  | .cancelEvacuateAll p args => Sys2Proof.Machine.execCancelEvacuateAll p args s
  | .holdExpansion p args => Sys2Proof.Machine.execHoldExpansion p args s
  | .releaseExpansion p args => Sys2Proof.Machine.execReleaseExpansion p args s
  | .takeManualControl p args => Sys2Proof.Machine.execTakeManualControl p args s
  | .setFloorPhase p args => Sys2Proof.Machine.execSetFloorPhase p args s
  | .returnToAutomatic p args => Sys2Proof.Machine.execReturnToAutomatic p args s
  | .regimeReset p args => Sys2Proof.Machine.execRegimeReset p args s
  | .isolateZone p args => Sys2Proof.Machine.execIsolateZone p args s
  | .restoreZone p args => Sys2Proof.Machine.execRestoreZone p args s
  | .unknownCommandCode p code args => Sys2Proof.Machine.execUnknownCommandCode p code args s
  | .rgePanelLoss p => Sys2Proof.Machine.execRgePanelLoss p s
  | .rgeCommandStationLoss p => Sys2Proof.Machine.execRgeCommandStationLoss p s
  | .changeCounterIncrease source => Sys2Proof.Machine.execChangeCounterIncrease source s
  | .reentryImpairedWrite f value => Sys2Proof.Machine.execReentryImpairedWrite f value s
  | .verifyBypassedRemoval z => Sys2Proof.Machine.execVerifyBypassedRemoval z s
  | .carReport p body => Sys2Proof.Machine.execCarReport p body s
  | .lfcZoneAlarm z => Sys2Proof.Machine.execLfcZoneAlarm z s
  | .lfcAlarmEntry => Sys2Proof.Machine.execLfcAlarmEntry s
  | .lfcRegimeReset => Sys2Proof.Machine.execLfcRegimeReset s
  | .lfcPresenceChange p presence => Sys2Proof.Machine.execLfcPresenceChange p presence s
  | .shutdownTimerExpiry b => Sys2Proof.Machine.execShutdownTimerExpiry b s
  | .lampHalfCycle b => Sys2Proof.Machine.execLampHalfCycle b s
  | .recallBank p args => Sys2Proof.Machine.execRecallBank p args s
  | .cancelRecall p args => Sys2Proof.Machine.execCancelRecall p args s
  | .authorisePhaseII p args => Sys2Proof.Machine.execAuthorisePhaseII p args s
  | .withdrawPhaseII p args => Sys2Proof.Machine.execWithdrawPhaseII p args s
  | .dsqPhaseChange floors => Sys2Proof.Machine.execDsqPhaseChange floors s
  | .dsqListAppend f => Sys2Proof.Machine.execDsqListAppend f s
  | .dsqRegimeReset => Sys2Proof.Machine.execDsqRegimeReset s
  | .releaseAllDoors p args => Sys2Proof.Machine.execReleaseAllDoors p args s
  | .pacingTimerExpiry g => Sys2Proof.Machine.execPacingTimerExpiry g s
  | .zeroGapAttempt g => Sys2Proof.Machine.execZeroGapAttempt g s
  | .rampEnd d => Sys2Proof.Machine.execRampEnd d s
  | .doorVerifyTimerExpiry d => Sys2Proof.Machine.execDoorVerifyTimerExpiry d s
  | .dsqFeedbackBand l b => Sys2Proof.Machine.execDsqFeedbackBand l b s
  | .takeoverRequestAsserted g => Sys2Proof.Machine.execTakeoverRequestAsserted g s
  | .takeoverRequestReleased g => Sys2Proof.Machine.execTakeoverRequestReleased g s
  | .takeoverDriveChange g level => Sys2Proof.Machine.execTakeoverDriveChange g level s
  | .cuePhaseChange floors => Sys2Proof.Machine.execCuePhaseChange floors s
  | .cueAlarmEntry => Sys2Proof.Machine.execCueAlarmEntry s
  | .cueSilenceChange => Sys2Proof.Machine.execCueSilenceChange s
  | .cueRegimeReset => Sys2Proof.Machine.execCueRegimeReset s
  | .liveSlotWrite z w => Sys2Proof.Machine.execLiveSlotWrite z w s
  | .tenantSlotWrite z w => Sys2Proof.Machine.execTenantSlotWrite z w s
  | .programmeHanded d news instant => Sys2Proof.Machine.execProgrammeHanded d news instant s
  | .tenantProgrammeHanded ticket cue instant => Sys2Proof.Machine.execTenantProgrammeHanded ticket cue instant s
  | .chrAlarmEntry => Sys2Proof.Machine.execChrAlarmEntry s
  | .chrRegimeReset => Sys2Proof.Machine.execChrRegimeReset s
  | .chrListAppend f => Sys2Proof.Machine.execChrListAppend f s
  | .chrPortLoss p => Sys2Proof.Machine.execChrPortLoss p s
  | .warmUpExpiry c => Sys2Proof.Machine.execWarmUpExpiry c s
  | .idleTimerExpiry c => Sys2Proof.Machine.execIdleTimerExpiry c s
  | .blockBoundary c => Sys2Proof.Machine.execBlockBoundary c s
  | .memoryReadComplete => Sys2Proof.Machine.execMemoryReadComplete s
  | .memoryReadFailed => Sys2Proof.Machine.execMemoryReadFailed s
  | .liveBlockComplete source => Sys2Proof.Machine.execLiveBlockComplete source s
  | .liveStart p args => Sys2Proof.Machine.execLiveStart p args s
  | .liveStop p args => Sys2Proof.Machine.execLiveStop p args s
  | .monitorSelect p args => Sys2Proof.Machine.execMonitorSelect p args s
  | .underrunRemoval c => Sys2Proof.Machine.execUnderrunRemoval c s
  | .announceTenant p args => Sys2Proof.Machine.execAnnounceTenant p args s
  | .announceCancel p args => Sys2Proof.Machine.execAnnounceCancel p args s
  | .unknownAnnounceSubkind p sub args => Sys2Proof.Machine.execUnknownAnnounceSubkind p sub args s
  | .agingTimerExpiry ticket => Sys2Proof.Machine.execAgingTimerExpiry ticket s
  | .tnqChannelFree => Sys2Proof.Machine.execTnqChannelFree s
  | .tenantRefusal ticket => Sys2Proof.Machine.execTenantRefusal ticket s
  | .tenantCompletion ticket => Sys2Proof.Machine.execTenantCompletion ticket s
  | .tenantPreEmption ticket => Sys2Proof.Machine.execTenantPreEmption ticket s
  | .tenantProgrammeEmptied ticket => Sys2Proof.Machine.execTenantProgrammeEmptied ticket s
  | .tnqAlarmFlush => Sys2Proof.Machine.execTnqAlarmFlush s
  | .troubleRaise k subject => Sys2Proof.Machine.execTroubleRaise k subject s
  | .troubleClear k subject => Sys2Proof.Machine.execTroubleClear k subject s
  | .trlAcknowledge => Sys2Proof.Machine.execTrlAcknowledge s
  | .supervisionTimerExpiry p => Sys2Proof.Machine.execSupervisionTimerExpiry p s
  | .startGraceEnd => Sys2Proof.Machine.execStartGraceEnd s
  | .poll p body => Sys2Proof.Machine.execPoll p body s
  | .read p body => Sys2Proof.Machine.execRead p body s
  | .unknownRequestKind p kind body => Sys2Proof.Machine.execUnknownRequestKind p kind body s
  | .addressCharacter p b => Sys2Proof.Machine.execAddressCharacter p b s
  | .frameStart p b => Sys2Proof.Machine.execFrameStart p b s
  | .receiveError p e b => Sys2Proof.Machine.execReceiveError p e b s
  | .answerBegin p => Sys2Proof.Machine.execAnswerBegin p s
  | .answerSent p => Sys2Proof.Machine.execAnswerSent p s
  | .configureWrite p args => Sys2Proof.Machine.execConfigureWrite p args s
  | .configureReadBack p args => Sys2Proof.Machine.execConfigureReadBack p args s
  | .configureCommit p args => Sys2Proof.Machine.execConfigureCommit p args s
  | .configureDiscard p args => Sys2Proof.Machine.execConfigureDiscard p args s
  | .unknownConfigureSubkind p sub args => Sys2Proof.Machine.execUnknownConfigureSubkind p sub args s
  | .eepromWriteEnd written => Sys2Proof.Machine.execEepromWriteEnd written s
  | .configurationKeyOn => Sys2Proof.Machine.execConfigurationKeyOn s
  | .configurationKeyOff => Sys2Proof.Machine.execConfigurationKeyOff s
  | .cfsRegimeDelivery news => Sys2Proof.Machine.execCfsRegimeDelivery news s
  | .coldStart cause eeprom => Sys2Proof.Machine.execColdStart cause eeprom s
  | .warmRestart => Sys2Proof.Machine.execWarmRestart s
  | .dataCharacter p b => Sys2Proof.Machine.execDataCharacter p b s

end Sys2Proof.Machine
end

