-- ==== Sys2Proof/Machine/Idle.lean ====
section
/-! DEFINITION. What the part does by itself when no command waits: the events of its own clock and its own deliveries.
DESIGN CHOICE (log entry 1). -/

namespace Sys2Proof.Machine

/-- The commands of a list whose condition holds. -/
def dueOf {α : Type} (xs : List α) (isDue : α → Bool) (c : α → Instr) : List Instr := (xs.filter isDue).map c

/-- The latest instant for the answer of a PREPARING port lies in this ms (R162). -/
def State.answerDue (s : State) (p : PortId) : Bool :=
  s.answerReady p (s.answerLatest p) && s.answerLatest p / 1000 == s.now

/-- The read in progress has failed for its time (R131). -/
def State.readOverdue (s : State) : Bool := s.chr.reading.any fun r => r.started + readLimit ≤ s.now

/-- A live source completes a block (R134). -/
def State.liveBlockDue (s : State) (src : LiveSourceId) : Bool := (s.source src).live && (s.source src).nextBlock ≤ s.now

/-- The write of a commit has failed for its time. DESIGN CHOICE (log entry 11). -/
def State.writeOverdue (s : State) : Bool :=
  s.cfs.write.any fun w =>
    match w.stage with
    | .awaiting _ => false
    | .writing since => since + writeLimit ≤ s.now

/-- The events of the part's own clock that have fallen due, in a fixed order. -/
def dueEvents (s : State) : List Instr :=
  (if s.scanDue then [.scanStart] else [])
    ++ dueOf (List.finRange 64) (fun z => s.due s.rge.zones[z].timer) .verificationTimerExpiry
    ++ (if s.due s.rge.expansionTimer then [.expansionTimerExpiry] else [])
    ++ dueOf (List.finRange 2) (fun b => s.due s.lfc.banks[b].timer) .shutdownTimerExpiry
    ++ dueOf (List.finRange 2) (fun b => s.due s.lfc.banks[b].lampNext) .lampHalfCycle
    ++ dueOf (List.finRange 128) (fun d => s.due s.dsq.doors[d].rampTimer) .rampEnd
    ++ dueOf (List.finRange 128) (fun d => s.due s.dsq.doors[d].verifyTimer) .doorVerifyTimerExpiry
    ++ dueOf (List.finRange 4) (fun g => s.dsq.groups[g].zeroGap) .zeroGapAttempt
    ++ dueOf (List.finRange 4) (fun g => s.due s.dsq.groups[g].pacing) .pacingTimerExpiry
    ++ dueOf (List.finRange 4) (fun c => s.due s.chr.channels[c].warmUp) .warmUpExpiry
    ++ dueOf (List.finRange 4) (fun c => s.due s.chr.channels[c].idle) .idleTimerExpiry
    ++ dueOf [.liveC, .liveP] s.liveBlockDue .liveBlockComplete
    ++ dueOf (List.finRange 4) (fun c => s.due s.chr.channels[c].boundary) .blockBoundary
    ++ (if s.readOverdue then [.memoryReadFailed] else [])
    ++ dueOf (s.tnq.queue.map (·.ticket)) (fun t => s.due (s.agingTimer t)) .agingTimerExpiry
    ++ dueOf (List.finRange 6) (fun p => s.due s.links.ports[p].supervision) .supervisionTimerExpiry
    ++ (if s.due s.links.grace then [.startGraceEnd] else [])
    ++ dueOf (List.finRange 6) s.answerDue (fun p => .answerBegin ⟨p, Fin.ofNat 1000 (s.answerLatest p)⟩)
    ++ dueOf (List.finRange 6) (fun p => s.answerDone p (s.instantAt 0)) (.answerSent ⟨·, 0⟩)
    ++ (if s.writeOverdue then [.eepromWriteEnd false] else [])

/-- One millisecond passes. -/
def tick (s : State) : State := { s with now := s.now + 1 }

/-- What the part does next by itself: it takes its oldest delivery; with none, the first event that has fallen due; with
none, a millisecond passes. -/
def ownStep (s : State) : Result :=
  match s.deliveries with
  | e :: _ => exec e s
  | [] =>
    match dueEvents s with
    | e :: _ => exec e s
    | [] => .next (tick s)

/-- The command that a word spells is put in front of the waiting commands. -/
def placeCommand (i : Option Instr) (s : State) : State :=
  match i with
  | some c => { s with pending := c :: s.pending }
  | none => s

end Sys2Proof.Machine
end

