-- ==== Sys2Proof/Machine/Step.lean ====
section
/-! DEFINITION. One step of the part. -/

namespace Sys2Proof.Machine

/-- One step: the command at the front of the queue, run with the queue's rest; on an empty queue what the part does by
itself (log entry 1). -/
def step (s : State) : Host.Outcome State Fault Refusal :=
  match s.pending with
  | c :: rest => exec c { s with pending := rest }
  | [] => ownStep s

/-- The state with the command that a word spells in front of its queue; no word spells a command (Decode.lean). -/
def State.withFetchWord (s : State) (nbits w : Nat) : State := placeCommand (decodeTableWord nbits w) s

end Sys2Proof.Machine
end

