-- ==== Sys2Proof/Safety.lean ====
section
/-! DEFINITION. What counts as a sound state and a safe run: the invariants of the blocks, and the relations between states in
which the claims about commands are stated. -/

namespace Sys2Proof.Machine

/-! ## Invariants -/

/-- Every image that the Configuration Store holds is in its one form (Machine/Image.lean). -/
def imagesCanonical (s : State) : Prop :=
  (∀ m, s.cfs.eeprom = some m → m.wf = true) ∧ (∀ m, s.cfs.inUse = some m → m.wf = true)
    ∧ (∀ m, s.cfs.working = some m → m.wf = true) ∧ ∀ w, s.cfs.write = some w → w.image.wf = true

/-- The Configuration Store agrees with the mode of the part: no image in use exactly in CONFIG FAULT (R169, R171), a working
image exactly in configuration mode (R169), a commit write that is in progress begun by now (R174), and neither mode nor write in
CONFIG FAULT (R171, R174). -/
def storeAgrees (s : State) : Prop :=
  (s.configFault = true ↔ s.cfs.inUse = none) ∧ (s.cfs.mode = true ↔ s.cfs.working ≠ none)
    ∧ (∀ w since, s.cfs.write = some w → w.stage = .writing since → since ≤ s.now)
    ∧ (s.configFault = true → s.cfs.mode = false ∧ s.cfs.write = none)

/-- The zone counts of every floor agree with the Zone Table (R21). -/
def zonesCounted (s : State) : Prop :=
  ∀ f : FloorId, s.rge.floors[f].alarmed = (s.zonesIn .alarm f.val).length
    ∧ s.rge.floors[f].prealarmed = (s.zonesIn .prealarm f.val).length

/-- Outside ALARM the regime is PREALARM exactly while some configured zone is in PREALARM (R24). -/
def regimeSettled (s : State) : Prop :=
  s.rge.regime = .alarm ∨ s.rge.regime = if s.anyPrealarm then .prealarm else .normal

/-- The verification timer of a zone is present exactly while its state is PREALARM (1.4). -/
def timersMatchZones (s : State) : Prop :=
  ∀ z : ZoneId, s.rge.zones[z].timer ≠ none ↔ s.rge.zones[z].state = .prealarm

/-- Holdings are present only while the regime is ALARM (R29). -/
def holdingsOnlyInAlarm (s : State) : Prop :=
  s.rge.regime ≠ .alarm →
    s.rge.silence = none ∧ s.rge.evacuateAll = none ∧ s.rge.expansionHold = none ∧ s.rge.manual = none

/-- A setter level is at most 3 (R29). -/
def levelFits (h : Option Nat) : Prop := ∀ l, h = some l → l ≤ 3

/-- The setter levels of the four holdings (R29). -/
def levelsFit (s : State) : Prop :=
  levelFits s.rge.silence ∧ levelFits s.rge.evacuateAll ∧ levelFits s.rge.expansionHold ∧ levelFits s.rge.manual

/-- The expansion timer runs only under its running conditions (R33). -/
def expansionAllowed (s : State) : Prop := s.rge.expansionTimer ≠ none → s.mayExpand = true

/-- A zone in PREALARM has condition ALARM (R13). -/
def prealarmConfirmed (s : State) : Prop :=
  ∀ z : ZoneId, s.rge.zones[z].state = .prealarm → s.rge.zones[z].condition = .alarm

/-- Outside ALARM every floor is QUIET, the First-Alarm Order list is empty and the acknowledged flag is no (R23, R25). -/
def quietOutsideAlarm (s : State) : Prop :=
  s.rge.regime ≠ .alarm →
    s.rge.firstAlarms = [] ∧ s.rge.acknowledged = false ∧ ∀ f : FloorId, s.rge.floors[f].phase = .quiet

/-- A floor outside the configured floor range is QUIET (2.1, R22). -/
def quietOutOfRange (s : State) : Prop := ∀ f : FloorId, s.inRange f.val = false → s.rge.floors[f].phase = .quiet

/-- The First-Alarm Order list holds no floor twice, and every floor on it that lies in the configured range is in EVACUATE
(R23). -/
def originsEvacuated (s : State) : Prop :=
  s.rge.firstAlarms.Nodup
    ∧ ∀ f ∈ s.rge.firstAlarms, s.inRange f.val = true → s.rge.floors[f].phase = .evacuate

/-- The Regime Engine is sound. -/
def regimeSound (s : State) : Prop :=
  zonesCounted s ∧ regimeSettled s ∧ timersMatchZones s ∧ prealarmConfirmed s ∧ holdingsOnlyInAlarm s ∧ levelsFit s
    ∧ expansionAllowed s ∧ quietOutsideAlarm s ∧ quietOutOfRange s ∧ originsEvacuated s

/-- The trouble list holds at most 48 entries, no two of one kind and subject (R147). -/
def troublesFit (s : State) : Prop :=
  s.trl.entries.length ≤ 48 ∧ (s.trl.entries.map fun e => (e.kind, e.subject)).Nodup

/-- The tenant queue holds at most 12 entries (8.1). -/
def tenantsFit (s : State) : Prop := s.tnq.queue.length ≤ 12

/-- Every release queue stands in class order (R74), and its entries name QUEUED strikes of its group, each once (4.4). -/
def queuesInOrder (s : State) : Prop :=
  ∀ g : GroupId,
    let q := s.dsq.groups[g].queue
    q.Pairwise (fun a b => a.cls ≤ b.cls) ∧ (q.map (·.door)).Nodup
      ∧ ∀ e ∈ q, s.strikeOf g e.door = true ∧ s.dsq.doors[e.door] = .queued

/-- What the part holds in CONFIG FAULT (R171): the blocks at their cold-start values under a blank configuration, nothing on
its way between them, every port ABSENT. The levels of the input lines and of the key, the receive states and error counters
of the ports and the EEPROM are left open. -/
def faultValues (s : State) : Prop :=
  s.deliveries = [] ∧ s.cfg = Configuration.blank ∧ s.lsc = State.reset.lsc ∧ s.rge = State.reset.rge
    ∧ s.lfc = State.reset.lfc ∧ s.dsq.doors = State.reset.dsq.doors
    ∧ (∀ g : GroupId, s.dsq.groups[g] =
        { State.reset.dsq.groups[g] with request := s.dsq.groups[g].request, drive := s.dsq.groups[g].drive })
    ∧ s.cue = State.reset.cue ∧ s.chr = State.reset.chr ∧ s.tnq = State.reset.tnq ∧ s.trl = State.reset.trl
    ∧ s.links.grace = none
    ∧ ∀ p : PortId, s.links.ports[p].presence = .absent ∧ s.links.ports[p].attach = 0
      ∧ s.links.ports[p].supervision = none

/-! ## Relations between a state and the state after a request -/

/-- No delivery of a port to a block is on its way. -/
def noneOnWay (p : PortId) (home : Agent) (s : State) : Prop := ∀ e ∈ s.deliveries, route e ≠ some (.port p, home)

/-- A request can be taken at a port: the port hears its line, the part is not in CONFIG FAULT, and the block that decides the
request has taken what the port delivered to it before. -/
def canAsk (p : PortId) (home : Agent) (s : State) : Prop :=
  s.hears p = true ∧ s.configFault = false ∧ noneOnWay p home s

/-- A port has taken a request and is PREPARING an answer; the other ports are as they were (R161). -/
def answers (p : PortId) (a : Answer) (s t : State) : Prop :=
  t.links.ports[p].rx = .preparing ∧ t.links.ports[p].answer = some a ∧ t.links.ports[p].takenAt = s.instantAt 0
    ∧ t.links.ports[p].idleFrom = s.instantAt 0
    ∧ t.links.ports[p].buffer = [] ∧ t.links.ports[p].errors = s.links.ports[p].errors
    ∧ t.links.grace = s.links.grace ∧ ∀ q : PortId, q ≠ p → t.links.ports[q] = s.links.ports[q]

/-- The increase of the change counter that an event at a block other than RGE delivers (R46). -/
def increaseOf (home : Agent) (s t : State) : List Instr := if changed s t then [.changeCounterIncrease home] else []

/-- What an event at a block leaves on its way and in the change counter (R45, R46): `way` was on its way before the event's own
deliveries `news`; the event counts once when it changed a readable record. -/
def leaves (home : Agent) (way news : List Instr) (s t : State) : Prop :=
  t.deliveries = way ++ news ++ (if home = .rge then [] else increaseOf home s t)
    ∧ t.rge.changeCounter = s.rge.changeCounter + (if home = .rge ∧ changed s t = true then 1 else 0)

/-- What is on its way when the receiver of `e` has taken it. -/
def without (s : State) (e : Instr) : List Instr := s.deliveries.erase e

/-- What a valid frame at a port delivers about its presence: the third in a row ends the loss of a party (R149, R152), and a
LIFT GROUP port tells LFC of every change (R154). -/
def frameDeliveries (p : PortId) (s : State) : List Instr :=
  let toLfc := fun (q : Presence) => if s.role p = .liftGroup then [Instr.lfcPresenceChange p q] else []
  match s.links.ports[p].presence with
  | .absent | .lost => toLfc .attaching
  | .attaching => if 2 ≤ s.links.ports[p].attach then .troubleClear .partyLost p.val :: toLfc .present else []
  | .present => []

/-- What is on its way when a frame at a port has been taken, before what the request itself delivers. -/
def withFrame (p : PortId) (s : State) : List Instr := s.deliveries ++ frameDeliveries p s

/-- Only a port, the start of an EEPROM write that waited for its answer (R174), a block named by `t` and the deliveries may
differ: the frame of a request that RGE serves. -/
def rgeServed (p : PortId) (s t : State) : Prop :=
  t = { s with rge := t.rge, links := t.links, cfs := (abandon p s).cfs, deliveries := t.deliveries }

/-- The frame of a request that LFC serves. -/
def lfcServed (p : PortId) (s t : State) : Prop :=
  t = { s with lfc := t.lfc, links := t.links, cfs := (abandon p s).cfs, deliveries := t.deliveries }

/-- The frame of a request that DSQ serves. -/
def dsqServed (p : PortId) (s t : State) : Prop :=
  t = { s with dsq := t.dsq, links := t.links, cfs := (abandon p s).cfs, deliveries := t.deliveries }

/-- The frame of a request that CHR serves. -/
def chrServed (p : PortId) (s t : State) : Prop :=
  t = { s with cue := t.cue, chr := t.chr, links := t.links, cfs := (abandon p s).cfs, deliveries := t.deliveries }

/-- The frame of a request that TNQ serves. -/
def tnqServed (p : PortId) (s t : State) : Prop :=
  t = { s with tnq := t.tnq, links := t.links, cfs := (abandon p s).cfs, deliveries := t.deliveries }

/-- The frame of a request that CFS serves. -/
def cfsServed (_p : PortId) (s t : State) : Prop :=
  t = { s with cfs := t.cfs, links := t.links, deliveries := t.deliveries }

/-- The frame of a request that the port serves itself. -/
def portServed (p : PortId) (s t : State) : Prop :=
  t = { s with links := t.links, cfs := (abandon p s).cfs, deliveries := t.deliveries }

/-! ## Relations between the phases before and after an event -/

/-- A floor is in EVACUATE. -/
def evacuating (s : State) (f : FloorId) : Prop := s.rge.floors[f].phase = .evacuate

/-- The floors in EVACUATE after an event are those that were and the floors of the configured range that `target` names
(R22); ALERT then holds for the floors that were in ALERT and, around the evacuate set that results, for the floors of the
range within the alert span of it (R30); a floor that changed its phase has the regime elapsed time as its entry time. -/
def spreads (target : FloorId → Prop) (s t : State) : Prop :=
  ∀ f : FloorId,
    (evacuating t f ↔ evacuating s f ∨ s.inRange f.val = true ∧ target f)
    ∧ (t.rge.floors[f].phase = .alert ↔
        ¬ evacuating t f ∧ (s.rge.floors[f].phase = .alert
          ∨ s.inRange f.val = true ∧ ∃ g : FloorId, s.inRange g.val = true ∧ evacuating t g
              ∧ near s.cfg.alertSpan f g = true))
    ∧ t.rge.floors[f].entryTime =
        if t.rge.floors[f].phase = s.rge.floors[f].phase then s.rge.floors[f].entryTime else t.elapsed

/-- A zone belongs to the zones that enter ALARM with zone `z`: itself and the configured zones of its floor in PREALARM
(R15). -/
def alarmsWith (z y : ZoneId) (s : State) : Prop :=
  y = z ∨ (s.cfg.zones[y].configured = true ∧ s.cfg.zones[y].floor = s.cfg.zones[z].floor
    ∧ s.rge.zones[y].state = .prealarm)

/-! ## Relations of an arrival of a condition -/

/-- The four parts of the test of R14. -/
def toBeVerified (z : ZoneId) (s : State) : Prop :=
  s.cfg.zones[z].kind = .detector ∧ s.cfg.zones[z].verify = true ∧ 0 < s.cfg.tVerify ∧ s.rge.zones[z].unconfirmed < 4

/-- Some other zone of the floor of `z` is in PREALARM (R15). -/
def prealarmBeside (z : ZoneId) (s : State) : Prop :=
  ∃ y : ZoneId, y ≠ z ∧ s.cfg.zones[y].configured = true ∧ s.cfg.zones[y].floor = s.cfg.zones[z].floor
    ∧ s.rge.zones[y].state = .prealarm

/-- What zones of floor `f` that enter ALARM do to the regime: the acknowledged flag becomes no and silence ends (R26); the floor
joins the list with its origin flag (R23); the regime enters ALARM (R25) with the floors around the list and the
always-evacuate floors in EVACUATE and the expansion timer started (R31), or takes a new origin floor (R32); the alert set is
recomputed (R30). -/
def regimeRaised (f : FloorId) (s t : State) : Prop :=
  t.rge.regime = .alarm ∧ t.rge.acknowledged = false ∧ t.rge.silence = none
  ∧ t.rge.evacuateAll = s.rge.evacuateAll ∧ t.rge.expansionHold = s.rge.expansionHold ∧ t.rge.manual = s.rge.manual
  ∧ t.rge.firstAlarms = (if f ∈ s.rge.firstAlarms then s.rge.firstAlarms else s.rge.firstAlarms ++ [f])
  ∧ (∀ g : FloorId, t.rge.floors[g].origin =
      (s.rge.floors[g].origin || decide (g = f ∧ f ∉ s.rge.firstAlarms)))
  ∧ (∀ g : FloorId, t.rge.floors[g].impaired = s.rge.floors[g].impaired)
  ∧ (s.inAlarm = false →
      t.rge.stepCount = 0 ∧ t.elapsed = 0 ∧ t.rge.elapsedBase = 0 ∧ t.rge.elapsedFrom = s.now
      ∧ spreads (fun g => (∃ h ∈ t.rge.firstAlarms, near 1 g h = true) ∨ s.cfg.floors[g].alwaysEvacuate = true) s t
      ∧ t.rge.expansionTimer =
          (if t.allEvacuated ∨ s.rge.expansionHold ≠ none ∨ s.rge.manual ≠ none then none
           else some (s.now + s.cfg.tPhase * 1000)))
  ∧ (s.inAlarm = true →
      t.rge.stepCount = s.rge.stepCount ∧ t.elapsed = s.elapsed
      ∧ t.rge.elapsedBase = s.rge.elapsedBase ∧ t.rge.elapsedFrom = s.rge.elapsedFrom
      ∧ (f ∉ s.rge.firstAlarms → spreads (fun g => near 1 g f = true) s t
          ∧ t.rge.expansionTimer = (if t.allEvacuated then none else s.rge.expansionTimer))
      ∧ (f ∈ s.rge.firstAlarms → t.rge.expansionTimer = s.rge.expansionTimer
          ∧ ∀ g : FloorId, t.rge.floors[g].phase = s.rge.floors[g].phase
            ∧ t.rge.floors[g].entryTime = s.rge.floors[g].entryTime))

/-- Zone `z` enters ALARM within an event of RGE and takes with it the zones of its floor in PREALARM, each told to LFC (R15, R26,
R45); the floor counts wait for the end of the event (R21). -/
def zoneAlarmed (z : ZoneId) (before : List Instr) (s t : State) : Prop :=
  (∀ y : ZoneId, alarmsWith z y s → t.rge.zones[y] = { s.rge.zones[y] with state := .alarm, timer := none })
  ∧ (∀ y : ZoneId, ¬ alarmsWith z y s → t.rge.zones[y] = s.rge.zones[y])
  ∧ (∀ f : FloorId, f.val = s.cfg.zones[z].floor → regimeRaised f s t)
  ∧ (∀ g : FloorId, t.rge.floors[g].alarmed = s.rge.floors[g].alarmed
      ∧ t.rge.floors[g].prealarmed = s.rge.floors[g].prealarmed)
  ∧ t.rge.changeCounter = s.rge.changeCounter
  ∧ ∃ zs : List ZoneId, (∀ y, y ∈ zs ↔ alarmsWith z y s) ∧ zs.Pairwise (· < ·)
      ∧ t.deliveries = s.deliveries ++ before ++ zs.map .lfcZoneAlarm

/-- A condition acts on a zone by its state (the table of R13), within an event of RGE; its record of the condition is made. -/
def conditionApplied (z : ZoneId) (c : Condition) (s t : State) : Prop :=
  let r := s.rge.zones[z]
  let becomes := fun (q : ZoneRec) (news : List Instr) =>
    t = { s with rge := { s.rge with zones := s.rge.zones.set z.val q z.isLt }, deliveries := s.deliveries ++ news }
  t = { s with rge := t.rge, deliveries := t.deliveries }
  ∧ (r.state = .alarm ∨ r.state = .isolated → t = s)
  ∧ (r.state = .normal ∨ r.state = .fault → c = .alarm →
      (toBeVerified z s → ¬ prealarmBeside z s →
        becomes { r with state := .prealarm, timer := some (s.now + s.cfg.tVerify * 1000) } [.cfsRegimeDelivery .prealarm])
      ∧ (toBeVerified z s → prealarmBeside z s → zoneAlarmed z [.cfsRegimeDelivery .prealarm] s t)
      ∧ (¬ toBeVerified z s → zoneAlarmed z
          (if r.unconfirmed = 4 then [.troubleRaise .verifyBypassed z.val, .troubleClear .verifyBypassed z.val] else []) s t))
  ∧ (r.state = .normal ∨ r.state = .fault → c = .clear → becomes { r with state := .normal } [])
  ∧ (r.state = .normal ∨ r.state = .fault → c = .fault → becomes { r with state := .fault } [])
  ∧ (r.state = .prealarm → c = .fault → becomes { r with state := .fault, timer := none } [])
  ∧ (r.state = .prealarm → c = .clear →
      becomes { r with state := .normal, timer := none, unconfirmed := min 4 (r.unconfirmed + 1) }
        (if r.unconfirmed = 3 then [.troubleRaise .verifyBypassed z.val, .troubleClear .verifyBypassed z.val] else []))

/-- One arrival of a condition at a configured zone within an event of RGE: one that equals the recorded condition changes
nothing; another is recorded and acts, and ZONE FAULT is raised or cleared (R13, R17), behind what the condition's own action
delivers (log entry 37). -/
def conditionArrived (z : ZoneId) (c : Condition) (s t : State) : Prop :=
  let r := s.rge.zones[z]
  (r.condition = c → t = s)
  ∧ (r.condition ≠ c → ∃ u,
      conditionApplied z c
        { s with rge := { s.rge with zones := s.rge.zones.set z.val { r with condition := c } z.isLt } } u
      ∧ t = { u with deliveries := u.deliveries ++
          (if r.state = .isolated then []
           else if c = .fault then [.troubleRaise .zoneFault z.val]
           else if r.condition = .fault then [.troubleClear .zoneFault z.val] else []) })

/-- The entries of a ZONE REPORT at a port, taken one after the other within one event (R11): each accepted entry is an arrival
at its zone, an ignored one leaves everything. -/
def reportApplied (p : PortId) (es : List (Byte × Byte)) (s t : State) : Prop :=
  match es with
  | [] => t = s
  | e :: rest => ∃ u,
      (∀ z c, s.zoneFrom (.link p.val e.1.toNat) = some z →
        (e.2 = 0 ∧ c = .clear ∨ e.2 = 1 ∧ c = .alarm ∨ e.2 = 2 ∧ c = .fault) → conditionArrived z c s u)
      ∧ (s.zoneFrom (.link p.val e.1.toNat) = none ∨ 2 < e.2.toNat → u = s)
      ∧ reportApplied p rest u t

/-- What an event of RGE that took `s` to `t` delivers at its end (R45): the entry to ALARM, the phase changes of all floors that
changed, the floors appended to the list, and a change of silence, in this order (log entry 19). -/
def regimeDeliveries (s t : State) : List Instr :=
  let moved := (List.finRange 32).filter fun f => decide (s.rge.floors[f].phase ≠ t.rge.floors[f].phase)
  let fs := moved.map fun f => (f, t.rge.floors[f].phase)
  (if s.inAlarm = false ∧ t.inAlarm = true then
      [.lfcAlarmEntry, .tnqAlarmFlush, .cueAlarmEntry, .chrAlarmEntry, .cfsRegimeDelivery .alarm]
    else [])
    ++ (if moved = [] then [] else [.dsqPhaseChange fs, .cuePhaseChange fs])
    ++ ((t.rge.firstAlarms.drop s.rge.firstAlarms.length).flatMap fun f => [.dsqListAppend f, .chrListAppend f])
    ++ (if s.rge.silence = none ↔ t.rge.silence = none then [] else [.cueSilenceChange])

/-- The end of an event of RGE that took `s` to `u` by its steps and leaves `t`: the floor counts agree with the zones (R21), the
regime outside ALARM is settled on them (R24), and what R45 names is delivered. -/
def regimeEnds (s u t : State) : Prop :=
  zonesCounted t ∧ regimeSettled t ∧ t.inAlarm = u.inAlarm
  ∧ (∀ f : FloorId, t.rge.floors[f] = { u.rge.floors[f] with
        alarmed := t.rge.floors[f].alarmed, prealarmed := t.rge.floors[f].prealarmed })
  ∧ t.rge = { u.rge with
      floors := t.rge.floors, regime := t.rge.regime, changeCounter := t.rge.changeCounter }
  ∧ leaves .rge u.deliveries (regimeDeliveries s t) s t

/-! ## Relations of the Door Sequencer -/

/-- The gap of a release of inrush weight `w` from a carry, by the four steps of R91, and the carry it leaves. -/
def pauseAndCarry (k : GroupCfg) (w carry : Nat) : Nat × Nat :=
  let total := w * 2 ^ k.scale * 65536 / k.ratio + carry
  (match k.mode with
    | some .max => max k.gMin (total / 256)
    | some .sum => k.gMin + total / 256
    | none => Config.unstatedGap k.gMin (total / 256), total % 256)

/-- A release attempt of an OWNED group in ALARM with a queue that is not empty, from the record `r` (R90, R91): the first entry
that fits the hold budget is issued and its strike is in RAMP for 50 ms; with none, the group is LIMITED. -/
def attempted (g : GroupId) (r : GroupRec) (s t : State) : Prop :=
  match r.queue.find? fun e => decide (r.holdSum + s.cfg.doors[e.door].hold ≤ s.cfg.groups[g].budget) with
  | some e =>
    let next := pauseAndCarry s.cfg.groups[g] s.cfg.doors[e.door].weight r.carry
    t.dsq.doors[e.door] = .ramp (s.now + 50)
      ∧ t.dsq.groups[g] = { r with
          queue := r.queue.erase e
          holdSum := r.holdSum + s.cfg.doors[e.door].hold
          carry := next.2
          nextRelease := s.now + next.1
          pacing := if next.1 = 0 then none else some (s.now + next.1)
          zeroGap := decide (next.1 = 0)
          limited := false }
  | none => t.dsq.groups[g] = { r with limited := true }

/-- What release attempts deliver (R90): SUPPLY LIMIT is raised for each group of `raised`, whose attempt found no entry that
fits, and cleared for each group that was LIMITED and no longer is; nothing else is delivered. -/
def supplyNews (raised : GroupId → Prop) (s t : State) (news : List Instr) : Prop :=
  (∀ g : GroupId, .troubleRaise .supplyLimit g.val ∈ news ↔ raised g)
    ∧ (∀ g : GroupId, .troubleClear .supplyLimit g.val ∈ news
        ↔ s.dsq.groups[g].limited = true ∧ t.dsq.groups[g].limited = false)
    ∧ ∀ e ∈ news, ∃ g : GroupId, e = .troubleRaise .supplyLimit g.val ∨ e = .troubleClear .supplyLimit g.val

/-- The door that a release attempt from the record `r` issues. -/
def issuedDoor (g : GroupId) (r : GroupRec) (s : State) : Option DoorId :=
  (r.queue.find? fun e => decide (r.holdSum + s.cfg.doors[e.door].hold ≤ s.cfg.groups[g].budget)).map (·.door)

/-- The queue of a group after an event that queues the strikes `names` (R74) and re-reads the classes of the floors that
`touched` names (R75), from a queue in class order. The queue is in class order. In each class stand first the entries that
were in it and keep it, in their order; then the new entries, in ascending order of door point number; then the entries
promoted to it, in the order in which they stood (log entry 14). -/
def requeued (g : GroupId) (names : DoorId → Bool) (touched : Nat → Bool) (s : State) (q : List QueueEntry) : Prop :=
  let old := s.dsq.groups[g].queue
  let classOf := fun (d : DoorId) => s.floorClass s.cfg.doors[d].floor
  let promoted := fun (e : QueueEntry) => touched s.cfg.doors[e.door].floor && decide (classOf e.door < e.cls)
  old.Pairwise (fun a b => a.cls ≤ b.cls) →
    q.Pairwise (fun a b => a.cls ≤ b.cls)
    ∧ ∀ k, (q.filter fun e => decide (e.cls = k)) =
        (old.filter fun e => decide (e.cls = k) && !promoted e)
          ++ ((List.finRange 128).filter fun d =>
              s.strikeOf g d && decide (s.dsq.doors[d] = .secured) && names d && decide (classOf d = k)).map (⟨·, k⟩)
          ++ ((old.filter fun e => promoted e && decide (classOf e.door = k)).map fun e => { e with cls := k })

/-- Some configured strike of a floor is FAILED. -/
def someFailed (s : State) (f : FloorId) : Prop :=
  ∃ d : DoorId, s.isStrike d = true ∧ s.cfg.doors[d].floor = f.val ∧ s.dsq.doors[d] = .failed

/-- What a change of FAILED states delivers (R81, R82): DOOR FAILED raised for each strike that became FAILED and cleared for each
that ceased to be; the re-entry impaired flag of each floor whose first strike became FAILED or whose last ceased to be. -/
def failedNews (s t : State) (news : List Instr) : Prop :=
  (∀ d : DoorId, .troubleRaise .doorFailed d.val ∈ news
      ↔ s.isStrike d = true ∧ s.dsq.doors[d] ≠ .failed ∧ t.dsq.doors[d] = .failed)
    ∧ (∀ d : DoorId, .troubleClear .doorFailed d.val ∈ news
      ↔ s.isStrike d = true ∧ s.dsq.doors[d] = .failed ∧ t.dsq.doors[d] ≠ .failed)
    ∧ (∀ f v, .reentryImpairedWrite f v ∈ news
      ↔ (v = true ∧ ¬ someFailed s f ∧ someFailed t f) ∨ (v = false ∧ someFailed s f ∧ ¬ someFailed t f))
    ∧ ∀ e ∈ news, (∃ d : DoorId, e = .troubleRaise .doorFailed d.val ∨ e = .troubleClear .doorFailed d.val)
        ∨ ∃ f v, e = .reentryImpairedWrite f v

/-! ## Relations of the Channel Router -/

/-- The monitored channel is the one that the selection names as the state stands (R135). -/
def monitorFollows (t : State) : Prop :=
  (t.chr.selection = .off → t.chr.monitored = none)
    ∧ (∀ c, t.chr.selection = .channel c → t.chr.monitored = some c)
    ∧ (t.chr.selection = .followOrigin → t.rge.firstAlarms = [] → t.chr.monitored = none)
    ∧ ∀ f rest, t.chr.selection = .followOrigin → t.rge.firstAlarms = f :: rest →
        (∀ c, t.chr.monitored = some c → ∃ z ∈ t.chr.channels[c].zoneSet, z.val = f.val)
        ∧ (t.chr.monitored = none → ∀ c : ChannelId, ∀ z ∈ t.chr.channels[c].zoneSet, z.val ≠ f.val)

/-- The victim of a pre-emption: the programme on channel `c` has the greatest priority number, then the latest grant, then the
highest-numbered channel (R123). -/
def isVictim (s : State) (c : ChannelId) (g : Grant) : Prop :=
  s.chr.channels[c].grant = some g
    ∧ ∀ (k : ChannelId) (h : Grant), k ≠ c → s.chr.channels[k].grant = some h →
        demandPriority h.prog.demand < demandPriority g.prog.demand
        ∨ (demandPriority h.prog.demand = demandPriority g.prog.demand
            ∧ (h.granted < g.granted ∨ (h.granted = g.granted ∧ k < c)))

/-! ## Relations of the Cue Engine -/

/-- What a configured speaker zone hears, with the demand instant of its slot (R106, R110): the present slot of the lowest priority
number in the order LIVE-C, fire, LIVE-P, tenant; nothing when that slot is complete. -/
def zoneHears (s : State) (z : SpeakerId) : Option (Demand × Nat) :=
  let r := s.cue.zones[z]
  let tenantPart := match r.tenant with
    | some t => if t.complete then none else some (.tenant t.ticket t.cue, t.instant)
    | none => none
  let firePart := fun (below : Option (Demand × Nat)) => match r.fire with
    | some f => if f.complete then none else some (.fire f.cue f.prio, f.instant)
    | none => below
  if s.speakerConfigured z then
    match r.live with
    | some l => if l.source = .liveC then some (.live .liveC, l.instant) else firePart (some (.live .liveP, l.instant))
    | none => firePart tenantPart
  else none

/-- A chain at the first block of a cue (R111, R113): a repeat count of 0 is continuous. -/
def startOf (s : State) (n started : Nat) : Chain :=
  ⟨n, if (s.cueAt n).repeats = 0 then none else some (s.cueAt n).repeats, .segment 0, started⟩

/-- A chain stands at the end of a repetition of its cue (R112). -/
def repetitionEnds (s : State) (k : Chain) : Prop :=
  match k.pos with
  | .segment i => s.playedLength k.cue ≤ i + 1 ∧ (s.cueAt k.cue).gap = 0
  | .gap j => (s.cueAt k.cue).gap ≤ j + 1

/-- A chain stands at the end of its cue (R112, R113). -/
def cueIsOver (s : State) (k : Chain) : Prop := repetitionEnds s k ∧ ∃ r, k.remaining = some r ∧ r ≤ 1

/-- The position of a chain after a block boundary within its cue (R112): the next block of the segment or of the gap, or the next
repetition. -/
def movesWithin (s : State) (k next : Chain) : Prop :=
  (∃ i, k.pos = .segment i ∧ i + 1 < s.playedLength k.cue ∧ next = { k with pos := .segment (i + 1) })
  ∨ (∃ i, k.pos = .segment i ∧ s.playedLength k.cue ≤ i + 1 ∧ 0 < (s.cueAt k.cue).gap ∧ next = { k with pos := .gap 0 })
  ∨ (∃ j, k.pos = .gap j ∧ j + 1 < (s.cueAt k.cue).gap ∧ next = { k with pos := .gap (j + 1) })
  ∨ (repetitionEnds s k ∧ k.remaining = none ∧ next = { k with pos := .segment 0 })
  ∨ (repetitionEnds s k ∧ ∃ r, k.remaining = some r ∧ 1 < r ∧ next = { k with remaining := some (r - 1), pos := .segment 0 })

/-- The demand instant of a programme: the earliest among the slots that its zones hear (R110). -/
def earliestInstant (s : State) (d : Demand) (i : Nat) : Prop :=
  (∃ z, zoneHears s z = some (d, i)) ∧ ∀ z j, zoneHears s z = some (d, j) → i ≤ j

/-- Programme `d` comes before programme `e` in the order of R122, with these demand instants: by priority, then by demand instant,
then by the lowest-numbered zone of the demand set. -/
def aheadOf (s : State) (d : Demand) (i : Nat) (e : Demand) (j : Nat) : Prop :=
  demandPriority d < demandPriority e
  ∨ (demandPriority d = demandPriority e
      ∧ (i < j ∨ (i = j ∧ ∃ z ∈ s.demandSet d, ∀ y ∈ s.demandSet e, z < y)))

/-- What CUE hands over about programme `d` in an event that took the demand sets from `s` to `t` (R110): that it has formed, that
its demand set or demand instant has changed, or that its demand set has become empty. -/
def handedOf (s t : State) (d : Demand) (e : Instr) : Prop :=
  (s.demandSet d = [] ∧ t.demandSet d ≠ [] ∧ ∃ i, earliestInstant t d i ∧ match d with
      | .tenant k q => e = .tenantProgrammeHanded k q i
      | _ => e = .programmeHanded d .formed i)
  ∨ (s.demandSet d ≠ [] ∧ t.demandSet d = [] ∧ e = .programmeHanded d .ended t.now)
  ∨ (s.demandSet d ≠ [] ∧ t.demandSet d ≠ [] ∧ ∃ i, earliestInstant t d i
      ∧ (s.demandSet d ≠ t.demandSet d ∨ ¬ earliestInstant s d i) ∧ e = .programmeHanded d .changed i)

/-- A delivery that hands over a programme that has formed. -/
def isNewProgramme (e : Instr) : Option (Demand × Nat) :=
  match e with
  | .programmeHanded d .formed i => some (d, i)
  | .tenantProgrammeHanded k q i => some (.tenant k q, i)
  | _ => none

/-- The list of what an event hands over (R110, R122): each programme once; the changes and ends first, then the programmes that
have formed, none behind one that comes after it in the order of R122 (log entry 19). -/
def handsOver (s t : State) (hands : List Instr) : Prop :=
  (∀ e, e ∈ hands ↔ ∃ d, handedOf s t d e) ∧ hands.Nodup
  ∧ hands.Pairwise fun a b => ∀ d i, isNewProgramme a = some (d, i) →
      ∃ e j, isNewProgramme b = some (e, j) ∧ ¬ aheadOf t e j d i

/-- A zone that heard a programme and no longer hears it. -/
def zoneLeft (s t : State) (z : SpeakerId) : Bool :=
  (zoneHears s z).any fun x => decide ((zoneHears t z).map Prod.fst ≠ some x.1)

/-- The end of an event of CUE that took the Zone Demand records from those of `s` to those of `t` (R110, R115, R124, R125, R135):
the zones that left their programme leave its channel's zone set and pending joins; the chain of a channel whose programme has
ended is cleared; the monitored channel follows; the programmes are handed over. -/
def cueEnds (way : List Instr) (s t : State) : Prop :=
  t = { s with cue := t.cue, chr := t.chr, deliveries := t.deliveries }
  ∧ t.cue.finished = s.cue.finished
  ∧ (∀ c : ChannelId, t.chr.channels[c] = { s.chr.channels[c] with
        zoneSet := s.chr.channels[c].zoneSet.filter fun z => !zoneLeft s t z
        joins := s.chr.channels[c].joins.filter fun z => !zoneLeft s t z })
  ∧ (∀ c : ChannelId,
      let ended : Prop := ∃ g, s.chr.channels[c].grant = some g
        ∧ s.demandSet g.prog.demand ≠ [] ∧ t.demandSet g.prog.demand = []
      (ended → t.cue.chains[c] = none) ∧ (¬ ended → t.cue.chains[c] = s.cue.chains[c]))
  ∧ t.chr = { s.chr with channels := t.chr.channels, monitored := t.chr.monitored }
  ∧ ((∀ c : ChannelId, t.chr.channels[c].zoneSet = s.chr.channels[c].zoneSet) → t.chr.monitored = s.chr.monitored)
  ∧ ((∃ c : ChannelId, t.chr.channels[c].zoneSet ≠ s.chr.channels[c].zoneSet) → monitorFollows t)
  ∧ ∃ hands, handsOver s t hands ∧ leaves .cue way hands s t

/-! ## Relations of the channel arbiter -/

/-- A read in progress for an area that is emptied is discarded at its completion (R127, R129). -/
def readDropped (c : ChannelId) (r : Option FlashRead) : Option FlashRead :=
  r.map fun x => if x.channel = c then { x with discarded := true } else x

/-- What a live programme plays (R134): the newest complete block in the ring of its source's area that it has not played since it
began, or silence. The newest blocks of the area's size are in the ring. -/
def livePlays (s : State) (src : LiveSourceId) (played : List Nat) (q : ChannelRec) : Prop :=
  let done := (s.source src).blocks
  let inRing := fun n => 0 < n ∧ n ≤ done ∧ done < n + s.areaSize (.live src)
  (∀ n, inRing n → n ∉ played → (∀ m, inRing m → n < m → m ∈ played) →
      q.audio = .liveBlock src n ∧ ∀ m, m ∈ q.livePlayed ↔ m = n ∨ (m ∈ played ∧ inRing m))
  ∧ ((∀ n, inRing n → n ∈ played) → q.audio = .silence ∧ ∀ m, m ∈ q.livePlayed ↔ (m ∈ played ∧ inRing m))

/-- A begun record of a programme on a channel (R120, R125): its zone set is its demand set, and its boundaries count from now. -/
def begunAs (s : State) (d : Demand) (q : ChannelRec) : Prop :=
  q.begun = true ∧ q.zoneSet = s.demandSet d ∧ q.joins = [] ∧ q.boundary = some (s.now + 64)

/-- The programme of demand `d` begins on a channel (R111, R120, R125): a live programme plays the newest block of its source; for
another one CUE sets the chain at the first block of its start cue, and the first slot, which holds that block, is heard, or
silence when its read failed. -/
def programmeBegins (c : ChannelId) (d : Demand) (s t : State) : Prop :=
  let r := s.chr.channels[c]
  let q := t.chr.channels[c]
  t = { s with cue := t.cue, chr := { s.chr with channels := s.chr.channels.set c.val q c.isLt } }
  ∧ begunAs s d q
  ∧ q = { r with
      begun := true, zoneSet := q.zoneSet, joins := q.joins, boundary := q.boundary
      headInPlay := q.headInPlay, livePlayed := q.livePlayed, audio := q.audio }
  ∧ (∀ src, d = .live src → t.cue = s.cue ∧ q.headInPlay = r.headInPlay ∧ livePlays s src [] q)
  ∧ (∀ n, startCue d = some n →
      t.cue = { s.cue with chains := s.cue.chains.set c.val (some (startOf s n s.now)) c.isLt }
      ∧ q.headInPlay = true ∧ q.livePlayed = r.livePlayed
      ∧ ∀ x rest, r.slots = x :: rest →
          q.audio = if x.status = .complete then .flashBlock x.block else .silence)

/-- A programme that may begin does (R120, R131): on a PLAYING channel, not begun, live or with its first block complete or
faulted. -/
def beginsIfReady (c : ChannelId) (s t : State) : Prop :=
  let r := s.chr.channels[c]
  let may := fun (g : Grant) => r.grant = some g ∧ r.state = .playing ∧ r.begun = false
    ∧ (startCue g.prog.demand ≠ none → ∃ x rest, r.slots = x :: rest ∧ x.status ≠ .filling)
  (∀ g, may g → programmeBegins c g.prog.demand s t) ∧ ((∀ g, ¬ may g) → t = s)

/-- A programme is granted a channel (R119, R120, R122): it no longer waits; a STANDBY channel wakes for T_w, a WAKING one keeps its
warm-up timer, a READY or PLAYING one is PLAYING; the area is emptied; a live programme begins at once on a PLAYING channel. -/
def channelGranted (c : ChannelId) (p : Programme) (s t : State) : Prop :=
  let r := s.chr.channels[c]
  let q := t.chr.channels[c]
  t = { s with chr := t.chr }
  ∧ t.chr = { s.chr with
      channels := t.chr.channels, reading := readDropped c s.chr.reading
      waiting := s.chr.waiting.filter fun w => decide (w.demand ≠ p.demand) }
  ∧ (∀ k : ChannelId, k ≠ c → t.chr.channels[k] = s.chr.channels[k])
  ∧ q.state = (if r.state = .standby ∨ r.state = .waking then .waking else .playing)
  ∧ q.grant = some ⟨p, s.now⟩ ∧ q.idle = none ∧ q.slots = [] ∧ q.headInPlay = false ∧ q.underrun = r.underrun
  ∧ q.warmUp = (if r.state = .standby then some (s.now + s.cfg.tWarmUp) else r.warmUp)
  ∧ ((∃ src, p.demand = .live src) → q.state = .playing → begunAs s p.demand q)
  ∧ (∀ src, p.demand = .live src → q.state = .playing → livePlays s src [] q)
  ∧ ((∀ src, p.demand ≠ .live src) ∨ q.state = .waking →
      q.begun = false ∧ q.zoneSet = [] ∧ q.joins = [] ∧ q.boundary = none ∧ q.audio = .silence ∧ q.livePlayed = [])

/-- The channel that a grant chooses is free: READY first, then WAKING without a programme, then STANDBY, the lowest-numbered first
(R122). -/
def chosenFree (s : State) (c : ChannelId) : Prop :=
  let rank := fun (k : ChannelId) => match s.chr.channels[k].state with
    | .ready => 0
    | .waking => 1
    | .standby => 2
    | .playing => 3
  s.chr.channels[c].free = true
  ∧ ∀ k : ChannelId, s.chr.channels[k].free = true → rank c < rank k ∨ (rank c = rank k ∧ c ≤ k)

/-- One turn of an arbitration pass (R122, R123): the head of the waiting programmes is granted the chosen free channel; with none
free it takes the channel of the victim that it outranks, whose chain is cleared and which waits again, or, a tenant programme,
is delivered to the Tenant Queue (R124). -/
def arbiterTurn (s t : State) : Prop :=
  ∃ p ∈ s.chr.waiting, (∀ w ∈ s.chr.waiting, ¬ aheadOf s w.demand w.instant p.demand p.instant)
    ∧ ((∃ c, chosenFree s c ∧ channelGranted c p s t)
      ∨ ((∀ c : ChannelId, s.chr.channels[c].free = false)
        ∧ ∃ c g, isVictim s c g ∧ demandPriority p.demand < demandPriority g.prog.demand
          ∧ ∃ u, (∀ k q, g.prog.demand = .tenant k q → u = { s with
                deliveries := s.deliveries ++ [.tenantPreEmption k]
                cue := { s.cue with chains := s.cue.chains.set c.val none c.isLt } })
            ∧ ((∀ k q, g.prog.demand ≠ .tenant k q) → u = { s with
                chr := { s.chr with waiting := s.chr.waiting ++ [g.prog] }
                cue := { s.cue with chains := s.cue.chains.set c.val none c.isLt } })
            ∧ channelGranted c p u t))

/-- A whole arbitration pass: turns until the head of the waiting programmes can take no channel (R122). -/
def arbitrated (s t : State) : Prop :=
  Relation.ReflTransGen arbiterTurn s t
  ∧ (∀ p ∈ t.chr.waiting, ∀ c : ChannelId, t.chr.channels[c].free = false)
  ∧ ∀ p ∈ t.chr.waiting, (∀ w ∈ t.chr.waiting, ¬ aheadOf t w.demand w.instant p.demand p.instant) →
      ∀ (c : ChannelId) (g : Grant), t.chr.channels[c].grant = some g → demandPriority g.prog.demand ≤ demandPriority p.demand

/-- A programme leaves its channel (R115, R121): the chain is cleared, the zone set and the area are emptied, and a PLAYING channel is
READY, with its idle timer of T_idle unless idling is suspended. -/
def channelReleased (c : ChannelId) (s t : State) : Prop :=
  let r := s.chr.channels[c]
  t = { s with
    cue := { s.cue with chains := s.cue.chains.set c.val none c.isLt }
    chr := { s.chr with
      reading := readDropped c s.chr.reading
      channels := s.chr.channels.set c.val
        { r with
          state := if r.state = .playing then .ready else r.state
          grant := none
          begun := false
          idle := if r.state = .playing ∧ s.chr.idlingSuspended = false then some (s.now + s.cfg.tIdle * 1000) else r.idle
          zoneSet := [], joins := [], slots := [], headInPlay := false, boundary := none, livePlayed := []
          audio := .silence } c.isLt } }

/-- The read port at the end of an event of CHR (R129): idle, it begins a read for the first eligible channel after the last one
served, of the first block of that channel's read-ahead order that has no slot, into an empty slot; busy, it goes on. -/
def portBegins (s t : State) : Prop :=
  let due := fun (c : ChannelId) (b : Nat) =>
    s.chr.channels[c].slots.length < s.areaSize (.channel c)
    ∧ (s.readOrder c (s.areaSize (.channel c)))[s.chr.channels[c].slots.length]? = some b
  let turn := fun (c : ChannelId) => (c.val + 3 - s.chr.lastServed.val) % 4
  (s.chr.reading ≠ none ∨ (∀ c b, ¬ due c b) →
    t.chr.reading = s.chr.reading ∧ t.chr.lastServed = s.chr.lastServed ∧ t.chr.channels = s.chr.channels)
  ∧ (s.chr.reading = none → ∀ c b, due c b → (∀ k a, due k a → turn c ≤ turn k) →
    t.chr.reading = some ⟨c, s.now, false⟩ ∧ t.chr.lastServed = c
    ∧ t.chr.channels = s.chr.channels.set c.val
        { s.chr.channels[c] with slots := s.chr.channels[c].slots ++ [⟨b, .filling⟩] } c.isLt)

/-- The end of an event of CHR that took `s` to `u` by its own change and leaves `t` (R124, R129, R135): the port may begin a read,
the monitored channel follows a changed zone set or selection, and a channel that it leaves free while no programme waits is
told to the Tenant Queue (log entry 16). -/
def chrEnds (s u t : State) : Prop :=
  t.cue = u.cue ∧ portBegins u t
  ∧ t.chr = { u.chr with
      channels := t.chr.channels, reading := t.chr.reading, lastServed := t.chr.lastServed, monitored := t.chr.monitored }
  ∧ (let moved : Prop := u.chr.selection ≠ s.chr.selection
       ∨ ∃ c : ChannelId, u.chr.channels[c].zoneSet ≠ s.chr.channels[c].zoneSet
     (moved → monitorFollows t) ∧ (¬ moved → t.chr.monitored = u.chr.monitored))
  ∧ (let freed : Prop := u.chr.waiting = []
       ∧ ∃ c : ChannelId, u.chr.channels[c].free = true ∧ s.chr.channels[c].free = false
     (freed → leaves .chr u.deliveries [.tnqChannelFree] s t) ∧ (¬ freed → leaves .chr u.deliveries [] s t))

/-- Only CHR, the chains that it clears or sets, and the deliveries differ. -/
def onlyChannels (s t : State) : Prop := t = { s with cue := t.cue, chr := t.chr, deliveries := t.deliveries }

/-- The slots of the channels' areas, the read in progress and the timers agree with the programmes on the channels: each area holds a
leading run of its channel's read-ahead order, with the block in progress in the first slot (R119, R121, R127 to R129). -/
def areasSound (s : State) : Prop :=
  ∀ c : ChannelId,
    let r := s.chr.channels[c]
    r.slots.length ≤ s.areaSize (.channel c)
    ∧ (r.grant = none → r.slots = [] ∧ r.begun = false)
    ∧ (∀ g, r.grant = some g → (r.state = .waking ∨ r.state = .playing)
        ∧ (startCue g.prog.demand = none → r.slots = []))
    ∧ (r.begun = true → r.state = .playing)
    ∧ (r.begun = false → r.headInPlay = false ∧ s.cue.chains[c] = none)
    ∧ (r.begun = false ∨ s.cue.chains[c] ≠ none →
        r.slots.map (·.block) <+: s.readOrder c (s.areaSize (.channel c)))
    ∧ (r.headInPlay = true → ∃ x rest, r.slots = x :: rest ∧ x.status ≠ .filling)
    ∧ (∀ k, r.headInPlay = true → s.cue.chains[c] = some k → ∃ i, k.pos = .segment i)
    ∧ (∀ x ∈ r.slots, x.status = .filling → ∃ f, s.chr.reading = some f ∧ f.channel = c ∧ f.discarded = false)
    ∧ (∀ f, s.chr.reading = some f → f.channel = c → f.discarded = false →
        ∃ front x, r.slots = front ++ [x] ∧ x.status = .filling ∧ ∀ y ∈ front, y.status ≠ .filling)
    ∧ (r.idle ≠ none → r.state = .ready) ∧ (r.warmUp ≠ none → r.state = .waking)

/-! ## Relations of the Tenant Queue -/

/-- A zone has its three slots absent as TNQ finds them (R140), when it has itself cleared the tenant slots of `cleared` in the
same event. -/
def tenantFree (s : State) (cleared : List SpeakerId) (z : SpeakerId) : Bool :=
  s.cue.zones[z].fire.isNone && s.cue.zones[z].live.isNone && (cleared.contains z || s.tenantSlotFree z)

/-- The entries that an admission scan starts, from the head of the queue to its tail: each takes one of the free channels, and
none of its zones is held or taken by an entry started before it (R140). -/
def admits (free : SpeakerId → Bool) (channels : Nat) (taken : List SpeakerId) (q : List TenantEntry) : List TenantEntry :=
  match q with
  | [] => []
  | e :: rest =>
    if 0 < channels ∧ ∀ z ∈ e.zones, free z = true ∧ z ∉ taken then
      e :: admits free (channels - 1) (taken ++ e.zones) rest
    else admits free channels taken rest

/-- An admission scan of the queue `q` beside the playing list `playing` (R140, R141): it starts nothing in ALARM; each started
entry leaves the queue and stands at the end of the playing list, and its zones' tenant slots are written. -/
def scanned (cleared : List SpeakerId) (q playing : List TenantEntry) (way : List Instr) (s t : State) : Prop :=
  let started := if s.inAlarm then [] else admits (tenantFree s cleared) s.freeChannels [] q
  t.tnq.queue = q.filter (fun x => !started.any fun e => e.ticket == x.ticket)
    ∧ t.tnq.playing = playing ++ started.map (fun e => { e with aging := none, started := some s.now })
    ∧ leaves .tnq way (started.flatMap fun e => e.zones.map fun z => .tenantSlotWrite z (.put e.ticket e.cue)) s t

/-- The clearing of the tenant slots of an entry (R142). -/
def clearing (e : TenantEntry) : List Instr := e.zones.map fun z => .tenantSlotWrite z (.erase e.ticket)

/-! ## Relations of the ports -/

/-- What a port delivers when it becomes LOST (R154). -/
def lossDeliveries (p : PortId) (s : State) : List Instr :=
  .troubleRaise .partyLost p.val :: match s.role p with
    | .firePanel => [.rgePanelLoss p]
    | .liftGroup => [.lfcPresenceChange p .lost]
    | .commandStation => [.rgeCommandStationLoss p, .chrPortLoss p]
    | .pagingConsole => [.chrPortLoss p]
    | .unused => []

/-- The receive errors at a port of a character that ends at an instant (R160, R163): the partial frame is dropped or the answer
withheld, the port is DISCARDING, the counter of each error is one higher, up to 255, and the line is idle from that instant. -/
def failsWith (p : PortId) (es : List ReceiveErrorKind) (at_ : Nat) (s t : State) : Prop :=
  let r := s.links.ports[p]
  let up := fun (mine : Bool) (n : Nat) => if mine then min 255 (n + 1) else n
  t.links.ports[p] = { r with
      rx := .discarding
      buffer := []
      answer := if r.rx = .preparing then none else r.answer
      idleFrom := at_
      errors := ⟨up (es.contains .framing) r.errors.framing, up (es.contains .parity) r.errors.parity,
        up (es.contains .overrun) r.errors.overrun, up (es.contains .check) r.errors.check,
        up (es.contains .length) r.errors.length⟩ }
    ∧ (∀ q : PortId, q ≠ p → t.links.ports[q] = s.links.ports[q]) ∧ t.links.grace = s.links.grace
    ∧ leaves (.port p) s.deliveries [] s t ∧ portServed p s t

/-- The roles that may send a request kind (the table of R164). -/
def mayAsk (kind : Nat) (r : PortRole) : Prop :=
  r ≠ .unused ∧ (kind = 1 ∨ kind = 5 ∨ (kind = 2 ∧ r = .firePanel) ∨ (kind = 4 ∧ r = .liftGroup)
    ∨ (kind = 3 ∧ (r = .commandStation ∨ r = .firePanel)) ∨ (kind = 6 ∧ (r = .commandStation ∨ r = .pagingConsole))
    ∨ (kind = 7 ∧ r = .commandStation))

/-- The number of bytes that follow a command code (10.8). -/
def argumentCount (code : Nat) : Nat :=
  if code = 12 ∨ code = 19 then 2
  else if code = 9 ∨ code = 10 ∨ (14 ≤ code ∧ code ≤ 17) then 1
  else 0

/-- The body of a request has the form of its kind (10.8); a COMMAND, ANNOUNCE or CONFIGURE whose first byte names nothing has
it whatever its length. -/
def wellFormedBody (kind : Nat) (body : List Byte) : Prop :=
  (kind = 1 → body = []) ∧ (kind = 2 → body.length % 2 = 0) ∧ (kind = 4 → body.length % 5 = 0) ∧ (kind = 5 → body.length = 3)
    ∧ (kind = 3 → ∃ code args, body = code :: args
        ∧ (1 ≤ code.toNat → code.toNat ≤ 19 → args.length = argumentCount code.toNat))
    ∧ (kind = 6 → ∃ sub args, body = sub :: args ∧ (sub.toNat = 1 → args.length = 6) ∧ (sub.toNat = 2 → args.length = 1)
        ∧ (sub.toNat = 3 → args.length = 5) ∧ (sub.toNat = 4 → args.length = 0))
    ∧ (kind = 7 → ∃ sub args, body = sub :: args ∧ (sub.toNat = 1 → 3 ≤ args.length ∧ args.length ≤ 55)
        ∧ (sub.toNat = 2 → args.length = 3) ∧ (sub.toNat = 3 ∨ sub.toNat = 4 → args.length = 0))

/-- What a valid frame leaves of a port's presence record (R152). -/
def presenceAfter (p : PortId) (s : State) (q : PortRec) : Prop :=
  let r := s.links.ports[p]
  q.supervision = some (s.now + s.cfg.ports[p].tSup)
    ∧ (r.presence = .absent ∨ r.presence = .lost → q.presence = .attaching ∧ q.attach = 1)
    ∧ (r.presence = .attaching → if 2 ≤ r.attach then q.presence = .present ∧ q.attach = 0
        else q.presence = .attaching ∧ q.attach = r.attach + 1)
    ∧ (r.presence = .present → q.presence = .present ∧ q.attach = r.attach)

/-! ## Relations of the starts -/

/-- Recorded outputs give what each output gives in a state. -/
def outputsStood (o : Outputs) (s : State) : Prop :=
  o.alarm = s.alarmContact ∧ o.unacknowledged = s.unacknowledgedContact ∧ o.trouble = s.troubleContact
    ∧ (∀ b : BankId, o.recalls[b] = s.recallContact b ∧ o.alternates[b] = s.alternateContact b
        ∧ o.lamps[b] = s.lampContact b ∧ o.shunts[b] = s.shuntContact b)
    ∧ (∀ d : DoorId, o.doors[d] = s.doorDriver d) ∧ (∀ g : GroupId, o.takeoverAcks[g] = s.takeoverAck g)
    ∧ (∀ c : ChannelId, o.enables[c] = s.channelEnable c ∧ o.audio[c] = s.chr.channels[c].audio)
    ∧ (∀ z : SpeakerId, o.speakers[z] = s.speakerAudio z) ∧ o.monitor = s.monitorAudio

/-- Recorded outputs are de-energised and silent throughout. -/
def outputsOff (o : Outputs) : Prop :=
  o.alarm = false ∧ o.unacknowledged = false ∧ o.trouble = false
    ∧ (∀ b : BankId, o.recalls[b] = false ∧ o.alternates[b] = false ∧ o.lamps[b] = false ∧ o.shunts[b] = false)
    ∧ (∀ d : DoorId, o.doors[d] = false) ∧ (∀ g : GroupId, o.takeoverAcks[g] = false)
    ∧ (∀ c : ChannelId, o.enables[c] = false ∧ o.audio[c] = .silence)
    ∧ (∀ z : SpeakerId, o.speakers[z] = .silence) ∧ o.monitor = .silence

/-- The part right after a cold start under a sound image (R170 and the cold-start values of each chapter). -/
def startedUnder (m : Image) (s t : State) : Prop :=
  t.now = 0 ∧ t.configFault = false ∧ t.cfg = configOf m ∧ t.pending = s.pending
    ∧ t.lsc = State.reset.lsc ∧ t.rge = State.reset.rge ∧ t.cue = State.reset.cue ∧ t.chr = State.reset.chr
    ∧ t.tnq = State.reset.tnq ∧ t.trl = State.reset.trl ∧ t.lfc.banks = State.reset.lfc.banks
    ∧ t.links = { State.reset.links with grace := some 10000 }
    ∧ (∀ c : CarId, t.lfc.cars[c].stale = true ∧ t.lfc.cars[c].motion = .stopped ∧ t.lfc.cars[c].doors = .closed
        ∧ t.lfc.cars[c].mode = .normal
        ∧ ∀ b : BankId, c.val / 6 = b.val → t.lfc.cars[c].position = t.cfg.banks[b].lowest)
    ∧ (∀ d : DoorId, t.dsq.doors[d] =
        if t.cfg.doors[d].configured then (if t.cfg.doors[d].kind = .strike then .secured else .holding) else .absent)
    ∧ (∀ g : GroupId, t.dsq.groups[g] =
        { State.reset.dsq.groups[g] with
          request := s.dsq.groups[g].request, drive := s.dsq.groups[g].drive
          takeover := if s.dsq.groups[g].request then .taken else .owned })
    ∧ ∀ e, e ∈ t.deliveries ↔ (∃ g : GroupId, s.dsq.groups[g].request = true ∧ e = .troubleRaise .takeoverActive g.val)
        ∨ (e = .changeCounterIncrease .dsq ∧ ∃ g : GroupId, s.dsq.groups[g].request = true)

/-- The part in CONFIG FAULT after a cold start that found no sound image (R171). -/
def faultedFrom (s t : State) : Prop :=
  t.now = 0 ∧ t.configFault = true ∧ faultValues t ∧ t.pending = s.pending
    ∧ t.links = State.reset.links
    ∧ ∀ g : GroupId, t.dsq.groups[g].request = s.dsq.groups[g].request ∧ t.dsq.groups[g].drive = s.dsq.groups[g].drive

/-! ## Rows of READ -/

/-- The bytes of a row (R166): the fields in their order, each with its width in bytes and its value, high byte first and 0xFF
throughout for a field that is none; the row is padded with zeros. -/
def rowBytes (size : Nat) (fields : List (Nat × Option Nat)) : List Byte :=
  let bs := fields.flatMap fun x => (List.range x.1).map fun i => match x.2 with
    | some v => BitVec.ofNat 8 (v / 256 ^ (x.1 - 1 - i))
    | none => 0xFF
  bs ++ List.replicate (size - bs.length) 0

/-- A zone set as five fields of one byte, lowest zones first (10.8). -/
def setFields (zs : List SpeakerId) : List (Nat × Option Nat) :=
  (List.range 5).map fun k =>
    (1, some ((((List.range 8).filter fun i => zs.any fun z => z.val == 8 * k + i).map fun i => 2 ^ i).sum))

/-- Row `i` of the table of a code has these fields (R166). -/
def rowIs (s : State) (code i size : Nat) (fields : List (Nat × Option Nat)) : Prop :=
  ∃ table, s.tableNamed code = some table ∧ table.rowsFrom s i 1 = rowBytes size fields

/-! ## Requests -/

/-- The frame that a request command stands for: its port, its kind byte and its body (10.8); none for a command that is no
frame, and for an unknown code, sub-kind or kind that is known. -/
def frameOf (i : Instr) : Option (PortId × Byte × List Byte) :=
  match i with
  | .poll p body => some (p, 1, body)
  | .zoneReport p body => some (p, 2, body)
  | .acknowledge p args => some (p, 3, 1 :: args)
  | .silence p args => some (p, 3, 2 :: args)
  | .resound p args => some (p, 3, 3 :: args)
  | .regimeReset p args => some (p, 3, 4 :: args)
  | .evacuateAll p args => some (p, 3, 5 :: args)
  | .cancelEvacuateAll p args => some (p, 3, 6 :: args)
  | .holdExpansion p args => some (p, 3, 7 :: args)
  | .releaseExpansion p args => some (p, 3, 8 :: args)
  | .isolateZone p args => some (p, 3, 9 :: args)
  | .restoreZone p args => some (p, 3, 10 :: args)
  | .takeManualControl p args => some (p, 3, 11 :: args)
  | .setFloorPhase p args => some (p, 3, 12 :: args)
  | .returnToAutomatic p args => some (p, 3, 13 :: args)
  | .recallBank p args => some (p, 3, 14 :: args)
  | .cancelRecall p args => some (p, 3, 15 :: args)
  | .authorisePhaseII p args => some (p, 3, 16 :: args)
  | .withdrawPhaseII p args => some (p, 3, 17 :: args)
  | .releaseAllDoors p args => some (p, 3, 18 :: args)
  | .monitorSelect p args => some (p, 3, 19 :: args)
  | .unknownCommandCode p code args => if knownCommand code then none else some (p, 3, code :: args)
  | .carReport p body => some (p, 4, body)
  | .read p body => some (p, 5, body)
  | .announceTenant p args => some (p, 6, 1 :: args)
  | .announceCancel p args => some (p, 6, 2 :: args)
  | .liveStart p args => some (p, 6, 3 :: args)
  | .liveStop p args => some (p, 6, 4 :: args)
  | .unknownAnnounceSubkind p sub args => if knownSub sub then none else some (p, 6, sub :: args)
  | .configureWrite p args => some (p, 7, 1 :: args)
  | .configureReadBack p args => some (p, 7, 2 :: args)
  | .configureCommit p args => some (p, 7, 3 :: args)
  | .configureDiscard p args => some (p, 7, 4 :: args)
  | .unknownConfigureSubkind p sub args => if knownSub sub then none else some (p, 7, sub :: args)
  | .unknownRequestKind p kind body => if knownKind kind then none else some (p, kind, body)
  | _ => none

end Sys2Proof.Machine
end

