-- ==== Sys2Proof/Certificates/Slice0/Obligations.lean ====
section
/-! DEFINITION. The statements about the part. Each docstring names the rules of spec/ it formalises, or says that it states a
choice of the model. A delivered event is taken when it is the oldest on its way from its sender (`State.takes`); a request is
a whole frame at a port (`canAsk`, `answers`). -/

open Sys2Proof Sys2Proof.Machine

/-! ## The machine -/

/-- One step with a command at the front of the queue is that command with the queue's rest. -/
def Obligations.StepRunsFrontCommand : Prop :=
  ∀ (c : Instr) (rest : List Instr) (s : State),
    step { s with pending := c :: rest } = exec c { s with pending := rest }

/-- With an empty queue the part takes its oldest delivery; with nothing on its way, the first event of its own that has
fallen due; with nothing due, one millisecond passes. The model's choice (log entry 1). -/
def Obligations.IdleStepTakesDeliveriesThenTimersThenTime : Prop :=
  ∀ s : State, s.pending = [] →
    (∀ e es, s.deliveries = e :: es → step s = exec e s)
    ∧ (s.deliveries = [] → ∀ e es, dueEvents s = e :: es → step s = exec e s)
    ∧ (s.deliveries = [] → dueEvents s = [] → step s = .next { s with now := s.now + 1 })

/-- Every command answers a state and leaves the queue of waiting commands. Only the starts (COLD_START, WARM_RESTART, the end
of a commit's EEPROM write) move the time base, CONFIG FAULT, the configuration, the image in use and the EEPROM (R169,
R170), and what the outputs gave during the latest start (log entry 50). -/
def Obligations.OnlyStartsChangeConfiguration : Prop :=
  ∀ (i : Instr) (s : State), ∃ t, exec i s = .next t ∧ t.pending = s.pending
    ∧ ((∀ c e, i ≠ .coldStart c e) → i ≠ .warmRestart → (∀ b, i ≠ .eepromWriteEnd b) →
        t.now = s.now ∧ t.configFault = s.configFault ∧ t.cfg = s.cfg ∧ t.cfs.inUse = s.cfs.inUse
          ∧ t.cfs.eeprom = s.cfs.eeprom ∧ t.startOutputs = s.startOutputs)

/-- The state after reset meets every invariant stated below. What it holds is the model's choice (log entry 2): CONFIG FAULT, an
EEPROM without a sound image, and every block at its cold-start values over a blank configuration. -/
def Obligations.ResetIsSound : Prop :=
  imagesCanonical State.reset ∧ storeAgrees State.reset ∧ regimeSound State.reset ∧ troublesFit State.reset
    ∧ tenantsFit State.reset ∧ queuesInOrder State.reset ∧ areasSound State.reset ∧ faultValues State.reset

/-- Every step keeps every image of the Configuration Store in its one form, and the store in agreement with the mode of the
part: no image in use exactly in CONFIG FAULT, a working image exactly in configuration mode, no commit write begun later than
now, and neither mode nor write in CONFIG FAULT. -/
def Obligations.StepKeepsStoreSound : Prop :=
  ∀ s t : State, imagesCanonical s → storeAgrees s → step s = .next t → imagesCanonical t ∧ storeAgrees t

/-- Every step keeps the Regime Engine sound: floor counts, regime state, verification timers, holdings, expansion timer, QUIET
floors outside ALARM and origin floors in EVACUATE (R13, R21, R23, R24, R29, R33). -/
def Obligations.StepKeepsRegimeSound : Prop :=
  ∀ s t : State, regimeSound s → step s = .next t → regimeSound t

/-- Every step keeps the trouble list and the tenant queue within their capacities, the trouble list free of repeats, and every
release queue in class order, each of its entries a QUEUED strike of its group that no other entry names (4.4, R74, R75,
R147). -/
def Obligations.StepKeepsListsInOrder : Prop :=
  ∀ s t : State, troublesFit s → tenantsFit s → queuesInOrder s → step s = .next t →
    troublesFit t ∧ tenantsFit t ∧ queuesInOrder t

/-- Every step keeps this: while the part is in CONFIG FAULT nothing moves its blocks, whatever comes in (R171: they hold no
tables and act on no line or frame). That they stand at their cold-start values over a blank configuration meanwhile is the
model's choice (log entry 2). -/
def Obligations.StepKeepsConfigFaultValues : Prop :=
  ∀ s t : State, (s.configFault = true → faultValues s) → step s = .next t → (t.configFault = true → faultValues t)

/-- Every step keeps the areas in step with the programmes (R119, R121, R127 to R129): each area holds a leading run of its
channel's read-ahead order, the block in progress in the first slot; a slot is filling exactly where the read port is filling
it; an area without a programme is empty; timers run only in their channel states. (Several areas of one channel: log entry 43.) -/
def Obligations.StepKeepsReadAhead : Prop :=
  ∀ s t : State, areasSound s → step s = .next t → areasSound t

/-- While the regime stays ALARM no floor's phase falls (R22), and the First-Alarm Order list only grows at its tail (R23). -/
def Obligations.PhasesNeverFallInAlarm : Prop :=
  ∀ s t : State, step s = .next t → s.inAlarm = true → t.inAlarm = true →
    (∀ f : FloorId, phaseRank s.rge.floors[f].phase ≤ phaseRank t.rge.floors[f].phase)
    ∧ s.rge.firstAlarms <+: t.rge.firstAlarms

/-! ## Images -/

/-- Bytes written into an image read back, every other byte reads as before, and the image keeps its one form (R173).

An image of format version 2 is sound once its check is computed and stored, only bytes 2 and 3 change, and it stands for the
same configuration (R169, R173, R174). -/
def Obligations.ImagesHoldWhatIsWritten : Prop :=
  (∀ (m : Image) (a : Nat) (bs : List Byte), m.wf = true → a + bs.length ≤ imageSize →
     (m.putAll a bs).wf = true
     ∧ (∀ i, i < bs.length → (m.putAll a bs).byteAt (a + i) = bs.getD i 0)
     ∧ ∀ b, (b < a ∨ a + bs.length ≤ b) → (m.putAll a bs).byteAt b = m.byteAt b)
  ∧ (∀ m : Image, m.wf = true → m.version = 2 →
     m.withCheck.sound = true ∧ (∀ a, a ≠ 2 → a ≠ 3 → m.withCheck.byteAt a = m.byteAt a)
       ∧ configOf m.withCheck = configOf m)

/-! ## Loops -/

/-- A scan starts every 10 ms once the conversions of the scan before are complete, and converts LP0 first (R1).

The conversion of a loop: the filtered count is seeded or smoothed (R2); the candidate band is the stable band within its
widened range and the plain band otherwise (R3, R4); debounce against the pending band (R5). No other loop changes.

A conversion delivers nothing but its increase of the change counter while the stable band stands; a change of band is
delivered to the zone or to DSQ by the loop's role (R6), with the raises and clears of LOOP OPEN and LOOP SHORT of a used loop
(R7). R7 gives these two no order: that LOOP OPEN's event stands before LOOP SHORT's is the model's choice (log entry 37), and so
is the lowest-numbered zone as the zone of a source that several configured zones share (log entry 38). -/
def Obligations.ScansConvertAndDeliverBandChanges : Prop :=
  (∀ s : State, s.configFault = false → s.lsc.nextScan ≤ s.now → s.lsc.position = 48 →
     ∃ t, exec .scanStart s = .next t ∧ t = { s with lsc := t.lsc } ∧ t.lsc.loops = s.lsc.loops
       ∧ t.lsc.nextScan = s.lsc.nextScan + 10 ∧ t.lsc.position = 0)
  ∧ (∀ (l : LoopId) (n : Fin 1024) (s : State) (th : ThresholdSet), s.configFault = false → s.lsc.position = l.val →
     s.cfg.sets.toList[s.cfg.loops[l].set]? = some th →
     ∃ t, exec (.loopConversion l n) s = .next t ∧ t = { s with lsc := t.lsc, deliveries := t.deliveries }
       ∧ t.lsc.position = l.val + 1 ∧ t.lsc.nextScan = s.lsc.nextScan
       ∧ (∀ k : LoopId, k ≠ l → t.lsc.loops[k] = s.lsc.loops[k])
       ∧ (let r := s.lsc.loops[l]
          let q := t.lsc.loops[l]
          let F := q.filtered
          let plain : Band :=
            if F < th.t1 then .short else if F < th.t2 then .alarm else if F < th.t3 then .normal else .openLine
          let held : Prop := match r.stable with
            | .short => F < th.t1 + th.hysteresis
            | .alarm => th.t1 ≤ F + th.hysteresis ∧ F < th.t2 + th.hysteresis
            | .normal => th.t2 ≤ F + th.hysteresis ∧ F < th.t3 + th.hysteresis
            | .openLine => th.t3 ≤ F + th.hysteresis
          q.count = n.val ∧ q.seeded = true
          ∧ F = (if r.seeded then (3 * r.filtered + n.val + 2) / 4 else n.val)
          ∧ ∃ cand : Band, (held → cand = r.stable) ∧ (¬ held → cand = plain)
            ∧ (cand = r.stable → q.stable = r.stable ∧ q.pendingBand = r.pendingBand ∧ q.pendingCount = 0)
            ∧ (cand ≠ r.stable → ∀ k, k = (if cand = r.pendingBand then r.pendingCount + 1 else 1) →
                q.pendingBand = cand
                ∧ (k = s.cfg.debounce → q.stable = cand ∧ q.pendingCount = 0)
                ∧ (k ≠ s.cfg.debounce → q.stable = r.stable ∧ q.pendingCount = k))))
  ∧ (∀ (l : LoopId) (n : Fin 1024) (s : State), s.configFault = false → s.lsc.position = l.val →
     ∃ t, exec (.loopConversion l n) s = .next t
       ∧ (let before := s.lsc.loops[l].stable
          let after := t.lsc.loops[l].stable
          let toZone : List Instr := match s.zoneFrom (.loop l.val) with
            | some z => [.zoneConditionArrival z
                (if after = .normal then .clear else if after = .alarm then .alarm else .fault)]
            | none => []
          let consumer : List Instr :=
            if s.cfg.loops[l].role = .zoneInput then toZone
            else if s.cfg.loops[l].role = .doorFeedback then [.dsqFeedbackBand l after] else []
          let openTrouble : List Instr :=
            if after = .openLine then [.troubleRaise .loopOpen l.val]
            else if before = .openLine then [.troubleClear .loopOpen l.val] else []
          let shortTrouble : List Instr :=
            if after = .short then [.troubleRaise .loopShort l.val]
            else if before = .short then [.troubleClear .loopShort l.val] else []
          leaves .lsc s.deliveries
            (if before = after then []
             else consumer ++ (if s.cfg.loops[l].role = .unused then [] else openTrouble ++ shortTrouble)) s t))

/-! ## Zones -/

/-- An arrival that is no new alarm (R13, R16, R17): the condition is recorded; NORMAL goes to FAULT, FAULT to NORMAL, PREALARM
to NORMAL with its unconfirmed count increased or to FAULT, with its timer cancelled; ALARM and ISOLATED stay. The fourth
unconfirmed return raises VERIFY BYPASSED and clears it at once. An arrival of the recorded condition changes nothing. The order of
what an arrival delivers, its ZONE FAULT event last, is the model's choice (log entry 37).

A detector to be verified, alone in PREALARM on its floor, enters PREALARM and starts its verification timer of T_v
(R14, R15); the regime becomes PREALARM unless it is ALARM (R24). That CFS is told before a standing ZONE FAULT is cleared is the
model's choice (log entry 37). -/
def Obligations.ConditionArrivalFollowsTheZoneTable : Prop :=
  (∀ (z : ZoneId) (c : Condition) (s : State), s.takes (.zoneConditionArrival z c) = true →
     s.cfg.zones[z].configured = true → regimeSound s →
     (s.rge.zones[z].condition = c →
       exec (.zoneConditionArrival z c) s = .next { s with deliveries := without s (.zoneConditionArrival z c) })
     ∧ (s.rge.zones[z].condition ≠ c →
         (c ≠ .alarm ∨ s.rge.zones[z].state = .alarm ∨ s.rge.zones[z].state = .isolated) →
         ∃ t, exec (.zoneConditionArrival z c) s = .next t
           ∧ (let r := s.rge.zones[z]
              let state : ZoneState := match r.state, c with
                | .normal, .fault => .fault
                | .prealarm, .fault => .fault
                | .prealarm, .clear => .normal
                | .fault, .clear => .normal
                | st, _ => st
              let returned : Bool := r.state = .prealarm ∧ c = .clear
              t.rge.zones[z] =
                { state := state
                  condition := c
                  unconfirmed := if returned then min 4 (r.unconfirmed + 1) else r.unconfirmed
                  timer := if r.state = .prealarm then none else r.timer }
              ∧ (∀ y : ZoneId, y ≠ z → t.rge.zones[y] = s.rge.zones[y])
              ∧ leaves .rge (without s (.zoneConditionArrival z c))
                  ((if returned ∧ r.unconfirmed = 3 then
                      [.troubleRaise .verifyBypassed z.val, .troubleClear .verifyBypassed z.val] else [])
                   ++ (if r.state = .isolated then []
                       else if c = .fault then [.troubleRaise .zoneFault z.val]
                       else if r.condition = .fault then [.troubleClear .zoneFault z.val] else [])) s t)
           ∧ zonesCounted t ∧ regimeSettled t ∧ (t.inAlarm = s.inAlarm)
           ∧ (∀ f : FloorId, t.rge.floors[f] = { s.rge.floors[f] with
                 alarmed := t.rge.floors[f].alarmed, prealarmed := t.rge.floors[f].prealarmed })
           ∧ t = { s with deliveries := t.deliveries
                          rge := { s.rge with zones := t.rge.zones, floors := t.rge.floors, regime := t.rge.regime
                                              changeCounter := t.rge.changeCounter } }))
  ∧ (∀ (z : ZoneId) (s : State), s.takes (.zoneConditionArrival z .alarm) = true →
     s.cfg.zones[z].configured = true → regimeSound s → s.rge.zones[z].condition ≠ .alarm →
     (s.rge.zones[z].state = .normal ∨ s.rge.zones[z].state = .fault) →
     s.cfg.zones[z].kind = .detector → s.cfg.zones[z].verify = true → 0 < s.cfg.tVerify →
     s.rge.zones[z].unconfirmed < 4 →
     (∀ y : ZoneId, s.cfg.zones[y].configured = true → s.cfg.zones[y].floor = s.cfg.zones[z].floor →
       s.rge.zones[y].state ≠ .prealarm) →
     ∃ t, exec (.zoneConditionArrival z .alarm) s = .next t
       ∧ t.rge.zones[z] = { s.rge.zones[z] with
           condition := .alarm, state := .prealarm, timer := some (s.now + s.cfg.tVerify * 1000) }
       ∧ (∀ y : ZoneId, y ≠ z → t.rge.zones[y] = s.rge.zones[y])
       ∧ t.rge.regime = (if s.inAlarm then .alarm else .prealarm)
       ∧ zonesCounted t
       ∧ (∀ f : FloorId, t.rge.floors[f] = { s.rge.floors[f] with
             alarmed := t.rge.floors[f].alarmed, prealarmed := t.rge.floors[f].prealarmed })
       ∧ leaves .rge (without s (.zoneConditionArrival z .alarm))
           (.cfsRegimeDelivery .prealarm
             :: if s.rge.zones[z].condition = .fault then [.troubleClear .zoneFault z.val] else []) s t
       ∧ t = { s with deliveries := t.deliveries
                      rge := { s.rge with zones := t.rge.zones, floors := t.rge.floors, regime := t.rge.regime
                                          changeCounter := t.rge.changeCounter } })

/-- A zone enters ALARM: at the expiry of its verification timer, or at an alarm that is not verified or that meets another
PREALARM zone on its floor (R13, R14, R15). Every zone that alarms with it latches; the acknowledged flag becomes no and
silence ends (R26); the floor joins the list with its origin flag (R23); the regime enters ALARM (R25) with the floors around
the list and the always-evacuate floors in EVACUATE and the expansion timer started (R31), or takes a new origin floor (R32);
the alert set is recomputed (R30); LFC, and at an entry the five other blocks, are told (R45). A floor above the top
floor index, which only an image placed from outside gives a zone, joins the list too: the model's choice (log entry 45). -/
def Obligations.NewAlarmRaisesTheRegime : Prop :=
  ∀ (z : ZoneId) (f : FloorId) (s : State) (c : Instr), regimeSound s → s.configFault = false →
    s.cfg.zones[z].configured = true → s.cfg.zones[z].floor = f.val →
    ((c = .verificationTimerExpiry z ∧ s.due s.rge.zones[z].timer = true)
      ∨ (c = .zoneConditionArrival z .alarm ∧ s.takes c = true ∧ s.rge.zones[z].condition ≠ .alarm
          ∧ (s.rge.zones[z].state = .normal ∨ s.rge.zones[z].state = .fault)
          ∧ (s.cfg.zones[z].kind ≠ .detector ∨ s.cfg.zones[z].verify = false ∨ s.cfg.tVerify = 0
              ∨ 4 ≤ s.rge.zones[z].unconfirmed
              ∨ ∃ y : ZoneId, s.cfg.zones[y].configured = true ∧ s.cfg.zones[y].floor = f.val
                  ∧ s.rge.zones[y].state = .prealarm))) →
    ∃ t, exec c s = .next t
      ∧ (∀ y : ZoneId, alarmsWith z y s →
          t.rge.zones[y] = { s.rge.zones[y] with state := .alarm, condition := .alarm, timer := none })
      ∧ (∀ y : ZoneId, ¬ alarmsWith z y s → t.rge.zones[y] = s.rge.zones[y])
      ∧ zonesCounted t
      ∧ t.rge.regime = .alarm ∧ t.rge.acknowledged = false ∧ t.rge.silence = none
      ∧ t.rge.evacuateAll = s.rge.evacuateAll ∧ t.rge.expansionHold = s.rge.expansionHold ∧ t.rge.manual = s.rge.manual
      ∧ t.rge.firstAlarms = (if f ∈ s.rge.firstAlarms then s.rge.firstAlarms else s.rge.firstAlarms ++ [f])
      ∧ (∀ g : FloorId, t.rge.floors[g].origin =
          (s.rge.floors[g].origin || decide (g = f ∧ f ∉ s.rge.firstAlarms)))
      ∧ (∀ g : FloorId, t.rge.floors[g].impaired = s.rge.floors[g].impaired)
      ∧ (s.inAlarm = false →
          t.rge.stepCount = 0 ∧ t.elapsed = 0
          ∧ spreads (fun g => near 1 g f = true ∨ s.cfg.floors[g].alwaysEvacuate = true) s t
          ∧ t.rge.expansionTimer = (if t.allEvacuated then none else some (s.now + s.cfg.tPhase * 1000)))
      ∧ (s.inAlarm = true →
          t.rge.stepCount = s.rge.stepCount ∧ t.elapsed = s.elapsed
          ∧ t.rge.expansionTimer = (if t.allEvacuated then none else s.rge.expansionTimer)
          ∧ (f ∉ s.rge.firstAlarms → spreads (fun g => near 1 g f = true) s t)
          ∧ (f ∈ s.rge.firstAlarms → ∀ g : FloorId, t.rge.floors[g].phase = s.rge.floors[g].phase
              ∧ t.rge.floors[g].entryTime = s.rge.floors[g].entryTime))
      ∧ (∃ news, t.deliveries = (if c = .verificationTimerExpiry z then s.deliveries else without s c) ++ news
          ∧ (∀ y : ZoneId, .lfcZoneAlarm y ∈ news ↔ alarmsWith z y s)
          ∧ (∀ e ∈ [Instr.lfcAlarmEntry, .tnqAlarmFlush, .cueAlarmEntry, .chrAlarmEntry, .cfsRegimeDelivery .alarm],
              e ∈ news ↔ s.inAlarm = false)
          ∧ (.dsqListAppend f ∈ news ↔ f ∉ s.rge.firstAlarms) ∧ (.chrListAppend f ∈ news ↔ f ∉ s.rge.firstAlarms)
          ∧ (∀ fs, .dsqPhaseChange fs ∈ news ↔ fs = phaseNews s t ∧ fs ≠ [])
          ∧ (∀ fs, .cuePhaseChange fs ∈ news ↔ fs = phaseNews s t ∧ fs ≠ [])
          ∧ (.cueSilenceChange ∈ news ↔ s.rge.silence ≠ none))
      ∧ t.rge.changeCounter = s.rge.changeCounter + 1
      ∧ t = { s with rge := t.rge, deliveries := t.deliveries }

/-- A ZONE REPORT from a FIRE PANEL port is answered with the numbers of its accepted and ignored entries. Its entries are taken in
order within one event of RGE: each accepted one is an arrival at its zone by the table of R13, with the tests of R14 and R15,
the unconfirmed return of R16 and the ZONE FAULT of R17; then the floor counts, the regime and the deliveries follow (R11,
R21, R24, R45; the order of one event's deliveries and troubles is the model's choice, log entries 19, 26 and 37, and so is the zone
of a source that several configured zones share, log entry 38). Each zone named keeps the condition of the
last entry that names it. -/
def Obligations.ZoneReportRecordsItsEntries : Prop :=
  ∀ (p : PortId) (body : List Byte) (s : State), canAsk p .rge s → s.role p = .firePanel →
    body.length % 2 = 0 → body.length ≤ 56 →
    ∃ t, exec (.zoneReport p body) s = .next t ∧ rgeServed p s t
      ∧ (let names := fun (e : Byte × Byte) => (s.zoneFrom (.link p.val e.1.toNat)).isSome && decide (e.2.toNat ≤ 2)
         let accepted := ((zoneEntries body).filter names).length
         answers p ⟨0x82, [byteOf accepted, byteOf (body.length / 2 - accepted)]⟩ s t)
      ∧ (∃ u, reportApplied p (zoneEntries body)
            { s with links := t.links, cfs := t.cfs, deliveries := withFrame p s } u ∧ regimeEnds s u t)
      ∧ ∀ y : ZoneId,
          let mine := (zoneEntries body).filter fun e =>
            s.zoneFrom (.link p.val e.1.toNat) == some y && decide (e.2.toNat ≤ 2)
          t.rge.zones[y].condition = match mine.getLast? with
            | some e => if e.2.toNat = 0 then .clear else if e.2.toNat = 1 then .alarm else .fault
            | none => s.rge.zones[y].condition

/-- The loss of a FIRE PANEL port: condition FAULT arrives at every configured zone with a source on that port; zones in ALARM
and ISOLATED stay, the others enter FAULT with their timers cancelled; ZONE FAULT is raised for each that is not ISOLATED
(R12, R13, R17). -/
def Obligations.PanelLossFaultsItsZones : Prop :=
  ∀ (p : PortId) (s : State), s.takes (.rgePanelLoss p) = true → regimeSound s →
    ∃ t, exec (.rgePanelLoss p) s = .next t
      ∧ (∀ z : ZoneId,
          let r := s.rge.zones[z]
          let hit : Prop := s.cfg.zones[z].configured = true ∧ (∃ q, s.cfg.zones[z].source = .link p.val q)
            ∧ r.condition ≠ .fault
          (hit → t.rge.zones[z] =
              { r with
                condition := .fault
                state := if r.state = .alarm ∨ r.state = .isolated then r.state else .fault
                timer := if r.state = .prealarm then none else r.timer })
          ∧ (¬ hit → t.rge.zones[z] = r)
          ∧ (.troubleRaise .zoneFault z.val ∈ t.deliveries.drop (s.deliveries.length - 1)
              ↔ hit ∧ r.state ≠ .isolated))
      ∧ zonesCounted t ∧ regimeSettled t
      ∧ (∀ f : FloorId, t.rge.floors[f].phase = s.rge.floors[f].phase)
      ∧ t = { s with deliveries := t.deliveries
                     rge := { s.rge with zones := t.rge.zones, floors := t.rge.floors, regime := t.rge.regime
                                         changeCounter := t.rge.changeCounter } }

/-- ISOLATE ZONE (R18): refused RANGE for a zone that is not configured, AUTHORITY for a FIRE PANEL port and a zone on another
port's link, STATE for a zone in ALARM; else the zone is ISOLATED with its timer cancelled, ZONE ISOLATED is raised and a
standing ZONE FAULT cleared; an ISOLATED zone is left as it is. ZONE
ISOLATED is raised before ZONE FAULT is cleared: the model's choice (log entry 37).

RESTORE ZONE (R19): the checks of ISOLATE ZONE, then STATE unless the zone is ISOLATED; else ZONE ISOLATED is cleared, the
zone enters NORMAL and its recorded condition is applied anew in the same event: CLEAR leaves NORMAL, FAULT gives FAULT and
raises ZONE FAULT, ALARM gives PREALARM or ALARM by the tests of R14 and R15 (the order of one
event's deliveries and troubles is the model's choice, log entries 19 and 37). -/
def Obligations.IsolateAndRestoreAreDecidedInOrder : Prop :=
  (∀ (p : PortId) (n : Byte) (s : State), canAsk p .rge s → regimeSound s →
     (s.role p = .commandStation ∨ s.role p = .firePanel) →
     ∃ t, exec (.isolateZone p [n]) s = .next t ∧ rgeServed p s t
       ∧ (let onlyAnswered := fun (code : Byte) =>
            answers p ⟨0x83, [9, code]⟩ s t ∧ leaves .rge (withFrame p s) [] s t
            ∧ t.rge = { s.rge with changeCounter := t.rge.changeCounter }
          ((∀ z : ZoneId, z.val = n.toNat → s.cfg.zones[z].configured = false) → onlyAnswered 5)
          ∧ ∀ z : ZoneId, z.val = n.toNat → s.cfg.zones[z].configured = true →
             let foreign : Prop := s.role p = .firePanel ∧ ∃ q k, s.cfg.zones[z].source = .link q k ∧ q ≠ p.val
             (foreign → onlyAnswered 3)
             ∧ (¬ foreign → s.rge.zones[z].state = .alarm → onlyAnswered 4)
             ∧ (¬ foreign → s.rge.zones[z].state = .isolated → onlyAnswered 0)
             ∧ (¬ foreign → s.rge.zones[z].state ≠ .alarm → s.rge.zones[z].state ≠ .isolated →
                 answers p ⟨0x83, [9, 0]⟩ s t
                 ∧ t.rge.zones[z] = { s.rge.zones[z] with state := .isolated, timer := none }
                 ∧ (∀ y : ZoneId, y ≠ z → t.rge.zones[y] = s.rge.zones[y])
                 ∧ zonesCounted t ∧ regimeSettled t
                 ∧ (∀ f : FloorId, t.rge.floors[f].phase = s.rge.floors[f].phase)
                 ∧ leaves .rge (withFrame p s)
                     (.troubleRaise .zoneIsolated z.val
                       :: if s.rge.zones[z].condition = .fault then [.troubleClear .zoneFault z.val] else []) s t)))
  ∧ (∀ (p : PortId) (n : Byte) (s : State), canAsk p .rge s → regimeSound s →
     (s.role p = .commandStation ∨ s.role p = .firePanel) →
     ∃ t, exec (.restoreZone p [n]) s = .next t ∧ rgeServed p s t
       ∧ (let onlyAnswered := fun (code : Byte) =>
            answers p ⟨0x83, [10, code]⟩ s t ∧ leaves .rge (withFrame p s) [] s t
            ∧ t.rge = { s.rge with changeCounter := t.rge.changeCounter }
          ((∀ z : ZoneId, z.val = n.toNat → s.cfg.zones[z].configured = false) → onlyAnswered 5)
          ∧ ∀ z : ZoneId, z.val = n.toNat → s.cfg.zones[z].configured = true →
             let foreign : Prop := s.role p = .firePanel ∧ ∃ q k, s.cfg.zones[z].source = .link q k ∧ q ≠ p.val
             let r := s.rge.zones[z]
             (foreign → onlyAnswered 3)
             ∧ (¬ foreign → r.state ≠ .isolated → onlyAnswered 4)
             ∧ (¬ foreign → r.state = .isolated →
                 answers p ⟨0x83, [10, 0]⟩ s t
                 ∧ ∃ u, conditionApplied z r.condition
                     { s with
                       links := t.links, cfs := t.cfs
                       rge := { s.rge with zones := s.rge.zones.set z.val { r with state := .normal } z.isLt }
                       deliveries := withFrame p s ++ [.troubleClear .zoneIsolated z.val] } u
                   ∧ regimeEnds s { u with deliveries := u.deliveries ++
                       (if r.condition = .fault then [.troubleRaise .zoneFault z.val] else []) } t)))

/-- Three writes that RGE takes: the removal of a VERIFY BYPASSED entry sets the zone's unconfirmed count to 0 and nothing else
(R16); a re-entry impaired flag is stored (R21, R82); an increase raises the change counter by 1, wrapping, and nothing else
(R46). -/
def Obligations.RgeStoresWhatOtherBlocksDeliver : Prop :=
  ∀ s : State, regimeSound s →
    (∀ z : ZoneId, s.takes (.verifyBypassedRemoval z) = true →
      ∃ t, exec (.verifyBypassedRemoval z) s = .next t
        ∧ t.rge = { s.rge with
            zones := s.rge.zones.set z.val { s.rge.zones[z] with unconfirmed := 0 } z.isLt
            changeCounter := t.rge.changeCounter }
        ∧ leaves .rge (without s (.verifyBypassedRemoval z)) [] s t
        ∧ t = { s with rge := t.rge, deliveries := t.deliveries })
    ∧ (∀ (f : FloorId) (v : Bool), s.takes (.reentryImpairedWrite f v) = true →
      ∃ t, exec (.reentryImpairedWrite f v) s = .next t
        ∧ t.rge = { s.rge with
            floors := s.rge.floors.set f.val { s.rge.floors[f] with impaired := v } f.isLt
            changeCounter := t.rge.changeCounter }
        ∧ leaves .rge (without s (.reentryImpairedWrite f v)) [] s t
        ∧ t = { s with rge := t.rge, deliveries := t.deliveries })
    ∧ (∀ a : Agent, s.takes (.changeCounterIncrease a) = true →
      exec (.changeCounterIncrease a) s = .next { s with
        deliveries := without s (.changeCounterIncrease a)
        rge := { s.rge with changeCounter := s.rge.changeCounter + 1 } })

/-! ## The fire regime -/

/-- ACKNOWLEDGE (R35) is taken in every regime state: in ALARM the acknowledged flag becomes yes, else it stays no, and the
Trouble List is told.

SILENCE (R36): refused STATE unless the regime is ALARM and acknowledged; else the silence holding stands at the higher of
its level and the port's (R29), and CUE is told when it was absent (R45). -/
def Obligations.AcknowledgeAndSilenceNeedTheirStates : Prop :=
  (∀ (p : PortId) (s : State), canAsk p .rge s → regimeSound s →
     (s.role p = .commandStation ∨ s.role p = .firePanel) →
     ∃ t, exec (.acknowledge p []) s = .next t ∧ rgeServed p s t ∧ answers p ⟨0x83, [1, 0]⟩ s t
       ∧ t.rge = { s.rge with acknowledged := s.inAlarm, changeCounter := t.rge.changeCounter }
       ∧ leaves .rge (withFrame p s) [.trlAcknowledge] s t)
  ∧ (∀ (p : PortId) (s : State), canAsk p .rge s → regimeSound s →
     (s.role p = .commandStation ∨ s.role p = .firePanel) →
     ∃ t, exec (.silence p []) s = .next t ∧ rgeServed p s t
       ∧ (¬ (s.inAlarm = true ∧ s.rge.acknowledged = true) →
           answers p ⟨0x83, [2, 4]⟩ s t ∧ leaves .rge (withFrame p s) [] s t
           ∧ t.rge = { s.rge with changeCounter := t.rge.changeCounter })
       ∧ (s.inAlarm = true → s.rge.acknowledged = true →
           answers p ⟨0x83, [2, 0]⟩ s t
           ∧ leaves .rge (withFrame p s) (if s.rge.silence = none then [.cueSilenceChange] else []) s t
           ∧ t.rge = { s.rge with
               silence := some (max (s.rge.silence.getD 0) (if s.role p = .commandStation then 3 else 2))
               changeCounter := t.rge.changeCounter }))

/-- RESOUND is refused STATE when the silence holding is absent, and refused AUTHORITY when the requester's level is below the
silence setter level; an accepted one clears the holding, tells CUE, and leaves the acknowledged flag (R37). -/
def Obligations.ResoundClearsSilence : Prop :=
  ∀ (p : PortId) (s : State), canAsk p .rge s → regimeSound s →
    (s.role p = .commandStation ∨ s.role p = .firePanel) →
    ∃ t, exec (.resound p []) s = .next t ∧ rgeServed p s t
      ∧ (s.rge.silence = none →
          answers p ⟨0x83, [3, 4]⟩ s t ∧ leaves .rge (withFrame p s) [] s t
          ∧ t.rge = { s.rge with changeCounter := t.rge.changeCounter })
      ∧ (∀ setter, s.rge.silence = some setter → (if s.role p = .commandStation then 3 else 2) < setter →
          answers p ⟨0x83, [3, 3]⟩ s t ∧ leaves .rge (withFrame p s) [] s t
          ∧ t.rge = { s.rge with changeCounter := t.rge.changeCounter })
      ∧ (∀ setter, s.rge.silence = some setter → setter ≤ (if s.role p = .commandStation then 3 else 2) →
          answers p ⟨0x83, [3, 0]⟩ s t ∧ leaves .rge (withFrame p s) [.cueSilenceChange] s t
          ∧ t.rge = { s.rge with silence := none, changeCounter := t.rge.changeCounter })

/-- EVACUATE ALL (R38) is accepted in every regime state: every floor of the configured range is in EVACUATE with its entry
time, the holding stands at the higher level, the expansion timer is stopped; outside ALARM it first takes the regime to ALARM
with an empty list (R25), and the five blocks are told (R45). The order of the deliveries within the event, CUE being told of
the entry before the phases, is log entry 19. -/
def Obligations.EvacuateAllRaisesEveryFloor : Prop :=
  ∀ (p : PortId) (s : State), canAsk p .rge s → regimeSound s →
    (s.role p = .commandStation ∨ s.role p = .firePanel) →
    ∃ t, exec (.evacuateAll p []) s = .next t ∧ rgeServed p s t ∧ answers p ⟨0x83, [5, 0]⟩ s t
      ∧ t.rge.regime = .alarm ∧ t.rge.expansionTimer = none
      ∧ t.rge.evacuateAll = some (max (s.rge.evacuateAll.getD 0) (if s.role p = .commandStation then 3 else 2))
      ∧ (∀ f : FloorId, t.rge.floors[f] =
          if s.inRange f.val = true ∧ s.rge.floors[f].phase ≠ .evacuate then
            { s.rge.floors[f] with phase := .evacuate, entryTime := t.elapsed }
          else s.rge.floors[f])
      ∧ (s.inAlarm = false → t.elapsed = 0 ∧ t.rge.stepCount = 0)
      ∧ (s.inAlarm = true → t.elapsed = s.elapsed ∧ t.rge.stepCount = s.rge.stepCount)
      ∧ t.rge = { s.rge with
          regime := t.rge.regime, expansionTimer := t.rge.expansionTimer, evacuateAll := t.rge.evacuateAll
          floors := t.rge.floors, elapsedBase := t.rge.elapsedBase, elapsedFrom := t.rge.elapsedFrom
          stepCount := t.rge.stepCount, changeCounter := t.rge.changeCounter }
      ∧ (let raised := ((List.finRange 32).filter fun f =>
           s.inRange f.val && s.rge.floors[f].phase != .evacuate).map fun f => (f, Phase.evacuate)
         leaves .rge (withFrame p s)
           ((if s.inAlarm then []
             else [.lfcAlarmEntry, .tnqAlarmFlush, .cueAlarmEntry, .chrAlarmEntry, .cfsRegimeDelivery .alarm])
            ++ (if raised = [] then [] else [.dsqPhaseChange raised, .cuePhaseChange raised])) s t)

/-- CANCEL EVACUATE ALL and RELEASE EXPANSION clear a holding by the rule of R29: STATE when it is absent, AUTHORITY below its
setter level. A cancel leaves the floors and the timer (R38); a release starts the timer with a full T_p if it may run (R39).

HOLD EXPANSION and TAKE MANUAL CONTROL are refused STATE unless the regime is ALARM; accepted, they set their holding and
stop the expansion timer (R33, R39, R40). TAKE MANUAL CONTROL under manual control changes nothing. -/
def Obligations.HoldingsAreSetAndClearedByAuthority : Prop :=
  (∀ (p : PortId) (s : State), canAsk p .rge s → regimeSound s →
     (s.role p = .commandStation ∨ s.role p = .firePanel) →
     (∃ t, exec (.cancelEvacuateAll p []) s = .next t ∧ rgeServed p s t ∧ leaves .rge (withFrame p s) [] s t
       ∧ (let level := if s.role p = .commandStation then 3 else 2
          let untouched := t.rge = { s.rge with changeCounter := t.rge.changeCounter }
          (s.rge.evacuateAll = none → answers p ⟨0x83, [6, 4]⟩ s t ∧ untouched)
          ∧ ∀ setter, s.rge.evacuateAll = some setter →
             (level < setter → answers p ⟨0x83, [6, 3]⟩ s t ∧ untouched)
             ∧ (setter ≤ level → answers p ⟨0x83, [6, 0]⟩ s t
                 ∧ t.rge = { s.rge with evacuateAll := none, changeCounter := t.rge.changeCounter })))
     ∧ (∃ t, exec (.releaseExpansion p []) s = .next t ∧ rgeServed p s t ∧ leaves .rge (withFrame p s) [] s t
       ∧ (let level := if s.role p = .commandStation then 3 else 2
          let untouched := t.rge = { s.rge with changeCounter := t.rge.changeCounter }
          (s.rge.expansionHold = none → answers p ⟨0x83, [8, 4]⟩ s t ∧ untouched)
          ∧ ∀ setter, s.rge.expansionHold = some setter →
             (level < setter → answers p ⟨0x83, [8, 3]⟩ s t ∧ untouched)
             ∧ (setter ≤ level → answers p ⟨0x83, [8, 0]⟩ s t
                 ∧ t.rge = { s.rge with
                     expansionHold := none
                     expansionTimer :=
                       if s.rge.manual = none ∧ s.allEvacuated = false then some (s.now + s.cfg.tPhase * 1000) else none
                     changeCounter := t.rge.changeCounter }))))
  ∧ (∀ (p : PortId) (s : State), canAsk p .rge s → regimeSound s →
     ((s.role p = .commandStation ∨ s.role p = .firePanel) →
       ∃ t, exec (.holdExpansion p []) s = .next t ∧ rgeServed p s t ∧ leaves .rge (withFrame p s) [] s t
         ∧ (s.inAlarm = false → answers p ⟨0x83, [7, 4]⟩ s t
             ∧ t.rge = { s.rge with changeCounter := t.rge.changeCounter })
         ∧ (s.inAlarm = true → answers p ⟨0x83, [7, 0]⟩ s t
             ∧ t.rge = { s.rge with
                 expansionHold := some (max (s.rge.expansionHold.getD 0) (if s.role p = .commandStation then 3 else 2))
                 expansionTimer := none, changeCounter := t.rge.changeCounter }))
     ∧ (s.role p = .commandStation →
       ∃ t, exec (.takeManualControl p []) s = .next t ∧ rgeServed p s t ∧ leaves .rge (withFrame p s) [] s t
         ∧ (s.inAlarm = false → answers p ⟨0x83, [11, 4]⟩ s t
             ∧ t.rge = { s.rge with changeCounter := t.rge.changeCounter })
         ∧ (s.inAlarm = true → answers p ⟨0x83, [11, 0]⟩ s t
             ∧ (s.rge.manual ≠ none → t.rge = { s.rge with changeCounter := t.rge.changeCounter })
             ∧ (s.rge.manual = none → t.rge = { s.rge with
                 manual := some 3, expansionTimer := none, changeCounter := t.rge.changeCounter }))))

/-- SET FLOOR PHASE (R41): RANGE for a floor outside the range or a phase code above 2; then STATE without manual control or
below the floor's phase; else the floor stands at the phase, and no other floor changes.

Manual control ends by RETURN TO AUTOMATIC or by the loss of the command station: the alert set is recomputed from the
evacuate set, and the expansion timer starts with a full T_p if it may run (R42). Without manual control the command is
refused STATE and the loss changes nothing. -/
def Obligations.ManualControlRaisesFloorsAndEnds : Prop :=
  (∀ (p : PortId) (n code : Byte) (s : State), canAsk p .rge s → regimeSound s → s.role p = .commandStation →
     ∃ t, exec (.setFloorPhase p [n, code]) s = .next t ∧ rgeServed p s t
       ∧ (let onlyAnswered := fun (reason : Byte) =>
            answers p ⟨0x83, [12, reason]⟩ s t ∧ leaves .rge (withFrame p s) [] s t
            ∧ t.rge = { s.rge with changeCounter := t.rge.changeCounter }
          (s.cfg.topFloor < n.toNat ∨ 31 < n.toNat ∨ 2 < code.toNat → onlyAnswered 5)
          ∧ ∀ (f : FloorId) (q : Phase), f.val = n.toNat → n.toNat ≤ s.cfg.topFloor → phaseRank q = code.toNat →
             (s.rge.manual = none ∨ phaseRank q < phaseRank s.rge.floors[f].phase → onlyAnswered 4)
             ∧ (s.rge.manual ≠ none → q = s.rge.floors[f].phase → onlyAnswered 0)
             ∧ (s.rge.manual ≠ none → phaseRank s.rge.floors[f].phase < phaseRank q →
                 answers p ⟨0x83, [12, 0]⟩ s t
                 ∧ t.rge = { s.rge with
                     floors := s.rge.floors.set f.val { s.rge.floors[f] with phase := q, entryTime := s.elapsed } f.isLt
                     changeCounter := t.rge.changeCounter }
                 ∧ leaves .rge (withFrame p s) [.dsqPhaseChange [(f, q)], .cuePhaseChange [(f, q)]] s t)))
  ∧ (∀ (p : PortId) (s : State), regimeSound s →
     (let ended := fun (t : State) =>
        spreads (fun _ => False) s t ∧ t.rge = { s.rge with
          manual := none
          floors := t.rge.floors
          expansionTimer :=
            if s.rge.expansionHold = none ∧ s.allEvacuated = false then some (s.now + s.cfg.tPhase * 1000) else none
          changeCounter := t.rge.changeCounter }
      let raised := fun (t : State) => phaseDeliveries (phaseNews s t)
      (canAsk p .rge s → s.role p = .commandStation →
         ∃ t, exec (.returnToAutomatic p []) s = .next t ∧ rgeServed p s t
           ∧ (s.rge.manual = none → answers p ⟨0x83, [13, 4]⟩ s t ∧ leaves .rge (withFrame p s) [] s t
               ∧ t.rge = { s.rge with changeCounter := t.rge.changeCounter })
           ∧ (s.rge.manual ≠ none → answers p ⟨0x83, [13, 0]⟩ s t ∧ ended t
               ∧ leaves .rge (withFrame p s) (raised t) s t))
      ∧ (s.takes (.rgeCommandStationLoss p) = true →
         ∃ t, exec (.rgeCommandStationLoss p) s = .next t ∧ t = { s with rge := t.rge, deliveries := t.deliveries }
           ∧ (s.rge.manual = none → leaves .rge (without s (.rgeCommandStationLoss p)) [] s t ∧ t.rge = s.rge)
           ∧ (s.rge.manual ≠ none → ended t ∧ leaves .rge (without s (.rgeCommandStationLoss p)) (raised t) s t))))

/-- REGIME RESET (R43): STATE in NORMAL; STATE while a configured zone that is not ISOLATED has condition ALARM, so always in
PREALARM; AUTHORITY below a setter level; else the effects of R44, and the four blocks are told. The list and
the origin flags are cleared together (R23). That the reset is delivered before the phase changes and the change of silence of its
event is the model's inference (log entry 24): R45 gives no order. -/
def Obligations.RegimeResetReturnsToNormal : Prop :=
  ∀ (p : PortId) (s : State), canAsk p .rge s → regimeSound s →
    (s.role p = .commandStation ∨ s.role p = .firePanel) →
    ∃ t, exec (.regimeReset p []) s = .next t ∧ rgeServed p s t
      ∧ (let onlyAnswered := fun (reason : Byte) =>
           answers p ⟨0x83, [4, reason]⟩ s t ∧ leaves .rge (withFrame p s) [] s t
           ∧ t.rge = { s.rge with changeCounter := t.rge.changeCounter }
         let level := if s.role p = .commandStation then 3 else 2
         let conditionPresent : Prop := ∃ z : ZoneId, s.cfg.zones[z].configured = true
           ∧ s.rge.zones[z].state ≠ .isolated ∧ s.rge.zones[z].condition = .alarm
         let outranked : Prop := ∃ h ∈ [s.rge.silence, s.rge.evacuateAll, s.rge.expansionHold, s.rge.manual],
           ∃ setter, h = some setter ∧ level < setter
         (s.rge.regime = .normal → onlyAnswered 4)
         ∧ (s.rge.regime = .prealarm → onlyAnswered 4)
         ∧ (conditionPresent → onlyAnswered 4)
         ∧ (s.rge.regime ≠ .normal → ¬ conditionPresent → outranked → onlyAnswered 3)
         ∧ (s.rge.regime ≠ .normal → ¬ conditionPresent → ¬ outranked →
             answers p ⟨0x83, [4, 0]⟩ s t
             ∧ (∀ z : ZoneId, t.rge.zones[z] =
                 if s.rge.zones[z].state = .alarm then
                   { s.rge.zones[z] with
                     state := if s.rge.zones[z].condition = .fault then .fault else .normal, timer := none }
                 else s.rge.zones[z])
             ∧ (∀ f : FloorId, s.inRange f.val = true → t.rge.floors[f] =
                 { s.rge.floors[f] with phase := .quiet, entryTime := 0, origin := false
                                        alarmed := 0, prealarmed := 0 })
             ∧ (∀ f : FloorId, t.rge.floors[f].origin = false)
             ∧ t.rge.firstAlarms = [] ∧ t.rge.regime = .normal ∧ t.rge.acknowledged = false
             ∧ t.rge.silence = none ∧ t.rge.evacuateAll = none ∧ t.rge.expansionHold = none ∧ t.rge.manual = none
             ∧ t.rge.stepCount = 0 ∧ t.elapsed = 0 ∧ t.rge.expansionTimer = none
             ∧ ∃ more, t.deliveries =
                 withFrame p s ++ [.dsqRegimeReset, .lfcRegimeReset, .cueRegimeReset, .chrRegimeReset] ++ more))

/-- The expiry of the expansion timer (R34): every evacuate floor spreads by one floor each way, the alert set is recomputed,
the step count rises to at most 31, and the timer restarts with a full T_p unless every floor of the range is in EVACUATE. -/
def Obligations.ExpansionSpreadsByOneFloor : Prop :=
  ∀ s : State, regimeSound s → s.due s.rge.expansionTimer = true →
    ∃ t, exec .expansionTimerExpiry s = .next t
      ∧ spreads (fun f => ∃ g : FloorId, s.inRange g.val = true ∧ evacuating s g ∧ near 1 f g = true) s t
      ∧ t.rge = { s.rge with
          floors := t.rge.floors
          stepCount := min 31 (s.rge.stepCount + 1)
          expansionTimer := if t.allEvacuated then none else some (s.now + s.cfg.tPhase * 1000)
          changeCounter := t.rge.changeCounter }
      ∧ leaves .rge s.deliveries (phaseDeliveries (phaseNews s t)) s t
      ∧ t = { s with rge := t.rge, deliveries := t.deliveries }

/-! ## Lifts -/

/-- A newly alarmed zone at a bank whose flag it carries (R52, R53, R57 to R61): a lobby detector recalls and, on the
designated landing, tests the landing again; a shaft detector recalls and sets the lamp FLASHING; a shaft sprinkler shuts the
bank down, and trips it at once when its fresh cars are parked in ALARM. Other kinds and other banks are not touched, nor is
any car. -/
def Obligations.ZoneAlarmActsOnFlaggedBanks : Prop :=
  ∀ (z : ZoneId) (s : State), s.takes (.lfcZoneAlarm z) = true →
    ∃ t, exec (.lfcZoneAlarm z) s = .next t ∧ t = { s with lfc := t.lfc, deliveries := t.deliveries }
      ∧ leaves .lfc (without s (.lfcZoneAlarm z)) [] s t ∧ t.lfc.cars = s.lfc.cars
      ∧ ∀ b : BankId,
          let r := s.lfc.banks[b]
          let q := t.lfc.banks[b]
          let flagged : Prop := s.cfg.banks[b].configured = true
            ∧ (if b = 0 then s.cfg.zones[z].flagA else s.cfg.zones[z].flagB) = true
          let lobbyAlarm := fun (floor : Nat) => ∃ y : ZoneId, s.cfg.zones[y].configured = true
            ∧ s.cfg.zones[y].kind = .lobbyDetector
            ∧ (if b = 0 then s.cfg.zones[y].flagA else s.cfg.zones[y].flagB) = true
            ∧ s.cfg.zones[y].floor = floor ∧ s.rge.zones[y].state = .alarm
          let tested := fun (l : Landing) => (l = .alternate ↔
            lobbyAlarm s.cfg.banks[b].designated ∧ ¬ lobbyAlarm s.cfg.banks[b].alternate)
          let parked : Prop := (∃ c ∈ s.slotsOf b, s.lfc.cars[c].stale = false)
            ∧ ∀ c ∈ s.slotsOf b, s.lfc.cars[c].stale = false →
                (s.lfc.cars[c].mode = .atRecallLanding ∧ s.lfc.cars[c].doors = .openDoors)
                ∨ s.lfc.cars[c].mode = .outOfService
          let recalled : Prop := q.order = (if r.order = .none then .recall else r.order)
            ∧ q.phaseII = r.phaseII ∧ q.timer = r.timer ∧ q.link = r.link
          (¬ flagged → q = r)
          ∧ (flagged → s.cfg.zones[z].kind = .lobbyDetector →
              recalled ∧ q.reasons = { r.reasons with lobby := true } ∧ q.flashing = r.flashing
              ∧ (r.order = .none ∨ (r.landing = .designated
                    ∧ s.cfg.zones[z].floor = s.cfg.banks[b].designated) → tested q.landing)
              ∧ (r.order ≠ .none → (r.landing = .alternate
                    ∨ s.cfg.zones[z].floor ≠ s.cfg.banks[b].designated) → q.landing = r.landing))
          ∧ (flagged → s.cfg.zones[z].kind = .shaftDetector →
              recalled ∧ q.reasons = { r.reasons with shaft := true }
              ∧ (r.order = .none → tested q.landing) ∧ (r.order ≠ .none → q.landing = r.landing)
              ∧ q.flashing = true
              ∧ (r.flashing = true → q.lampOn = r.lampOn ∧ q.lampNext = r.lampNext)
              ∧ (r.flashing = false → q.lampOn = true ∧ q.lampNext = some (s.now + 500)))
          ∧ (flagged → s.cfg.zones[z].kind = .shaftSprinkler →
              q.reasons = { r.reasons with sprinkler := true } ∧ q.flashing = r.flashing ∧ q.link = r.link
              ∧ (r.order = .none → tested q.landing) ∧ (r.order ≠ .none → q.landing = r.landing)
              ∧ (r.order = .shutdown ∨ r.order = .tripped →
                  q.order = r.order ∧ q.timer = r.timer ∧ q.phaseII = r.phaseII)
              ∧ (r.order = .none ∨ r.order = .recall →
                  (parked ∧ s.inAlarm = true → q.order = .tripped ∧ q.timer = none ∧ q.phaseII = false)
                  ∧ (¬ (parked ∧ s.inAlarm = true) →
                      q.order = .shutdown ∧ q.timer = some (s.now + s.cfg.tShutdown * 1000)
                      ∧ q.phaseII = r.phaseII)))
          ∧ (s.cfg.zones[z].kind = .detector ∨ s.cfg.zones[z].kind = .callPoint
              ∨ s.cfg.zones[z].kind = .flowSwitch → q = r)

/-- When RGE delivers the entry of the regime to ALARM, LFC raises the order of each configured bank whose recall on general
alarm is yes to at least RECALL with reason GENERAL; another bank is not affected (R54). -/
def Obligations.AlarmEntryRecallsGeneralBanks : Prop :=
  ∀ s : State, s.takes .lfcAlarmEntry = true →
    ∃ t, exec .lfcAlarmEntry s = .next t ∧ t = { s with lfc := t.lfc, deliveries := t.deliveries }
      ∧ leaves .lfc (without s .lfcAlarmEntry) [] s t ∧ t.lfc.cars = s.lfc.cars
      ∧ ∀ b : BankId,
          let r := s.lfc.banks[b]
          (¬ (s.cfg.banks[b].configured = true ∧ s.cfg.banks[b].recallOnGeneral = true) → t.lfc.banks[b] = r)
          ∧ (s.cfg.banks[b].configured = true → s.cfg.banks[b].recallOnGeneral = true →
              t.lfc.banks[b] = { r with
                order := if r.order = .none then .recall else r.order
                landing := if r.order = .none then s.landingFor b else r.landing
                reasons := { r.reasons with general := true } })

/-- An accepted REGIME RESET at LFC (R66): at each configured bank the timer stops, the lamp is OFF and the reasons are empty;
with phase II authorised the order becomes RECALL and keeps its landing, else it becomes NONE with landing DESIGNATED.

The bank link status follows its port's presence; at LOST every configured slot of the bank becomes stale, and the Bank
Order record keeps the rest (R51). With two ports of one bank, which no commit accepts, it follows the delivery taken last (log
entry 46).

The expiry of a shutdown timer trips the bank in ALARM, whatever its cars, and is discarded otherwise (R62, R63); the LAMP
contact of a flashing bank changes over every 500 ms (R59). -/
def Obligations.BanksFollowTimersLinksAndResets : Prop :=
  (∀ s : State, s.takes .lfcRegimeReset = true →
     ∃ t, exec .lfcRegimeReset s = .next t ∧ t = { s with lfc := t.lfc, deliveries := t.deliveries }
       ∧ leaves .lfc (without s .lfcRegimeReset) [] s t ∧ t.lfc.cars = s.lfc.cars
       ∧ ∀ b : BankId,
           let r := s.lfc.banks[b]
           (s.cfg.banks[b].configured = false → t.lfc.banks[b] = r)
           ∧ (s.cfg.banks[b].configured = true →
               t.lfc.banks[b] =
                 { order := if r.phaseII then .recall else .none
                   landing := if r.phaseII then r.landing else .designated
                   flashing := false
                   phaseII := r.phaseII
                   reasons := ⟨false, false, false, false, false⟩
                   timer := none
                   link := r.link
                   lampOn := false
                   lampNext := none }))
  ∧ (∀ (p : PortId) (q : Presence) (b : BankId) (s : State), s.takes (.lfcPresenceChange p q) = true →
     s.role p = .liftGroup → s.cfg.ports[p].bank = some b → s.cfg.banks[b].configured = true →
     ∃ t, exec (.lfcPresenceChange p q) s = .next t ∧ t = { s with lfc := t.lfc, deliveries := t.deliveries }
       ∧ leaves .lfc (without s (.lfcPresenceChange p q)) [] s t
       ∧ t.lfc.banks[b] = { s.lfc.banks[b] with link := q }
       ∧ (∀ a : BankId, a ≠ b → t.lfc.banks[a] = s.lfc.banks[a])
       ∧ ∀ c : CarId, t.lfc.cars[c] =
           if q = .lost ∧ c.val / 6 = b.val ∧ c.val % 6 < s.cfg.banks[b].cars then
             { s.lfc.cars[c] with stale := true }
           else s.lfc.cars[c])
  ∧ (∀ (b : BankId) (s : State),
     (s.due s.lfc.banks[b].timer = true →
       ∃ t, exec (.shutdownTimerExpiry b) s = .next t ∧ t = { s with lfc := t.lfc, deliveries := t.deliveries }
         ∧ leaves .lfc s.deliveries [] s t ∧ t.lfc.cars = s.lfc.cars
         ∧ (∀ a : BankId, a ≠ b → t.lfc.banks[a] = s.lfc.banks[a])
         ∧ t.lfc.banks[b] =
             if s.inAlarm then { s.lfc.banks[b] with order := .tripped, phaseII := false, timer := none }
             else { s.lfc.banks[b] with timer := none })
     ∧ (∀ i, s.lfc.banks[b].lampNext = some i → i ≤ s.now →
       ∃ t, exec (.lampHalfCycle b) s = .next t ∧ t = { s with lfc := t.lfc } ∧ t.lfc.cars = s.lfc.cars
         ∧ (∀ a : BankId, a ≠ b → t.lfc.banks[a] = s.lfc.banks[a])
         ∧ t.lfc.banks[b] = { s.lfc.banks[b] with lampOn := !s.lfc.banks[b].lampOn, lampNext := some (i + 500) }))

/-- A CAR REPORT rewrites each car it names whole, with the position held within the served range and the car fresh; entries
with a car number or a code out of range are ignored; a later entry for a car stands; cars not named keep their entries (R49).
The answer gives the order record as the report left it (R50). A bank in SHUTDOWN whose fresh cars are then parked trips in
ALARM (R61). -/
def Obligations.CarReportRewritesNamedCars : Prop :=
  ∀ (p : PortId) (b : BankId) (body : List Byte) (s : State), canAsk p .lfc s → s.role p = .liftGroup →
    s.cfg.ports[p].bank = some b → s.cfg.banks[b].configured = true → s.cfg.banks[b].cars ≤ 6 →
    s.cfg.banks[b].lowest ≤ s.cfg.banks[b].highest →
    body.length % 5 = 0 → body.length ≤ 55 →
    ∃ t, exec (.carReport p body) s = .next t ∧ lfcServed p s t
      ∧ answers p ⟨0x84, orderFields t.lfc.banks[b]⟩ s t
      ∧ leaves .lfc ((withFrame p s).filter fun e => route e != some (.port p, .lfc)) [] s t
      ∧ (∀ a : BankId, a ≠ b → t.lfc.banks[a] = s.lfc.banks[a])
      ∧ (∀ c : CarId,
          let mine := (carEntries body).filter fun e =>
            decide (c.val = 6 * b.val + e.car ∧ e.car < s.cfg.banks[b].cars
              ∧ e.motion.toNat ≤ 2 ∧ e.doors.toNat ≤ 2 ∧ e.mode.toNat ≤ 5)
          match mine.getLast? with
          | none => t.lfc.cars[c] = s.lfc.cars[c]
          | some e => t.lfc.cars[c].stale = false
              ∧ t.lfc.cars[c].position = max s.cfg.banks[b].lowest (min s.cfg.banks[b].highest e.position)
              ∧ byteOf (motionCode t.lfc.cars[c].motion) = e.motion ∧ byteOf (carDoorsCode t.lfc.cars[c].doors) = e.doors
              ∧ byteOf (carModeCode t.lfc.cars[c].mode) = e.mode)
      ∧ (s.lfc.banks[b].order ≠ .shutdown ∨ s.inAlarm = false ∨ t.bankParked b = false →
          t.lfc.banks[b] = { s.lfc.banks[b] with link := t.lfc.banks[b].link })
      ∧ (s.lfc.banks[b].order = .shutdown → s.inAlarm = true → t.bankParked b = true →
          t.lfc.banks[b] = { s.lfc.banks[b] with
            link := t.lfc.banks[b].link, order := .tripped, phaseII := false, timer := none })

/-- The four lift commands of the COMMAND STATION (R55, R56, R64, R65): RANGE for a bank that is not configured; then each by
its own test of the Bank Order record. -/
def Obligations.LiftCommandsActOnTheNamedBank : Prop :=
  ∀ (p : PortId) (n : Byte) (s : State), canAsk p .lfc s → s.role p = .commandStation →
    (∀ c : Instr, c = .recallBank p [n] ∨ c = .cancelRecall p [n] ∨ c = .authorisePhaseII p [n]
        ∨ c = .withdrawPhaseII p [n] →
      ∃ t, exec c s = .next t ∧ lfcServed p s t ∧ leaves .lfc (withFrame p s) [] s t ∧ t.lfc.cars = s.lfc.cars
        ∧ (∀ b : BankId, b.val ≠ n.toNat → t.lfc.banks[b] = s.lfc.banks[b])
        ∧ (let code : Byte := match c with
             | .recallBank _ _ => 14
             | .cancelRecall _ _ => 15
             | .authorisePhaseII _ _ => 16
             | _ => 17
           ((∀ b : BankId, b.val = n.toNat → s.cfg.banks[b].configured = false) →
             answers p ⟨0x83, [code, 5]⟩ s t ∧ t.lfc = s.lfc)
           ∧ ∀ b : BankId, b.val = n.toNat → s.cfg.banks[b].configured = true →
              let r := s.lfc.banks[b]
              let q := t.lfc.banks[b]
              let onlyManual : Reasons := ⟨false, false, false, false, true⟩
              let nothing : Reasons := ⟨false, false, false, false, false⟩
              (c = .recallBank p [n] →
                answers p ⟨0x83, [14, 0]⟩ s t
                ∧ q = { r with
                    order := if r.order = .none then .recall else r.order
                    landing := if r.order = .none then s.landingFor b else r.landing
                    reasons := { r.reasons with manual := true } })
              ∧ (c = .cancelRecall p [n] →
                  if r.order = .recall ∧ r.reasons = onlyManual ∧ r.phaseII = false then
                    answers p ⟨0x83, [15, 0]⟩ s t
                    ∧ q = { r with order := .none, landing := .designated, reasons := nothing }
                  else answers p ⟨0x83, [15, 4]⟩ s t ∧ q = r)
              ∧ (c = .authorisePhaseII p [n] →
                  if r.order = .none ∨ r.order = .tripped then answers p ⟨0x83, [16, 4]⟩ s t ∧ q = r
                  else answers p ⟨0x83, [16, 0]⟩ s t ∧ q = { r with phaseII := true })
              ∧ (c = .withdrawPhaseII p [n] →
                  if r.phaseII = false then answers p ⟨0x83, [17, 4]⟩ s t ∧ q = r
                  else answers p ⟨0x83, [17, 0]⟩ s t
                    ∧ q = if r.order = .recall ∧ r.reasons = nothing then
                        { r with phaseII := false, order := .none, landing := .designated }
                      else { r with phaseII := false })))

/-! ## Doors -/

/-- A phase change at DSQ in ALARM (R72 to R75, R89): HOLDING magnets of the raised floors, by the phase that the
delivery carries (log entry 54), drop; SECURED strikes of the raised
floors are QUEUED at the tail of their floors' classes, in ascending door order; waiting entries of the named floors are
promoted behind them (log entry 14); an OWNED group that appended an entry and whose next release may be issued makes an
attempt, which raises or clears SUPPLY LIMIT (R90). In NORMAL and PREALARM the delivery is discarded.

A list append at DSQ in ALARM promotes the waiting entries of the new origin floor and changes nothing else (R72, R75);
outside ALARM it is discarded.

RELEASE ALL DOORS (R76): STATE outside ALARM; else every SECURED strike of the part is QUEUED at the tail of its floor's class,
in ascending door order, with the attempts of R89, and no magnet moves. -/
def Obligations.StrikesAreQueuedAndPromoted : Prop :=
  (∀ (fs : List (FloorId × Phase)) (s : State), s.takes (.dsqPhaseChange fs) = true → queuesInOrder s →
     (s.inAlarm = false →
       exec (.dsqPhaseChange fs) s = .next { s with deliveries := without s (.dsqPhaseChange fs) })
     ∧ (s.inAlarm = true →
       ∃ (t : State) (q : GroupId → List QueueEntry), exec (.dsqPhaseChange fs) s = .next t
         ∧ t = { s with dsq := t.dsq, deliveries := t.deliveries }
         ∧ (let onRaised := fun (d : DoorId) => fs.any fun x => x.2 != .quiet && x.1.val == s.cfg.doors[d].floor
            let touched := fun (floor : Nat) => fs.any fun x => x.1.val == floor
            let appends := fun (g : GroupId) => ∃ d : DoorId, s.strikeOf g d = true
              ∧ s.dsq.doors[d] = .secured ∧ onRaised d = true
            let attempts := fun (g : GroupId) => appends g ∧ s.dsq.groups[g].takeover = .owned
              ∧ s.dsq.groups[g].nextRelease ≤ s.now
            (∀ g : GroupId, requeued g onRaised touched s (q g)
              ∧ (attempts g → attempted g { s.dsq.groups[g] with queue := q g } s t)
              ∧ (¬ attempts g → t.dsq.groups[g] = { s.dsq.groups[g] with queue := q g }))
            ∧ (∃ news, supplyNews (fun g => attempts g
                   ∧ issuedDoor g { s.dsq.groups[g] with queue := q g } s = none) s t news
                 ∧ leaves .dsq (without s (.dsqPhaseChange fs)) news s t)
            ∧ ∀ d : DoorId, (∀ g : GroupId, attempts g →
                  issuedDoor g { s.dsq.groups[g] with queue := q g } s ≠ some d) →
                t.dsq.doors[d] =
                  if s.isMagnet d = true ∧ onRaised d = true ∧ s.dsq.doors[d] = .holding then .dropped
                  else if s.isStrike d = true ∧ onRaised d = true ∧ s.dsq.doors[d] = .secured then .queued
                  else s.dsq.doors[d])))
  ∧ (∀ (f : FloorId) (s : State), s.takes (.dsqListAppend f) = true →
     ∃ t, exec (.dsqListAppend f) s = .next t ∧ t = { s with dsq := t.dsq, deliveries := t.deliveries }
       ∧ leaves .dsq (without s (.dsqListAppend f)) [] s t ∧ t.dsq.doors = s.dsq.doors
       ∧ (s.inAlarm = false → t.dsq = s.dsq)
       ∧ (s.inAlarm = true → ∀ g : GroupId,
           t.dsq.groups[g] = { s.dsq.groups[g] with queue := t.dsq.groups[g].queue }
           ∧ requeued g (fun _ => false) (fun floor => floor == f.val) s t.dsq.groups[g].queue))
  ∧ (∀ (p : PortId) (s : State), canAsk p .dsq s → s.role p = .commandStation → queuesInOrder s →
     ∃ (t : State) (q : GroupId → List QueueEntry), exec (.releaseAllDoors p []) s = .next t ∧ dsqServed p s t
       ∧ (s.inAlarm = false → answers p ⟨0x83, [18, 4]⟩ s t ∧ t.dsq = s.dsq
           ∧ leaves .dsq (withFrame p s) [] s t)
       ∧ (s.inAlarm = true → answers p ⟨0x83, [18, 0]⟩ s t
           ∧ (let attempts := fun (g : GroupId) => (∃ d : DoorId, s.strikeOf g d = true ∧ s.dsq.doors[d] = .secured)
                ∧ s.dsq.groups[g].takeover = .owned ∧ s.dsq.groups[g].nextRelease ≤ s.now
              (∀ g : GroupId, requeued g (fun _ => true) (fun _ => false) s (q g)
                ∧ (attempts g → attempted g { s.dsq.groups[g] with queue := q g } s t)
                ∧ (¬ attempts g → t.dsq.groups[g] = { s.dsq.groups[g] with queue := q g }))
              ∧ (∃ news, supplyNews (fun g => attempts g
                     ∧ issuedDoor g { s.dsq.groups[g] with queue := q g } s = none) s t news
                   ∧ leaves .dsq (withFrame p s) news s t)
              ∧ ∀ d : DoorId, (∀ g : GroupId, attempts g →
                    issuedDoor g { s.dsq.groups[g] with queue := q g } s ≠ some d) →
                  t.dsq.doors[d] =
                    if s.isStrike d = true ∧ s.dsq.doors[d] = .secured then .queued else s.dsq.doors[d])))

/-- The expiry of a group's pacing timer, and the further attempt after a gap of 0 (R86, R89, R90, R94, R95, R97): an OWNED group
attempts; a REACQUIRING group becomes OWNED and attempts; a group HANDING OVER or TAKEN issues nothing. Without ALARM or
without an entry no attempt issues anything. Only the group and the issued strike change, and SUPPLY LIMIT is raised or
cleared with LIMITED. -/
def Obligations.PacingExpiryIssuesTheNextRelease : Prop :=
  ∀ (g : GroupId) (c : Instr) (s : State),
    ((c = .pacingTimerExpiry g ∧ s.due s.dsq.groups[g].pacing = true)
      ∨ (c = .zeroGapAttempt g ∧ s.dsq.groups[g].zeroGap = true)) → queuesInOrder s →
    ∃ t, exec c s = .next t ∧ t = { s with dsq := t.dsq, deliveries := t.deliveries }
      ∧ (∀ h : GroupId, h ≠ g → t.dsq.groups[h] = s.dsq.groups[h])
      ∧ (let old := s.dsq.groups[g]
         let r : GroupRec :=
           if c = .zeroGapAttempt g then { old with zeroGap := false }
           else { old with
             pacing := none, takeover := if old.takeover = .reacquiring then .owned else old.takeover }
         let attempts : Prop := r.takeover = .owned ∧ s.inAlarm = true ∧ old.queue ≠ []
         (attempts → attempted g r s t) ∧ (¬ attempts → t.dsq.groups[g] = r)
         ∧ (∃ news, supplyNews (fun h => h = g ∧ attempts ∧ issuedDoor g r s = none) s t news
              ∧ leaves .dsq s.deliveries news s t)
         ∧ ∀ d : DoorId, (attempts → issuedDoor g r s ≠ some d) → t.dsq.doors[d] = s.dsq.doors[d])

/-- The end of a strike's ramp (R78): RELEASED without a feedback loop or with its band NORMAL, else VERIFY with the verify timer
of T_dv. With the last ramp of a group that is HANDING OVER the handover ends, to TAKEN or to REACQUIRING by the request line
(R94, R95, R96).

A strike whose verify timer expires is FAILED: DOOR FAILED is raised, and its floor's re-entry impaired flag written yes
when it is the first (R79, R81, R82). -/
def Obligations.StrikesVerifyAndFail : Prop :=
  (∀ (d : DoorId) (g : GroupId) (s : State) (ends : Nat), s.dsq.doors[d] = .ramp ends → ends ≤ s.now →
     s.cfg.doors[d].group = g.val →
     ∃ t, exec (.rampEnd d) s = .next t ∧ t = { s with dsq := t.dsq, deliveries := t.deliveries }
       ∧ (∀ e : DoorId, e ≠ d → t.dsq.doors[e] = s.dsq.doors[e])
       ∧ (∀ h : GroupId, h ≠ g → t.dsq.groups[h] = s.dsq.groups[h])
       ∧ (s.cfg.doors[d].feedback = none → t.dsq.doors[d] = .released)
       ∧ (∀ l : LoopId, s.cfg.doors[d].feedback = some l.val →
           t.dsq.doors[d] =
             if s.lsc.loops[l].stable = .normal then .released else .verify (s.now + s.cfg.tDoorVerify))
       ∧ (let r := s.dsq.groups[g]
          let last : Prop := r.takeover = .handingOver
            ∧ ∀ e : DoorId, e ≠ d → s.strikeOf g e = true → s.dsq.doors[e].inRamp = false
          (¬ last → t.dsq.groups[g] = r)
          ∧ (last → r.request = true → t.dsq.groups[g] = { r with takeover := .taken, limited := false }
              ∧ .troubleRaise .takeoverActive g.val ∈ t.deliveries)
          ∧ (last → r.request = false → t.dsq.groups[g] = { r with
              takeover := .reacquiring, carry := 0, nextRelease := s.now + s.cfg.groups[g].gMin
              pacing := some (s.now + s.cfg.groups[g].gMin) })))
  ∧ (∀ (d : DoorId) (f : FloorId) (s : State) (expiry : Nat), s.dsq.doors[d] = .verify expiry → expiry ≤ s.now →
     s.isStrike d = true → s.cfg.doors[d].floor = f.val →
     ∃ t, exec (.doorVerifyTimerExpiry d) s = .next t ∧ t = { s with dsq := t.dsq, deliveries := t.deliveries }
       ∧ t.dsq.doors = s.dsq.doors.set d.val .failed d.isLt ∧ t.dsq.groups = s.dsq.groups
       ∧ ∃ news, t.deliveries = s.deliveries ++ news
           ∧ (∀ k n, .troubleRaise k n ∈ news ↔ k = .doorFailed ∧ n = d.val)
           ∧ (∀ h v, .reentryImpairedWrite h v ∈ news ↔ h = f ∧ v = true
               ∧ ∀ e : DoorId, s.isStrike e = true → s.cfg.doors[e].floor = f.val → s.dsq.doors[e] ≠ .failed))

/-- A change of a feedback band at every strike that names the loop (R79, R80, R81, R82): NORMAL releases a strike in VERIFY or
FAILED, ALARM fails a RELEASED one; nothing else moves. DOOR FAILED is raised and cleared with the FAILED state, and the
re-entry impaired flag of a floor is written when its first strike becomes FAILED or its last ceases to be. -/
def Obligations.FeedbackBandMovesStrikes : Prop :=
  ∀ (l : LoopId) (b : Band) (s : State), s.takes (.dsqFeedbackBand l b) = true →
    ∃ t, exec (.dsqFeedbackBand l b) s = .next t ∧ t = { s with dsq := t.dsq, deliveries := t.deliveries }
      ∧ t.dsq.groups = s.dsq.groups
      ∧ (∀ d : DoorId,
          let mine : Prop := s.isStrike d = true ∧ s.cfg.doors[d].feedback = some l.val
          (¬ mine → t.dsq.doors[d] = s.dsq.doors[d])
          ∧ (mine → t.dsq.doors[d] = match s.dsq.doors[d] with
              | .verify i => if b = .normal then .released else .verify i
              | .released => if b = .alarm then .failed else .released
              | .failed => if b = .normal then .released else .failed
              | r => r))
      ∧ ∃ news, failedNews s t news ∧ leaves .dsq (without s (.dsqFeedbackBand l b)) news s t

/-- An accepted REGIME RESET at DSQ (R83, R98): every strike SECURED, every magnet HOLDING, every queue empty, every hold sum and
carry 0; an OWNED group may release at once, a REACQUIRING one keeps its timer, a TAKEN one stays, a handover ends; standing
DOOR FAILED conditions are cleared and the impaired floors written no. -/
def Obligations.RegimeResetSecuresTheDoors : Prop :=
  ∀ s : State, s.takes .dsqRegimeReset = true →
    ∃ t, exec .dsqRegimeReset s = .next t ∧ t = { s with dsq := t.dsq, deliveries := t.deliveries }
      ∧ (∀ d : DoorId, t.dsq.doors[d] =
          if s.isStrike d then .secured else if s.isMagnet d then .holding else s.dsq.doors[d])
      ∧ (∀ g : GroupId,
          let r := s.dsq.groups[g]
          let q : GroupRec := { r with queue := [], holdSum := 0, carry := 0, limited := false, zeroGap := false }
          t.dsq.groups[g] = match r.takeover with
            | .owned => { q with nextRelease := s.now, pacing := none }
            | .taken => q
            | .reacquiring => q
            | .handingOver =>
              if r.request then { q with takeover := .taken }
              else { q with takeover := .reacquiring, nextRelease := s.now + s.cfg.groups[g].gMin
                            pacing := some (s.now + s.cfg.groups[g].gMin) })
      ∧ (∀ d : DoorId, s.isStrike d = true → s.dsq.doors[d] = .failed →
          .troubleClear .doorFailed d.val ∈ t.deliveries)
      ∧ (∀ (d : DoorId) (f : FloorId), s.isStrike d = true → s.dsq.doors[d] = .failed → s.cfg.doors[d].floor = f.val →
          .reentryImpairedWrite f false ∈ t.deliveries)
      ∧ (∀ g : GroupId, s.dsq.groups[g].limited = true → .troubleClear .supplyLimit g.val ∈ t.deliveries)

/-- The takeover lines (R93, R95, R96): an asserted request takes an OWNED or REACQUIRING group at once, or hands it over while
a strike of it is in RAMP; a released request hands a TAKEN group back; the drivers of a TAKEN group follow the drive line. A
line that already stands at its level is no change. -/
def Obligations.TakeoverLinesMoveTheGroup : Prop :=
  ∀ (g : GroupId) (s : State), s.configFault = false →
    (let r := s.dsq.groups[g]
     let onlyGroup := fun (t : State) => t = { s with dsq := t.dsq, deliveries := t.deliveries }
       ∧ t.dsq.doors = s.dsq.doors ∧ ∀ h : GroupId, h ≠ g → t.dsq.groups[h] = s.dsq.groups[h]
     (r.request = true → exec (.takeoverRequestAsserted g) s = .next s)
     ∧ (r.request = false → exec (.takeoverRequestReleased g) s = .next s)
     ∧ (r.request = false → ∃ t, exec (.takeoverRequestAsserted g) s = .next t ∧ onlyGroup t
         ∧ ((r.takeover = .owned ∨ r.takeover = .reacquiring) → s.anyRamp g = false →
             t.dsq.groups[g] = { r with request := true, takeover := .taken, limited := false
                                        pacing := if r.takeover = .reacquiring then none else r.pacing }
             ∧ .troubleRaise .takeoverActive g.val ∈ t.deliveries
             ∧ (r.limited = true → .troubleClear .supplyLimit g.val ∈ t.deliveries))
         ∧ ((r.takeover = .owned ∨ r.takeover = .reacquiring) → s.anyRamp g = true →
             t.dsq.groups[g] = { r with request := true, takeover := .handingOver, limited := false })
         ∧ ((r.takeover = .handingOver ∨ r.takeover = .taken) → t.dsq.groups[g] = { r with request := true }))
     ∧ (r.request = true → ∃ t, exec (.takeoverRequestReleased g) s = .next t ∧ onlyGroup t
         ∧ (r.takeover = .taken → t.dsq.groups[g] = { r with
               request := false, takeover := .reacquiring, carry := 0
               nextRelease := s.now + s.cfg.groups[g].gMin, pacing := some (s.now + s.cfg.groups[g].gMin) }
             ∧ .troubleClear .takeoverActive g.val ∈ t.deliveries)
         ∧ (r.takeover ≠ .taken → t.dsq.groups[g] = { r with request := false }))
     ∧ ∀ level : Bool, ∃ t, exec (.takeoverDriveChange g level) s = .next t
         ∧ t = { s with dsq := { s.dsq with groups := s.dsq.groups.set g.val { r with drive := level } g.isLt } }
         ∧ ∀ d : DoorId, s.isStrike d = true → s.cfg.doors[d].group = g.val →
             t.doorDriver d = if r.takeover = .taken then level else s.dsq.doors[d].energised)

/-! ## Cues -/

/-- The effective demand of a zone is its present slot of the lowest priority number, and the zone belongs to that slot's
programme unless the slot is complete (R106, R110). The deliveries of RGE to CUE recompute the fire slots of the configured
zones they name (R107): a phase change the floor zones of its floors, a change of silence every floor zone, the entry to
ALARM and the reset every zone. The target is the floor's cue for its phase, EVACUATE or, unless silenced, ALERT, and a stair's
cue, while the regime is ALARM; a slot that already has its target stands with its instant and complete flag; another takes
the target afresh; without a target it is absent. What follows from the new demand is `cueEnds`: zones leave zone sets, chains
end, and programmes are handed over (R110, R115, R125, R135; what counts as one hand-over of an event and their order are log
entries 18 and 19).

A write of a live slot (R109, R133): LIVE-C takes the slot, LIVE-P takes it unless LIVE-C holds it, and a clear clears the
slot that holds its source. A write of a tenant slot (R109, R142): a put takes the slot, a clear clears the slot that holds its
ticket. No other slot changes. What follows from the new demand is `cueEnds` (R110, R115, R125, R135, log
entries 18 and 19). -/
def Obligations.SlotsFollowTheirEvents : Prop :=
  ((∀ (s : State) (d : Demand) (z : SpeakerId), z ∈ s.demandSet d ↔ ∃ i, zoneHears s z = some (d, i))
   ∧ ∀ (c : Instr) (s : State), s.takes c = true →
     (c = .cueAlarmEntry ∨ c = .cueRegimeReset ∨ c = .cueSilenceChange ∨ ∃ fs, c = .cuePhaseChange fs) →
     ∃ t, exec c s = .next t ∧ cueEnds (without s c) s t
       ∧ ∀ z : SpeakerId,
           let named : Prop := s.speakerConfigured z = true ∧ (match c with
             | .cuePhaseChange fs => ∃ x ∈ fs, x.1.val = z.val
             | .cueSilenceChange => z.val < 32
             | _ => True)
           let isTarget := fun (q : Nat) (prio : FirePriority) => s.inAlarm = true ∧
             ((∃ f : FloorId, f.val = z.val
                 ∧ ((s.rge.floors[f].phase = .evacuate ∧ s.cfg.floors[f].evacuateCue = some q ∧ prio = .evac)
                   ∨ (s.rge.floors[f].phase = .alert ∧ s.rge.silence = none ∧ s.cfg.floors[f].alertCue = some q
                       ∧ prio = .alert)))
               ∨ (∃ k : Fin 4, z.val = 32 + k.val ∧ s.cfg.stairs[k].cue = some q ∧ prio = .evac))
           t.cue.zones[z].live = s.cue.zones[z].live ∧ t.cue.zones[z].tenant = s.cue.zones[z].tenant
           ∧ (¬ named → t.cue.zones[z].fire = s.cue.zones[z].fire)
           ∧ (named → (∀ q prio, ¬ isTarget q prio) → t.cue.zones[z].fire = none)
           ∧ (named → ∀ q prio, isTarget q prio →
               (∀ slot, s.cue.zones[z].fire = some slot → slot.cue = q → slot.prio = prio →
                 t.cue.zones[z].fire = some slot)
               ∧ ((∀ slot, s.cue.zones[z].fire = some slot → slot.cue ≠ q ∨ slot.prio ≠ prio) →
                 t.cue.zones[z].fire = some ⟨q, prio, s.now, false⟩)))
  ∧ (∀ (z : SpeakerId) (s : State),
     (let others := fun (t : State) => ∀ y : SpeakerId, y ≠ z → t.cue.zones[y] = s.cue.zones[y]
      (∀ w : LiveWrite, s.takes (.liveSlotWrite z w) = true →
        ∃ t, exec (.liveSlotWrite z w) s = .next t ∧ others t ∧ cueEnds (without s (.liveSlotWrite z w)) s t
          ∧ t.cue.zones[z] = { s.cue.zones[z] with live := t.cue.zones[z].live }
          ∧ (w = .put .liveC → t.cue.zones[z].live = some ⟨.liveC, s.now⟩)
          ∧ (w = .put .liveP → t.cue.zones[z].live =
              if s.cue.zones[z].live.any (fun l => l.source == .liveC) then s.cue.zones[z].live
              else some ⟨.liveP, s.now⟩)
          ∧ (∀ src, w = .erase src → t.cue.zones[z].live =
              if s.cue.zones[z].live.any (fun l => l.source == src) then none else s.cue.zones[z].live))
      ∧ (∀ w : TenantWrite, s.takes (.tenantSlotWrite z w) = true →
        ∃ t, exec (.tenantSlotWrite z w) s = .next t ∧ others t ∧ cueEnds (without s (.tenantSlotWrite z w)) s t
          ∧ t.cue.zones[z] = { s.cue.zones[z] with tenant := t.cue.zones[z].tenant }
          ∧ (∀ k q, w = .put k q → t.cue.zones[z].tenant = some ⟨k, q, s.now, false⟩)
          ∧ (∀ k, w = .erase k → t.cue.zones[z].tenant =
              if s.cue.zones[z].tenant.any (fun x => x.ticket == k) then none else s.cue.zones[z].tenant))))

/-! ## Amplifier channels -/

/-- What CUE hands over is taken and arbitrated, however many programmes wait (R110, R115, R119 to R125). A formed fire or live
programme joins the waiting ones, unless its source has stopped (log entry 18) or it waits or holds a channel already. A changed one has its
demand instant renewed, waiting or on its channel, and, begun, the zones of its demand set outside the zone set have pending
joins. The demand instant is the earliest among the slots as they stand when CHR takes the programme, and one whose demand set has
emptied since is no programme (R110; log entry 18). An ended one no longer waits, or leaves its channel, and a tenant's end is
delivered. Then a pass grants the heads of the waiting programmes the free channels, and lets each take the channel of a victim
that it outranks. The end of an event of CHR is `chrEnds`; that it tells TNQ of a free channel once is log entry 16.

A tenant programme is granted a free channel at once, chosen READY before WAKING without a programme before STANDBY and the
lowest-numbered first; without one its refusal is delivered to TNQ and no channel is taken (R122, R124; `chrEnds`, log entry 16). -/
def Obligations.HandedProgrammesAreArbitrated : Prop :=
  (∀ (d : Demand) (news : ProgrammeNews) (i : Nat) (s : State), s.takes (.programmeHanded d news i) = true →
     ∃ t x u, exec (.programmeHanded d news i) s = .next t ∧ onlyChannels s t ∧ arbitrated x u ∧ chrEnds s u t
       ∧ (let s0 : State := { s with deliveries := without s (.programmeHanded d news i) }
          let holds := fun (c : ChannelId) => ∃ g, s.chr.channels[c].grant = some g ∧ g.prog.demand = d
          let joins : Prop := (∀ k q, d ≠ .tenant k q) ∧ (∀ src, d = .live src → (s.source src).live = true)
            ∧ (∀ p ∈ s.chr.waiting, p.demand ≠ d) ∧ ∀ c, ¬ holds c
          let others := s.chr.waiting.filter fun p => decide (p.demand ≠ d)
          (news ≠ .ended → s.demandSet d = [] → x = s0)
          ∧ (news = .formed → ∀ j, earliestInstant s d j →
            (joins → x = { s0 with chr := { s.chr with waiting := s.chr.waiting ++ [⟨d, j⟩] } }) ∧ (¬ joins → x = s0))
          ∧ (news = .changed → ∀ j, earliestInstant s d j →
              x = { s0 with chr := { s.chr with
                waiting := s.chr.waiting.map fun p => if p.demand = d then ⟨d, j⟩ else p
                channels := x.chr.channels } }
              ∧ ∀ c : ChannelId,
                  (¬ holds c → x.chr.channels[c] = s.chr.channels[c])
                  ∧ ∀ g, s.chr.channels[c].grant = some g → g.prog.demand = d → x.chr.channels[c] =
                      { s.chr.channels[c] with
                        grant := some ⟨⟨d, j⟩, g.granted⟩
                        joins := if s.chr.channels[c].begun = true ∧ s.holder d = some c then
                            (s.demandSet d).filter fun z => !s.chr.channels[c].zoneSet.contains z
                          else s.chr.channels[c].joins })
          ∧ (news = .ended →
              (s.holder d = none → x = { s0 with chr := { s.chr with waiting := others } })
              ∧ ∀ c, s.holder d = some c → ∃ y,
                  channelReleased c { s0 with chr := { s.chr with waiting := others } } y
                  ∧ (∀ k q, d = .tenant k q → x = { y with deliveries := y.deliveries ++ [.tenantProgrammeEmptied k] })
                  ∧ ((∀ k q, d ≠ .tenant k q) → x = y))))
  ∧ (∀ (k q i : Nat) (s : State), s.takes (.tenantProgrammeHanded k q i) = true →
     ∃ t u, exec (.tenantProgrammeHanded k q i) s = .next t ∧ onlyChannels s t ∧ chrEnds s u t
       ∧ (let s0 : State := { s with deliveries := without s (.tenantProgrammeHanded k q i) }
          (∀ c, chosenFree s c → channelGranted c ⟨.tenant k q, i⟩ s0 u)
          ∧ ((∀ c : ChannelId, s.chr.channels[c].free = false) →
              u = { s0 with deliveries := s0.deliveries ++ [.tenantRefusal k] })))

/-- What RGE delivers to CHR (R121, R135): the entry to ALARM suspends idling and stops every idle timer; the reset ends that
and starts the idle timer of every READY channel; the reset and a list append work out the monitored channel (`chrEnds`, log
entry 16).

MONITOR SELECT (R135): RANGE for a selection code above 2 or, under CHANNEL, a channel above 3; else the selection is set and
the monitored channel follows it (`chrEnds`, log entry 16). -/
def Obligations.IdlingAndMonitorFollowTheirEvents : Prop :=
  (∀ s : State,
     (s.takes .chrAlarmEntry = true → ∃ t u, exec .chrAlarmEntry s = .next t ∧ onlyChannels s t ∧ chrEnds s u t
       ∧ u = { s with
           deliveries := without s .chrAlarmEntry
           chr := { s.chr with idlingSuspended := true, channels := u.chr.channels } }
       ∧ ∀ c : ChannelId, u.chr.channels[c] = { s.chr.channels[c] with idle := none })
     ∧ (s.takes .chrRegimeReset = true → ∃ t u, exec .chrRegimeReset s = .next t ∧ onlyChannels s t ∧ chrEnds s u t
       ∧ u = { s with
           deliveries := without s .chrRegimeReset
           chr := { s.chr with idlingSuspended := false, channels := u.chr.channels, monitored := u.chr.monitored } }
       ∧ monitorFollows t
       ∧ ∀ c : ChannelId, u.chr.channels[c] = { s.chr.channels[c] with
           idle := if s.chr.channels[c].state = .ready then some (s.now + s.cfg.tIdle * 1000)
             else s.chr.channels[c].idle })
     ∧ ∀ f : FloorId, s.takes (.chrListAppend f) = true →
       ∃ t u, exec (.chrListAppend f) s = .next t ∧ onlyChannels s t ∧ chrEnds s u t
         ∧ u = { s with
             deliveries := without s (.chrListAppend f), chr := { s.chr with monitored := u.chr.monitored } }
         ∧ monitorFollows t)
  ∧ (∀ (p : PortId) (code channel : Byte) (s : State), canAsk p .chr s → s.role p = .commandStation →
     ∃ t u, exec (.monitorSelect p [code, channel]) s = .next t ∧ chrServed p s t ∧ chrEnds s u t
       ∧ (let s0 : State := { s with deliveries := withFrame p s }
          (2 < code.toNat ∨ (code.toNat = 1 ∧ 3 < channel.toNat) → answers p ⟨0x83, [19, 5]⟩ s t ∧ u = s0)
          ∧ (∀ m : MonitorSelection,
              ((code.toNat = 0 ∧ m = .off) ∨ (code.toNat = 2 ∧ m = .followOrigin)
                ∨ (code.toNat = 1 ∧ ∃ c : ChannelId, c.val = channel.toNat ∧ m = .channel c)) →
              answers p ⟨0x83, [19, 0]⟩ s t ∧ monitorFollows t
              ∧ u = { s0 with chr := { s.chr with selection := m, monitored := u.chr.monitored } })))

/-- The end of a warm-up (R119 to R121): with a programme the channel is PLAYING, and the programme begins at that event when it
is live or its first block has been read (or its read has failed); without one it is READY with its idle timer unless idling
is suspended, and an arbitration pass follows. The idle timer takes a channel to STANDBY. The removal of a CHANNEL UNDERRUN
entry clears the sticky flag (R130). The end of an event of CHR is `chrEnds` (log entry 16). -/
def Obligations.ChannelTimersMoveTheChannel : Prop :=
  ∀ (c : ChannelId) (s : State),
    (let r := s.chr.channels[c]
     let put := fun (q : ChannelRec) (ds : List Instr) =>
       ({ s with deliveries := ds, chr := { s.chr with channels := s.chr.channels.set c.val q c.isLt } } : State)
     (s.due r.warmUp = true →
       ∃ t u, exec (.warmUpExpiry c) s = .next t ∧ onlyChannels s t ∧ chrEnds s u t
         ∧ (r.grant ≠ none → beginsIfReady c (put { r with state := .playing, warmUp := none } s.deliveries) u)
         ∧ (r.grant = none → arbitrated (put { r with
             state := .ready, warmUp := none
             idle := if s.chr.idlingSuspended then none else some (s.now + s.cfg.tIdle * 1000) } s.deliveries) u))
     ∧ (s.due r.idle = true → ∃ t, exec (.idleTimerExpiry c) s = .next t ∧ onlyChannels s t
         ∧ chrEnds s (put { r with state := .standby, idle := none } s.deliveries) t)
     ∧ (s.takes (.underrunRemoval c) = true → ∃ t, exec (.underrunRemoval c) s = .next t ∧ onlyChannels s t
         ∧ chrEnds s (put { r with underrun := false } (without s (.underrunRemoval c))) t))

/-- A block boundary within a chain, under the invariant of the areas (R112, R113, R126, R128, R130, R131): the position moves to
the next block of the segment or the gap, to the next repetition, or, by the link condition, to the first block of the next
cue; the next boundary is 64 ms later; pending joins join. The slot of the block that ended is emptied, and at a link that was
undecided the other candidate's too. A segment block is heard when its slot, the first one left, is complete: the block at
the chain's new position; it is silence when its read failed, and an underrun when there is no slot or it is filling:
silence, the sticky flag and a momentary CHANNEL UNDERRUN. A read for a slot that is gone is discarded (`chrEnds`, log entry 16; cues that no
commit accepts: log entry 47). -/
def Obligations.BoundaryAdvancesTheChain : Prop :=
  ∀ (c : ChannelId) (g : Grant) (k next : Chain) (b : Nat) (s : State), areasSound s →
    s.chr.channels[c].boundary = some b → b ≤ s.now → s.chr.channels[c].grant = some g →
    (∀ src, g.prog.demand ≠ .live src) → s.cue.chains[c] = some k →
    (let q := s.cueAt k.cue
     let r := s.chr.channels[c]
     let links := fun (n : Nat) => cueIsOver s k
       ∧ (if s.linkTrue c q.condition then q.nextTrue else q.nextFalse) = some n ∧ next = startOf s n k.started
     movesWithin s k next ∨ (∃ n, links n) →
     ∃ t u, exec (.blockBoundary c) s = .next t ∧ onlyChannels s t ∧ chrEnds s u t
       ∧ (let behind := if r.headInPlay then r.slots.drop 1 else r.slots
          let x := u.chr.channels[c]
          u.cue = { s.cue with chains := s.cue.chains.set c.val (some next) c.isLt }
          ∧ u.chr = { s.chr with
              channels := s.chr.channels.set c.val x c.isLt
              reading := s.chr.reading.map fun f =>
                if f.channel = c ∧ ∀ y ∈ x.slots, y.status ≠ .filling then { f with discarded := true } else f }
          ∧ x = { r with
              boundary := some (b + 64), joins := [], zoneSet := x.zoneSet, slots := x.slots
              headInPlay := x.headInPlay, underrun := x.underrun, audio := x.audio }
          ∧ x.zoneSet.Pairwise (· < ·) ∧ (∀ z, z ∈ x.zoneSet ↔ z ∈ r.zoneSet ∨ z ∈ r.joins)
          ∧ ∃ left : List Slot,
              (q.condition = .always ∨ movesWithin s k next → left = behind)
              ∧ (∀ n, q.condition ≠ .always → links n →
                  left = (behind[if q.nextTrue = none ∨ q.nextTrue = some n then 0 else 1]?).toList)
              ∧ (∀ j, next.pos = .gap j → x.slots = left ∧ x.headInPlay = false ∧ x.audio = .silence
                  ∧ x.underrun = r.underrun ∧ u.deliveries = s.deliveries)
              ∧ (∀ i y rest, next.pos = .segment i → left = y :: rest → y.status ≠ .filling →
                  x.slots = left ∧ x.headInPlay = true ∧ x.underrun = r.underrun ∧ u.deliveries = s.deliveries
                  ∧ x.audio = if y.status = .complete then .flashBlock ((s.cueAt next.cue).start + i) else .silence)
              ∧ (∀ i, next.pos = .segment i → (∀ y rest, left = y :: rest → y.status = .filling) →
                  x.slots = left.drop 1 ∧ x.headInPlay = false ∧ x.audio = .silence ∧ x.underrun = true
                  ∧ u.deliveries = s.deliveries
                      ++ [.troubleRaise .channelUnderrun c.val, .troubleClear .channelUnderrun c.val])))

/-- The end of a chain at a boundary (R116, R121, R122): the finished mark is set when the last cue's report enable is yes; the
slot that each zone of the zone set was hearing has its complete flag set; the chain is cleared and the channel is READY; a
tenant's completion is delivered, and a fire programme with zones left waits again; then an arbitration pass follows
(`chrEnds`, log entry 16). -/
def Obligations.ChainEndRestsItsZones : Prop :=
  ∀ (c : ChannelId) (g : Grant) (k : Chain) (b : Nat) (s : State),
    s.chr.channels[c].boundary = some b → b ≤ s.now → s.chr.channels[c].grant = some g →
    (∀ src, g.prog.demand ≠ .live src) → s.cue.chains[c] = some k → cueIsOver s k →
    (if s.linkTrue c (s.cueAt k.cue).condition then (s.cueAt k.cue).nextTrue else (s.cueAt k.cue).nextFalse) = none →
    ∃ t v y x u, exec (.blockBoundary c) s = .next t ∧ onlyChannels s t
      ∧ channelReleased c v y ∧ arbitrated x u ∧ chrEnds s u t
      ∧ v = { s with cue := v.cue } ∧ v.cue.chains = s.cue.chains
      ∧ v.cue.finished =
          (if (s.cueAt k.cue).report then
            s.cue.finished.set c.val (some ⟨k.cue, (startCue g.prog.demand).getD k.cue, s.now⟩) c.isLt
          else s.cue.finished)
      ∧ (∀ z : SpeakerId, v.cue.zones[z] =
          if z ∈ s.chr.channels[c].zoneSet then
            (match g.prog.demand with
              | .tenant _ _ => { s.cue.zones[z] with
                  tenant := s.cue.zones[z].tenant.map fun f => { f with complete := true } }
              | _ => { s.cue.zones[z] with
                  fire := s.cue.zones[z].fire.map fun f => { f with complete := true } })
          else s.cue.zones[z])
      ∧ (∀ n q, g.prog.demand = .tenant n q → x = { y with deliveries := y.deliveries ++ [.tenantCompletion n] })
      ∧ ((∀ n q, g.prog.demand ≠ .tenant n q) →
          (v.demandSet g.prog.demand = [] → x = y)
          ∧ ∀ i, earliestInstant v g.prog.demand i →
              x = { y with chr := { y.chr with waiting := y.chr.waiting ++ [⟨g.prog.demand, i⟩] } })

/-- The memory read port (R120, R129, R131): a read that completes within 8 ms makes its slot complete; one that fails, or
completes later, makes it faulted and raises a momentary MEMORY READ FAULT; a discarded read leaves the area as it was and
raises nothing. The first block lets a waiting programme begin. Then the port begins at most one next read, over all channels:
for the first eligible channel in turn, the first block of its read-ahead order without a slot (`chrEnds`, `portBegins`;
log entry 16, several areas of one channel: log entry 43). The
part's own clock fails a read at its 8 ms, which is the model's order of idle steps (log entry 1).

The read-ahead order of a channel (R128). A chain's upcoming blocks are the segment blocks of the positions that the
boundaries will take, the gaps left out; behind the last block of a cue whose link is ALWAYS those of the next cue follow, and
behind another link the first blocks of next-if-true and next-if-false, each once. A programme that has not begun starts from
the first block of its chain, one that has begun from the block in progress if that holds a slot (cues that no commit
accepts: log entry 47). -/
def Obligations.ReadPortReadsAhead : Prop :=
  (∀ s : State, (.memoryReadFailed ∈ dueEvents s ↔ ∃ r, s.chr.reading = some r ∧ r.started + 8 ≤ s.now)
     ∧ ∀ (r : FlashRead) (complete : Bool), s.chr.reading = some r →
       ∃ t u v, exec (if complete then .memoryReadComplete else .memoryReadFailed) s = .next t ∧ onlyChannels s t
         ∧ (let ok : Prop := complete = true ∧ s.now ≤ r.started + 8
            let idle : State := { s with chr := { s.chr with reading := none } }
            let old := s.chr.channels[r.channel]
            let filled : ChannelRec := { old with slots := old.slots.map fun x =>
              if x.status = .filling then { x with status := if ok then .complete else .faulted } else x }
            (r.discarded = true → v = idle)
            ∧ (r.discarded = false → beginsIfReady r.channel
                { idle with chr :=
                  { idle.chr with channels := s.chr.channels.set r.channel.val filled r.channel.isLt } } v)
            ∧ u = { v with deliveries := s.deliveries
                ++ (if r.discarded = false ∧ ¬ ok then
                      [.troubleRaise .memoryReadFault r.channel.val, .troubleClear .memoryReadFault r.channel.val]
                    else []) }
            ∧ chrEnds s u t))
  ∧ (∀ (s : State) (n : Nat) (k next : Chain),
     (let q := s.cueAt k.cue
      (∀ j, movesWithin s k next → next.pos = .gap j → s.upcoming n k = s.upcoming n next)
      ∧ (∀ i, movesWithin s k next → next.pos = .segment i →
          s.upcoming (n + 1) k = ((s.cueAt next.cue).start + i) :: s.upcoming n next)
      ∧ (cueIsOver s k → q.condition = .always → q.nextTrue = none → s.upcoming n k = [])
      ∧ (∀ m, cueIsOver s k → q.condition = .always → q.nextTrue = some m →
          s.upcoming (n + 1) k = (s.cueAt m).start :: s.upcoming n (startOf s m k.started))
      ∧ (cueIsOver s k → q.condition ≠ .always → s.upcoming (n + 1) k =
          (match q.nextTrue, q.nextFalse with
            | none, none => []
            | some a, none => [(s.cueAt a).start]
            | none, some b => [(s.cueAt b).start]
            | some a, some b => if a = b then [(s.cueAt a).start] else [(s.cueAt a).start, (s.cueAt b).start]))
      ∧ ∀ (c : ChannelId) (g : Grant) (m : Nat), s.chr.channels[c].grant = some g → startCue g.prog.demand = some m →
          (s.chr.channels[c].begun = false →
            s.readOrder c n = (s.cueAt m).start :: s.upcoming n (startOf s m s.now))
          ∧ (s.chr.channels[c].begun = true → s.cue.chains[c] = some k → s.readOrder c n =
              match s.chr.channels[c].headInPlay, k.pos with
                | true, .segment i => ((s.cueAt k.cue).start + i) :: s.upcoming n k
                | _, _ => s.upcoming n k)))

/-- A LIVE source completes a block every 64 ms by the part's own clock (log entry 1), and a channel that plays it plays, at a
boundary, the newest complete block in the ring of its area that it has not played, or silence (R134; that the ring holds the
newest blocks of the area's size is log entry 28, several areas of one source log entry 43; `chrEnds`,
log entry 16).

LIVE START (R132): RANGE when no bit of the mask names a configured zone, STATE when the source of the port's role is LIVE;
else the source is LIVE with the configured zones of the mask, and each of them has the source written into its live slot,
in rising order of the zones, the model's choice (log entry 48; `chrEnds`, log entry 16).

A live source ends by LIVE STOP or by the loss of the port of its role (R133): it is IDLE with an empty claimed set; the live
slots of its zones are cleared, and where LIVE-C stops, LIVE-P is written into the zones that it claims; its programme no
longer waits, or leaves its channel, and an arbitration pass follows (R121, R122). LIVE STOP is refused STATE when the source
is IDLE. The order of the writes, clears first and each in rising order of the zones, is the model's choice (log entry 48). -/
def Obligations.LiveSourcesStartPlayAndEnd : Prop :=
  (∀ (src : LiveSourceId) (s : State),
     (.liveBlockComplete src ∈ dueEvents s ↔ (s.source src).live = true ∧ (s.source src).nextBlock ≤ s.now)
     ∧ ((s.source src).live = true → (s.source src).nextBlock ≤ s.now →
       ∃ t, exec (.liveBlockComplete src) s = .next t ∧ t = { s with chr := t.chr }
         ∧ t.source src = { s.source src with
             blocks := (s.source src).blocks + 1, nextBlock := (s.source src).nextBlock + 64 }
         ∧ t.chr = { s.chr with liveC := t.chr.liveC, liveP := t.chr.liveP }
         ∧ ∀ other, other ≠ src → t.source other = s.source other)
     ∧ ∀ (c : ChannelId) (g : Grant) (b : Nat), s.chr.channels[c].boundary = some b → b ≤ s.now →
         s.chr.channels[c].grant = some g → g.prog.demand = .live src →
         ∃ t u, exec (.blockBoundary c) s = .next t ∧ onlyChannels s t ∧ chrEnds s u t
           ∧ (let r := s.chr.channels[c]
              let x := u.chr.channels[c]
              u = { s with chr := { s.chr with channels := s.chr.channels.set c.val x c.isLt } }
              ∧ x = { r with
                  boundary := some (b + 64), joins := [], zoneSet := x.zoneSet
                  livePlayed := x.livePlayed, audio := x.audio }
              ∧ x.zoneSet.Pairwise (· < ·) ∧ (∀ z, z ∈ x.zoneSet ↔ z ∈ r.zoneSet ∨ z ∈ r.joins)
              ∧ livePlays s src r.livePlayed x))
  ∧ (∀ (p : PortId) (src : LiveSourceId) (mask : List Byte) (s : State), canAsk p .chr s → mask.length = 5 →
     ((s.role p = .commandStation ∧ src = .liveC) ∨ (s.role p = .pagingConsole ∧ src = .liveP)) →
     ∃ t u, exec (.liveStart p mask) s = .next t ∧ chrServed p s t ∧ chrEnds s u t
       ∧ (let claimed := (List.finRange 36).filter fun z =>
            (mask.getD (z.val / 8) 0).getLsbD (z.val % 8) && s.speakerConfigured z
          let s0 : State := { s with deliveries := withFrame p s }
          (claimed = [] → answers p ⟨0x86, [3, 5, 0]⟩ s t ∧ u = s0)
          ∧ (claimed ≠ [] → (s.source src).live = true → answers p ⟨0x86, [3, 4, 0]⟩ s t ∧ u = s0)
          ∧ (claimed ≠ [] → (s.source src).live = false →
              answers p ⟨0x86, [3, 0, 0]⟩ s t
              ∧ u = { s0.setSource src ⟨true, claimed, s.now, 0, s.now + 64⟩ with
                  deliveries := withFrame p s ++ claimed.map (fun z => .liveSlotWrite z (.put src)) })))
  ∧ (∀ (p : PortId) (src : LiveSourceId) (s : State),
     ((s.role p = .commandStation ∧ src = .liveC) ∨ (s.role p = .pagingConsole ∧ src = .liveP)) →
     (let ended := fun (way : List Instr) (u : State) =>
        let off := s.setSource src ⟨false, [], 0, 0, 0⟩
        let w : State := { off with
          deliveries := way ++ (s.source src).claimed.map (fun z => .liveSlotWrite z (.erase src))
            ++ (if src = .liveC ∧ s.chr.liveP.live = true then
                 (s.chr.liveC.claimed.filter fun z => s.chr.liveP.claimed.contains z).map fun z =>
                   .liveSlotWrite z (.put .liveP)
               else [])
          chr := { off.chr with waiting := s.chr.waiting.filter fun q => decide (q.demand ≠ .live src) } }
        ∃ x, arbitrated x u ∧ (s.holder (.live src) = none → x = w)
          ∧ ∀ c, s.holder (.live src) = some c → channelReleased c w x
      (canAsk p .chr s → ∃ t u, exec (.liveStop p []) s = .next t ∧ chrServed p s t ∧ chrEnds s u t
        ∧ ((s.source src).live = false → answers p ⟨0x86, [4, 4, 0]⟩ s t ∧ u = { s with deliveries := withFrame p s })
        ∧ ((s.source src).live = true → answers p ⟨0x86, [4, 0, 0]⟩ s t ∧ ended (withFrame p s) u))
      ∧ (s.takes (.chrPortLoss p) = true → ∃ t u, exec (.chrPortLoss p) s = .next t ∧ onlyChannels s t ∧ chrEnds s u t
        ∧ ((s.source src).live = false → u = { s with deliveries := without s (.chrPortLoss p) })
        ∧ ((s.source src).live = true → ended (without s (.chrPortLoss p)) u))))

/-! ## Tenant announcements -/

/-- ANNOUNCE TENANT (R138, R139): RANGE for a start cue that is not configured or a mask without a configured zone; then STATE in
ALARM; then FULL with 12 entries; else the entry joins the tail with the first free ticket from the next ticket on and an aging
timer of T_age, and an admission scan follows (R140, R141). ANNOUNCE CANCEL (R143): STATE for an unknown ticket; a queued entry
leaves the queue; a playing one is cleared, and a scan follows. A scan finds a zone's tenant slot as the Tenant Queue's own
writes on their way leave it (log entry 17); the order of the slot writes of one event is the model's choice (log entry 48). -/
def Obligations.TenantRequestsQueueAndCancelEntries : Prop :=
  ∀ (p : PortId) (s : State), canAsk p .tnq s → (s.role p = .commandStation ∨ s.role p = .pagingConsole) →
    s.tnq.queue.length + s.tnq.playing.length < 256 →
    (∀ (q : Byte) (mask : List Byte), mask.length = 5 →
      ∃ t, exec (.announceTenant p (q :: mask)) s = .next t ∧ tnqServed p s t
        ∧ t.tnq.aged = s.tnq.aged ∧ t.tnq.cut = s.tnq.cut
        ∧ (let zones := (List.finRange 36).filter fun z =>
             (mask.getD (z.val / 8) 0).getLsbD (z.val % 8) && s.speakerConfigured z
           let cueNamed : Prop := ∃ k : Fin 96, k.val = q.toNat ∧ s.cfg.cues[k].configured = true
           let outOfRange : Prop := ¬ cueNamed ∨ zones = []
           let onlyAnswered := fun (reason : Byte) =>
             answers p ⟨0x86, [1, reason, 0]⟩ s t ∧ t.tnq = s.tnq ∧ leaves .tnq (withFrame p s) [] s t
           (outOfRange → onlyAnswered 5)
           ∧ (¬ outOfRange → s.inAlarm = true → onlyAnswered 4)
           ∧ (¬ outOfRange → s.inAlarm = false → 12 ≤ s.tnq.queue.length → onlyAnswered 6)
           ∧ (¬ outOfRange → s.inAlarm = false → s.tnq.queue.length < 12 →
               ∃ n k, k = (s.tnq.nextTicket + n) % 256
                 ∧ (∀ e ∈ s.tnq.queue ++ s.tnq.playing, e.ticket ≠ k)
                 ∧ (∀ j, j < n → ∃ e ∈ s.tnq.queue ++ s.tnq.playing, e.ticket = (s.tnq.nextTicket + j) % 256)
                 ∧ answers p ⟨0x86, [1, 0, byteOf k]⟩ s t ∧ t.tnq.nextTicket = (k + 1) % 256
                 ∧ scanned [] (s.tnq.queue ++ [⟨k, q.toNat, zones, s.now, some (s.now + s.cfg.tAge * 1000), none⟩])
                     s.tnq.playing (withFrame p s) s t)))
    ∧ ∀ k : Byte, ∃ t, exec (.announceCancel p [k]) s = .next t ∧ tnqServed p s t
        ∧ (let others := fun (xs : List TenantEntry) => xs.filter fun e => decide (e.ticket ≠ k.toNat)
           ((∀ e ∈ s.tnq.queue ++ s.tnq.playing, e.ticket ≠ k.toNat) →
             answers p ⟨0x86, [2, 4, 0]⟩ s t ∧ t.tnq = s.tnq ∧ leaves .tnq (withFrame p s) [] s t)
           ∧ ((∃ e ∈ s.tnq.queue, e.ticket = k.toNat) →
             answers p ⟨0x86, [2, 0, 0]⟩ s t ∧ t.tnq = { s.tnq with queue := others s.tnq.queue }
             ∧ leaves .tnq (withFrame p s) [] s t)
           ∧ ∀ e, (∀ x ∈ s.tnq.queue, x.ticket ≠ k.toNat) →
               (s.tnq.playing.find? fun x => decide (x.ticket = k.toNat)) = some e →
               answers p ⟨0x86, [2, 0, 0]⟩ s t
               ∧ t.tnq = { s.tnq with queue := t.tnq.queue, playing := t.tnq.playing }
               ∧ scanned e.zones s.tnq.queue (others s.tnq.playing) (withFrame p s ++ clearing e) s t)

/-- The end of a playing entry (R142): its slots are cleared and an admission scan follows (log entry 17: `scanned`); a
completion counts nothing, a pre-emption and an emptied programme count one cut. Without such an entry the delivery is
discarded. The order of the slot writes of one event is the model's choice (log entry 48).

A refused entry (R141) is cleared (order of the writes: log entry 48) and returns to the queue by its enqueue instant with its own expiry; with the queue full it
is cut, whether or not its expiry has passed; with room in the queue and its expiry passed it is aged. A queued entry whose
aging timer expires is removed and counted (R144).

When TNQ takes the entry of the regime to ALARM it flushes: both lists are empty, the slots of the playing entries are
cleared in the order of the playing list, the model's choice (log entry 48), and each entry counts one cut (R145). A free channel makes an admission scan (R140, and log entry 17 for the slots it
finds). -/
def Obligations.TenantEntriesEndReturnAgeAndFlush : Prop :=
  (∀ (k : Nat) (c : Instr) (s : State),
     (c = .tenantCompletion k ∨ c = .tenantPreEmption k ∨ c = .tenantProgrammeEmptied k) → s.takes c = true →
     ((∀ e ∈ s.tnq.playing, e.ticket ≠ k) → exec c s = .next { s with deliveries := without s c })
     ∧ ∀ e, (s.tnq.playing.find? fun x => decide (x.ticket = k)) = some e →
         ∃ t, exec c s = .next t ∧ t = { s with tnq := t.tnq, deliveries := t.deliveries }
           ∧ t.tnq.nextTicket = s.tnq.nextTicket ∧ t.tnq.aged = s.tnq.aged
           ∧ t.tnq.cut = (if c = .tenantCompletion k then s.tnq.cut else min 65535 (s.tnq.cut + 1))
           ∧ scanned e.zones s.tnq.queue (s.tnq.playing.filter fun x => decide (x.ticket ≠ k))
               (without s c ++ clearing e) s t)
  ∧ (∀ (k : Nat) (s : State),
     (s.takes (.tenantRefusal k) = true →
       ((∀ e ∈ s.tnq.playing, e.ticket ≠ k) →
         exec (.tenantRefusal k) s = .next { s with deliveries := without s (.tenantRefusal k) })
       ∧ ∀ e, (s.tnq.playing.find? fun x => decide (x.ticket = k)) = some e → (∀ x ∈ s.tnq.queue, x.ticket ≠ k) →
           ∃ t, exec (.tenantRefusal k) s = .next t ∧ t = { s with tnq := t.tnq, deliveries := t.deliveries }
             ∧ leaves .tnq (without s (.tenantRefusal k) ++ clearing e) [] s t
             ∧ t.tnq = { s.tnq with
                 playing := s.tnq.playing.filter fun x => decide (x.ticket ≠ k)
                 queue := t.tnq.queue, aged := t.tnq.aged, cut := t.tnq.cut }
             ∧ (let expiry := e.enqueued + s.cfg.tAge * 1000
                (12 ≤ s.tnq.queue.length → t.tnq.queue = s.tnq.queue ∧ t.tnq.aged = s.tnq.aged
                  ∧ t.tnq.cut = min 65535 (s.tnq.cut + 1))
                ∧ (s.tnq.queue.length < 12 → expiry ≤ s.now → t.tnq.queue = s.tnq.queue
                  ∧ t.tnq.aged = min 65535 (s.tnq.aged + 1) ∧ t.tnq.cut = s.tnq.cut)
                ∧ (s.tnq.queue.length < 12 → s.now < expiry → t.tnq.aged = s.tnq.aged ∧ t.tnq.cut = s.tnq.cut
                  ∧ ∃ a b, s.tnq.queue = a ++ b
                    ∧ t.tnq.queue = a ++ { e with aging := some expiry, started := none } :: b
                    ∧ (∀ x ∈ a, x.enqueued ≤ e.enqueued) ∧ ∀ x, b.head? = some x → e.enqueued < x.enqueued)))
     ∧ ∀ e i, (s.tnq.queue.find? fun x => decide (x.ticket = k)) = some e → e.aging = some i → i ≤ s.now →
         ∃ t, exec (.agingTimerExpiry k) s = .next t ∧ t = { s with tnq := t.tnq, deliveries := t.deliveries }
           ∧ leaves .tnq s.deliveries [] s t
           ∧ t.tnq = { s.tnq with
               queue := s.tnq.queue.filter fun x => decide (x.ticket ≠ k), aged := min 65535 (s.tnq.aged + 1) })
  ∧ (∀ s : State,
     (s.takes .tnqAlarmFlush = true → ∃ t, exec .tnqAlarmFlush s = .next t
       ∧ t = { s with tnq := t.tnq, deliveries := t.deliveries }
       ∧ t.tnq = { s.tnq with
           queue := [], playing := []
           cut := min 65535 (s.tnq.cut + (s.tnq.queue.length + s.tnq.playing.length)) }
       ∧ leaves .tnq (without s .tnqAlarmFlush) (s.tnq.playing.flatMap clearing) s t)
     ∧ (s.takes .tnqChannelFree = true → ∃ t, exec .tnqChannelFree s = .next t
       ∧ t = { s with tnq := t.tnq, deliveries := t.deliveries }
       ∧ t.tnq = { s.tnq with queue := t.tnq.queue, playing := t.tnq.playing }
       ∧ scanned [] s.tnq.queue s.tnq.playing (without s .tnqChannelFree) s t))

/-! ## Troubles and party supervision -/

/-- A raise (R148) sets the condition of an entry that stands, else makes an entry at the tail, else counts an overflow. A clear
(R149) leaves a latching entry that is not acknowledged with its condition not present and removes any other; the removal of a
VERIFY BYPASSED or CHANNEL UNDERRUN entry is delivered to its block. -/
def Obligations.RaisesAndClearsKeepTheTroubleList : Prop :=
  ∀ (k : TroubleKind) (n : Nat) (s : State), troublesFit s →
    (let names := fun (e : TroubleEntry) => decide (e.kind = k ∧ e.subject = n)
     let onlyTrl := fun (t : State) => t = { s with trl := t.trl, deliveries := t.deliveries }
     (s.takes (.troubleRaise k n) = true → ∃ t, exec (.troubleRaise k n) s = .next t ∧ onlyTrl t
       ∧ leaves .trl (without s (.troubleRaise k n)) [] s t
       ∧ t.trl =
           if s.trl.entries.any names then
             { s.trl with entries := s.trl.entries.map fun e => if names e then { e with present := true } else e }
           else if s.trl.entries.length < 48 then
             { s.trl with entries := s.trl.entries ++ [⟨k, n, s.now, true, false⟩] }
           else { s.trl with overflow := min 65535 (s.trl.overflow + 1) })
     ∧ (s.takes (.troubleClear k n) = true → ∃ t, exec (.troubleClear k n) s = .next t ∧ onlyTrl t
       ∧ (s.trl.entries.any names = false → t.trl = s.trl ∧ leaves .trl (without s (.troubleClear k n)) [] s t)
       ∧ ∀ e ∈ s.trl.entries, names e = true →
           (let stays : Prop := e.acknowledged = false
              ∧ (k = .verifyBypassed ∨ k = .doorFailed ∨ k = .channelUnderrun ∨ k = .memoryReadFault)
            (stays →
              t.trl = { s.trl with
                entries := s.trl.entries.map fun x => if names x then { x with present := false } else x }
              ∧ leaves .trl (without s (.troubleClear k n)) [] s t)
            ∧ (¬ stays →
              t.trl = { s.trl with entries := s.trl.entries.filter fun x => !names x }
              ∧ leaves .trl (without s (.troubleClear k n))
                  (match k with
                    | .verifyBypassed => (toIndex 64 n).toList.map .verifyBypassedRemoval
                    | .channelUnderrun => (toIndex 4 n).toList.map .underrunRemoval
                    | _ => []) s t))))

/-- An ACKNOWLEDGE at TRL sets the acknowledged flag of every entry, removes every latching entry whose condition present is no,
sets the overflow count to 0, and leaves every other entry in its order (R150). -/
def Obligations.AcknowledgeMarksEveryTrouble : Prop :=
  ∀ s : State, s.takes .trlAcknowledge = true →
    ∃ t, exec .trlAcknowledge s = .next t ∧ t = { s with trl := t.trl, deliveries := t.deliveries }
      ∧ (let removed := fun (e : TroubleEntry) => decide (e.present = false
           ∧ (e.kind = .verifyBypassed ∨ e.kind = .doorFailed ∨ e.kind = .channelUnderrun ∨ e.kind = .memoryReadFault))
         t.trl.overflow = 0
         ∧ t.trl.entries = (s.trl.entries.filter fun e => !removed e).map (fun e => { e with acknowledged := true })
         ∧ ∃ news, leaves .trl (without s .trlAcknowledge) news s t
           ∧ (∀ z : ZoneId, .verifyBypassedRemoval z ∈ news ↔
               ∃ e ∈ s.trl.entries, removed e = true ∧ e.kind = .verifyBypassed ∧ e.subject = z.val)
           ∧ (∀ c : ChannelId, .underrunRemoval c ∈ news ↔
               ∃ e ∈ s.trl.entries, removed e = true ∧ e.kind = .channelUnderrun ∧ e.subject = c.val))

/-- A port becomes LOST at the expiry of its supervision timer, and, used and still ABSENT, at the end of the start grace (R153):
attach count 0, no timer, PARTY LOST raised, and the loss delivered by its role (R154). -/
def Obligations.SilentPartiesAreLost : Prop :=
  ∀ s : State,
    (∀ p : PortId, s.due s.links.ports[p].supervision = true →
      ∃ t, exec (.supervisionTimerExpiry p) s = .next t ∧ t = { s with links := t.links, deliveries := t.deliveries }
        ∧ t.links.grace = s.links.grace
        ∧ t.links.ports[p] = { s.links.ports[p] with presence := .lost, attach := 0, supervision := none }
        ∧ (∀ q : PortId, q ≠ p → t.links.ports[q] = s.links.ports[q])
        ∧ leaves (.port p) s.deliveries (lossDeliveries p s) s t)
    ∧ (s.due s.links.grace = true →
      ∃ t, exec .startGraceEnd s = .next t ∧ t = { s with links := t.links, deliveries := t.deliveries }
        ∧ t.links.grace = none
        ∧ ∃ news, t.deliveries = s.deliveries ++ news ∧ ∀ p : PortId,
            let silent : Prop := s.role p ≠ .unused ∧ s.links.ports[p].presence = .absent
            (silent → t.links.ports[p] = { s.links.ports[p] with presence := .lost, attach := 0, supervision := none }
              ∧ ∀ e ∈ lossDeliveries p s, e ∈ news)
            ∧ (¬ silent → t.links.ports[p] = s.links.ports[p] ∧ .troubleRaise .partyLost p.val ∉ news))

/-! ## Party links -/

/-- POLL (R152, R167, R171): the frame counts toward the presence of its port and is answered SUMMARY; in CONFIG FAULT the fixed
SUMMARY is given and presence stands.

READ (R166): an unknown table is refused RANGE; else the answer gives the table, the first row, the smallest of the requested
count, the rows from the first to the last and the whole rows in 53 bytes, and that many rows of the state the answer is made
in, each of the table's row size (what a row holds is stated of ReadRowsFollowTheLayouts). -/
def Obligations.PollAndReadAnswerTheState : Prop :=
  (∀ (p : PortId) (s : State), s.hears p = true →
     ∃ t, exec (.poll p []) s = .next t ∧ portServed p s t
       ∧ (s.configFault = true → leaves (.port p) s.deliveries [] s t
           ∧ answers p ⟨0x81, [0, 1, 0xFF, 0xFF, 0xFF, 0xFF] ++ List.replicate 15 0 ++ [0xFF]⟩ s t
           ∧ t.links.ports[p].presence = s.links.ports[p].presence
           ∧ t.links.ports[p].supervision = s.links.ports[p].supervision)
       ∧ (s.configFault = false → leaves (.port p) (withFrame p s) [] s t ∧ presenceAfter p s t.links.ports[p]
           ∧ (let level := fun (h : Option Nat) => h.elim (0xFF : Byte) byteOf
              let presence := fun (q : PortId) => if s.role q = .unused then (0xFF : Byte)
                else match t.links.ports[q].presence with
                  | .absent => 0
                  | .attaching => 1
                  | .present => 2
                  | .lost => 3
              answers p ⟨0x81,
                [match s.rge.regime with
                  | .normal => 0
                  | .prealarm => 1
                  | .alarm => 2,
                 (if s.cfs.mode then 2 else 0) + (if s.rge.acknowledged then 4 else 0),
                 level s.rge.silence, level s.rge.evacuateAll, level s.rge.expansionHold, level s.rge.manual]
                ++ bytes2 s.rge.changeCounter.toNat ++ [byteOf s.rge.stepCount] ++ bytes2 s.elapsed
                ++ [byteOf s.trl.entries.length, byteOf (s.trl.entries.filter fun e => !e.acknowledged).length]
                ++ bytes2 s.trl.overflow ++ (List.finRange 6).map presence
                ++ [level (s.rge.firstAlarms.head?.map fun f => f.val)]⟩ s t)))
  ∧ (∀ (p : PortId) (code first n : Byte) (s : State), s.hears p = true → s.configFault = false →
     ∃ t, exec (.read p [code, first, n]) s = .next t ∧ portServed p s t ∧ leaves (.port p) (withFrame p s) [] s t
       ∧ presenceAfter p s t.links.ports[p]
       ∧ (code.toNat = 0 ∨ 11 < code.toNat → answers p ⟨0xFF, [5, 5]⟩ s t)
       ∧ ∀ rows size, (code.toNat, rows, size) ∈ [(1, s.cfg.topFloor + 1, 8), (2, 64, 6), (3, 48, 6), (4, 132, 10), (5, 12, 6),
             (6, 2, 10), (7, 49, 10), (8, 41, 32), (9, 13 + s.tnq.playing.length, 18), (10, 6, 10), (11, 8, 4)] →
           (let count := min n.toNat (min (rows - first.toNat) (53 / size))
            ∃ tb data, t.tableNamed code.toNat = some tb ∧ data.length = count * size
              ∧ data = tb.rowsFrom t first.toNat count
              ∧ answers p ⟨0x85, [code, first, byteOf count] ++ data⟩ s t))

/-- The rows of READ are a table's rows one after the other, and each has the fields and widths of R166 in its order, padded with
zeros: FLOORS, ZONES, LOOPS and AREAS (R166, R136). A field that is none is 0xFF; that an unconfigured zone's row is zeros, and
what a live area counts as complete, are log entries 13 and 28; several areas of one channel, log entry 43;
an area of join none with a size, log entry 49.

The rows of DOORS, CARS and BANKS (R166, R71, R88, R50): a strike with its state, sub-phase, queue class and place in its
group's queue, a magnet with 0xFF for what it does not hold, the supply groups behind the door points, the cars, and the
banks. The shutdown timer is given in the whole seconds that it holds (log entry 40); 0xFF for what a magnet has not, and zeros
for what is not configured, are log entry 13.

The rows of CHANNELS (R166, R117, R136, R137): a channel with its programme, grant, begun flag (none without a programme),
zone set, area, sticky flag, chain and finished mark; a speaker zone with its three slots, its effective demand, whether it
rests (R106) and the channel whose zone set holds it; the monitor, its channel 0xFF but under CHANNEL (log entry 13), and the
live sources. That a channel joined to several areas has the lowest-numbered is the model's choice (log entry 43).

The rows of TROUBLES, TENANT QUEUE and PORTS (R166, R138, R147, R155): the counts in row 0 and the entries behind it, an empty
row of zeros. The time to an aging expiry is given in the whole seconds that it holds (log entry 40); the row of an UNUSED port
is log entry 13. -/
def Obligations.ReadRowsFollowTheLayouts : Prop :=
  (∀ s : State,
     (let one := fun (n : Nat) => ((1, some n) : Nat × Option Nat)
      let two := fun (n : Nat) => ((2, some n) : Nat × Option Nat)
      let flag := fun (b : Bool) => ((1, some b.toNat) : Nat × Option Nat)
      (∀ code table first n, s.tableNamed code = some table →
        table.rowsFrom s first 0 = []
        ∧ table.rowsFrom s first (n + 1) = table.rowsFrom s first 1 ++ table.rowsFrom s (first + 1) n)
      ∧ (∀ f : FloorId,
          let r := s.rge.floors[f]
          rowIs s 1 f.val 8
            [flag s.cfg.floors[f].alwaysEvacuate, one ([Phase.quiet, .alert, .evacuate].idxOf r.phase), one r.alarmed,
              one r.prealarmed, flag r.origin, flag r.impaired, two r.entryTime])
      ∧ (∀ z : ZoneId,
          let r := s.rge.zones[z]
          rowIs s 2 z.val 6
            (if s.cfg.zones[z].configured then
               [one 1, one ([ZoneState.normal, .prealarm, .alarm, .fault, .isolated].idxOf r.state),
                 one ([Condition.clear, .alarm, .fault].idxOf r.condition), one r.unconfirmed]
             else []))
      ∧ (∀ l : LoopId,
          let r := s.lsc.loops[l]
          let bands := [Band.short, .alarm, .normal, .openLine]
          rowIs s 3 l.val 6
            [one ([LoopRole.zoneInput, .doorFeedback, .keyswitch, .unused].idxOf s.cfg.loops[l].role),
              one s.cfg.loops[l].set, one (bands.idxOf r.stable), one (bands.idxOf r.pendingBand), one r.pendingCount])
      ∧ ∀ a : Fin 8,
          let complete := match s.cfg.areas[a].join with
            | none => 0
            | some (.channel c) => (s.chr.channels[c].slots.filter fun x => decide (x.status = .complete)).length
            | some (.live src) => min (s.source src).blocks s.cfg.areas[a].size
          rowIs s 11 a.val 4
            [one s.cfg.areas[a].size,
              (1, s.cfg.areas[a].join.map fun j =>
                [AreaJoin.channel 0, .channel 1, .channel 2, .channel 3, .live .liveC, .live .liveP].idxOf j),
              one complete]))
  ∧ (∀ s : State,
     (let one := fun (n : Nat) => ((1, some n) : Nat × Option Nat)
      let two := fun (n : Nat) => ((2, some n) : Nat × Option Nat)
      let flag := fun (b : Bool) => ((1, some b.toNat) : Nat × Option Nat)
      (∀ d : DoorId, s.cfg.doors[d].configured = false → rowIs s 4 d.val 10 [])
      ∧ (∀ (d : DoorId) (state : Nat) (sub : Option Nat) (g : GroupId), s.isStrike d = true →
          s.cfg.doors[d].group = g.val →
          ((s.dsq.doors[d] = .secured ∧ state = 0 ∧ sub = none) ∨ (s.dsq.doors[d] = .queued ∧ state = 1 ∧ sub = none)
            ∨ ((∃ i, s.dsq.doors[d] = .ramp i) ∧ state = 2 ∧ sub = some 0)
            ∨ ((∃ i, s.dsq.doors[d] = .verify i) ∧ state = 2 ∧ sub = some 1)
            ∨ (s.dsq.doors[d] = .released ∧ state = 3 ∧ sub = none) ∨ (s.dsq.doors[d] = .failed ∧ state = 4 ∧ sub = none)) →
          rowIs s 4 d.val 10
            [one 1, one 0, one s.cfg.doors[d].floor, (1, s.cfg.doors[d].stair), one g.val, one state, (1, sub),
              (1, (s.dsq.groups[g].queue.find? fun e => decide (e.door = d)).map fun e => e.cls),
              (1, s.dsq.groups[g].queue.findIdx? fun e => decide (e.door = d))])
      ∧ (∀ (d : DoorId) (state : Nat), s.isMagnet d = true →
          ((s.dsq.doors[d] = .holding ∧ state = 0) ∨ (s.dsq.doors[d] = .dropped ∧ state = 1)) →
          rowIs s 4 d.val 10
            [one 1, one 1, one s.cfg.doors[d].floor, (1, s.cfg.doors[d].stair), (1, none), one state, (1, none), (1, none),
              (1, none)])
      ∧ (∀ g : GroupId,
          let r := s.dsq.groups[g]
          rowIs s 4 (128 + g.val) 10
            [one ([Takeover.owned, .handingOver, .taken, .reacquiring].idxOf r.takeover), two r.holdSum, flag r.limited,
              one r.carry, one r.queue.length, two (r.nextRelease - s.now)])
      ∧ (∀ (c : CarId) (b : BankId), c.val / 6 = b.val →
          let r := s.lfc.cars[c]
          rowIs s 5 c.val 6
            [flag (s.cfg.banks[b].configured && decide (c.val % 6 < s.cfg.banks[b].cars)), one r.position,
              one ([Motion.up, .down, .stopped].idxOf r.motion), one ([CarDoors.openDoors, .closed, .moving].idxOf r.doors),
              one ([CarMode.normal, .independent, .outOfService, .recalling, .atRecallLanding, .phaseII].idxOf r.mode),
              flag r.stale])
      ∧ ∀ b : BankId,
          let r := s.lfc.banks[b]
          let unavailable : Prop := ∃ a : BankId, s.lfc.banks[a].order ≠ .none
            ∨ (s.cfg.banks[a].configured = true ∧ s.lfc.banks[a].link = .lost)
          rowIs s 6 b.val 10
            (if s.cfg.banks[b].configured then
               [one 1, one ([LiftOrder.none, .recall, .shutdown, .tripped].idxOf r.order),
                 one ([Landing.designated, .alternate].idxOf r.landing), flag r.flashing, flag r.phaseII,
                 one (r.reasons.lobby.toNat + 2 * r.reasons.shaft.toNat + 4 * r.reasons.sprinkler.toNat
                   + 8 * r.reasons.general.toNat + 16 * r.reasons.manual.toNat),
                 two ((r.timer.elim 0 fun i => i - s.now) / 1000),
                 one ([Presence.absent, .attaching, .present, .lost].idxOf r.link), flag (decide unavailable)]
             else [])))
  ∧ (∀ s : State,
     (let one := fun (n : Nat) => ((1, some n) : Nat × Option Nat)
      let flag := fun (b : Bool) => ((1, some b.toNat) : Nat × Option Nat)
      let sources := [LiveSourceId.liveC, .liveP]
      (∀ c : ChannelId,
        let r := s.chr.channels[c]
        let k := s.cue.chains[c]
        let m := s.cue.finished[c]
        let kind := fun (d : Demand) => match d with
          | .fire _ _ => 0
          | .live _ => 1
          | .tenant _ _ => 2
        let subject := fun (d : Demand) => match d with
          | .fire q _ => q
          | .live src => sources.idxOf src
          | .tenant _ q => q
        let priority := fun (d : Demand) => match d with
          | .live .liveC => 0
          | .fire _ .evac => 1
          | .fire _ .alert => 2
          | .live .liveP => 3
          | .tenant _ _ => 4
        rowIs s 8 c.val 32
          ([one ([ChannelState.standby, .waking, .ready, .playing].idxOf r.state),
              (1, r.grant.map fun g => kind g.prog.demand), (1, r.grant.map fun g => subject g.prog.demand),
              (1, r.grant.map fun g => priority g.prog.demand), (4, r.grant.map fun g => g.prog.instant),
              (4, r.grant.map fun g => g.granted), (1, r.grant.map fun _ => r.begun.toNat)]
            ++ setFields r.zoneSet
            ++ [(1, ((List.finRange 8).find? fun a => decide (s.cfg.areas[a].join = some (.channel c))).map fun a => a.val),
              flag r.underrun, (1, k.map fun x => x.cue), (1, k.map fun x => x.remaining.getD 0),
              (1, m.map fun x => x.cue), (1, m.map fun x => x.startCue), (4, m.map fun x => x.instant)]))
      ∧ (∀ z : SpeakerId,
          let r := s.cue.zones[z]
          let strongest := match r.live, r.fire, r.tenant with
            | some ⟨.liveC, _⟩, _, _ => some (1, false)
            | _, some f, _ => some (0, f.complete)
            | some _, none, _ => some (1, false)
            | none, none, some x => some (2, x.complete)
            | none, none, none => none
          rowIs s 8 (4 + z.val) 32
            [flag (s.speakerConfigured z),
              (1, r.fire.map fun f => f.cue), (1, r.fire.map fun f => if f.prio = .evac then 1 else 2),
              (4, r.fire.map fun f => f.instant), (1, r.fire.map fun f => f.complete.toNat),
              (1, r.live.map fun l => sources.idxOf l.source), (4, r.live.map fun l => l.instant),
              (1, r.tenant.map fun x => x.ticket), (1, r.tenant.map fun x => x.cue),
              (4, r.tenant.map fun x => x.instant), (1, r.tenant.map fun x => x.complete.toNat),
              (1, strongest.map fun x => x.1), flag (strongest.any fun x => x.2),
              (1, ((List.finRange 4).find? fun c => s.chr.channels[c].zoneSet.contains z).map fun c => c.val)])
      ∧ rowIs s 8 40 32
          ([one (match s.chr.selection with
              | .off => 0
              | .channel _ => 1
              | .followOrigin => 2),
            (1, match s.chr.selection with
              | .channel c => some c.val
              | _ => none),
            (1, s.chr.monitored.map fun c => c.val)]
            ++ [flag s.chr.liveC.live] ++ setFields s.chr.liveC.claimed
            ++ [flag s.chr.liveP.live] ++ setFields s.chr.liveP.claimed)))
  ∧ (∀ s : State,
     (let one := fun (n : Nat) => ((1, some n) : Nat × Option Nat)
      let two := fun (n : Nat) => ((2, some n) : Nat × Option Nat)
      let four := fun (n : Nat) => ((4, some n) : Nat × Option Nat)
      let flag := fun (b : Bool) => ((1, some b.toNat) : Nat × Option Nat)
      let entry := fun (e : TenantEntry) => [one e.ticket, one e.cue] ++ setFields e.zones ++ [four e.enqueued]
      rowIs s 7 0 10
        [one s.trl.entries.length, one (s.trl.entries.filter fun e => decide (e.acknowledged = false)).length,
          two s.trl.overflow]
      ∧ (∀ k, k < 48 → rowIs s 7 (k + 1) 10 (match s.trl.entries[k]? with
          | none => []
          | some e =>
            [one ([TroubleKind.loopOpen, .loopShort, .zoneFault, .zoneIsolated, .verifyBypassed, .partyLost, .doorFailed,
                .supplyLimit, .takeoverActive, .channelUnderrun, .memoryReadFault].idxOf e.kind),
              one e.subject, four e.raised,
              flag (decide (e.kind ∈ [.verifyBypassed, .doorFailed, .channelUnderrun, .memoryReadFault])),
              flag e.present, flag e.acknowledged]))
      ∧ rowIs s 9 0 18
          [two s.tnq.aged, two s.tnq.cut, one s.tnq.nextTicket, one s.tnq.queue.length, one s.tnq.playing.length]
      ∧ (∀ k, k < 12 → rowIs s 9 (k + 1) 18 (match s.tnq.queue[k]? with
          | none => []
          | some e => entry e ++ [two ((e.aging.elim 0 fun i => i - s.now) / 1000)]))
      ∧ (∀ k e, s.tnq.playing[k]? = some e → rowIs s 9 (13 + k) 18 (entry e ++ [(4, e.started)]))
      ∧ ∀ p : PortId,
          let r := s.links.ports[p]
          rowIs s 10 p.val 10
            (if s.role p = .unused then one 4 :: List.replicate 7 (1, none) ++ [two 0]
             else
               [one ([PortRole.commandStation, .firePanel, .pagingConsole, .liftGroup].idxOf (s.role p)),
                 one ([Presence.absent, .attaching, .present, .lost].idxOf r.presence), one r.attach,
                 one r.errors.framing, one r.errors.parity, one r.errors.overrun, one r.errors.check, one r.errors.length,
                 two (r.supervision.elim 0 fun i => i - s.now)])))

/-- The outputs follow the state: the common alarm and unacknowledged-alarm contacts (R27), the trouble contact (R151), the four
contacts of each configured bank (R67), the door drivers and the drive line of a TAKEN group (R71, R95), TAKEOVER ACK (5.6),
the amplifier enables (R119), a zone's speaker line (R125) and the monitor output (R135); in CONFIG FAULT the trouble contact
alone is asserted (R171). -/
def Obligations.OutputsFollowTheState : Prop :=
  ∀ s : State,
    (let up : Prop := s.configFault = false
     (s.alarmContact = true ↔ up ∧ s.rge.regime = .alarm)
     ∧ (s.unacknowledgedContact = true ↔ up ∧ s.rge.regime = .alarm ∧ s.rge.acknowledged = false)
     ∧ (s.troubleContact = true ↔ ¬ up ∨ s.trl.entries ≠ [] ∨ 0 < s.trl.overflow)
     ∧ (∀ b : BankId,
         let r := s.lfc.banks[b]
         let driven : Prop := up ∧ s.cfg.banks[b].configured = true
         (s.recallContact b = true ↔ driven ∧ r.order ≠ .none)
         ∧ (s.alternateContact b = true ↔ driven ∧ r.order ≠ .none ∧ r.landing = .alternate)
         ∧ (s.lampContact b = true ↔ driven ∧ r.flashing = true ∧ r.lampOn = true)
         ∧ (s.shuntContact b = true ↔ driven ∧ r.order = .tripped))
     ∧ (∀ d : DoorId,
         let energised : Prop := match s.dsq.doors[d] with
           | .ramp _ | .verify _ | .released | .failed | .holding => True
           | _ => False
         ((¬ up ∨ s.cfg.doors[d].configured = false) → s.doorDriver d = false)
         ∧ (up → s.isMagnet d = true → (s.doorDriver d = true ↔ energised))
         ∧ ∀ g : GroupId, up → s.isStrike d = true → s.cfg.doors[d].group = g.val →
             (s.dsq.groups[g].takeover = .taken → s.doorDriver d = s.dsq.groups[g].drive)
             ∧ (s.dsq.groups[g].takeover ≠ .taken → (s.doorDriver d = true ↔ energised)))
     ∧ (∀ g : GroupId, s.takeoverAck g = true ↔ up ∧ s.dsq.groups[g].takeover = .taken)
     ∧ (∀ c : ChannelId, s.channelEnable c = true ↔ up ∧ s.chr.channels[c].state ≠ .standby)
     ∧ (∀ z : SpeakerId,
         ((∀ c : ChannelId, z ∉ s.chr.channels[c].zoneSet) → s.speakerAudio z = .silence)
         ∧ ∀ c : ChannelId, z ∈ s.chr.channels[c].zoneSet → (∀ k : ChannelId, k < c → z ∉ s.chr.channels[k].zoneSet) →
             s.speakerAudio z = s.chr.channels[c].audio)
     ∧ (s.chr.monitored = none → s.monitorAudio = .silence)
     ∧ ∀ c : ChannelId, s.chr.monitored = some c → s.monitorAudio = s.chr.channels[c].audio)

/-- The checks of a taken request, in their order (R164): a kind that is none of the seven is refused KIND; in CONFIG FAULT every
kind but POLL is refused CONFIG, and a POLL with a body RANGE; then a role that may not send the kind is refused ROLE; then a
body without the form of its kind is refused RANGE. A port that does not hear its line takes nothing. A request command with a
body above 56 bytes is no frame: that it acts as a length error is the model's choice (log entry 36).

What the owner of a request answers before it decides: KIND for a command code, an ANNOUNCE sub-kind or a CONFIGURE sub-kind
that names nothing, in every mode (R165, R167, R173); ROLE for a command that the FIRE PANEL may not issue (R165). -/
def Obligations.RequestsAreCheckedInOrder : Prop :=
  (∀ (i : Instr) (p : PortId) (kind : Byte) (body : List Byte) (s : State), frameOf i = some (p, kind, body) →
     (s.hears p = false → exec i s = .next s)
     ∧ (s.hears p = true → 56 < body.length → ∃ t, exec i s = .next t ∧ failsWith p [.length] (s.instantAt 0) s t)
     ∧ (s.hears p = true → body.length ≤ 56 →
         (let refusedWith := fun (reason : Byte) => ∃ t, exec i s = .next t ∧ answers p ⟨0xFF, [kind, reason]⟩ s t
            ∧ portServed p s t ∧ leaves (.port p) (if s.configFault then s.deliveries else withFrame p s) [] s t
          let known : Prop := 1 ≤ kind.toNat ∧ kind.toNat ≤ 7
          (¬ known → refusedWith 1)
          ∧ (known → s.configFault = true → kind.toNat ≠ 1 → refusedWith 7)
          ∧ (known → s.configFault = true → kind.toNat = 1 → body ≠ [] → refusedWith 5)
          ∧ (known → s.configFault = false → ¬ mayAsk kind.toNat (s.role p) → refusedWith 2)
          ∧ (known → s.configFault = false → mayAsk kind.toNat (s.role p) → ¬ wellFormedBody kind.toNat body → refusedWith 5))))
  ∧ (∀ (p : PortId) (n : Byte) (args : List Byte) (s : State), s.hears p = true → s.configFault = false → args.length ≤ 55 →
     (let served := fun (t : State) => portServed p s t ∧ leaves (.port p) (withFrame p s) [] s t
      (n.toNat = 0 ∨ 19 < n.toNat → s.role p = .commandStation ∨ s.role p = .firePanel →
        ∃ t, exec (.unknownCommandCode p n args) s = .next t ∧ served t ∧ answers p ⟨0x83, [n, 1]⟩ s t)
      ∧ (n.toNat = 0 ∨ 4 < n.toNat → s.role p = .commandStation ∨ s.role p = .pagingConsole →
        ∃ t, exec (.unknownAnnounceSubkind p n args) s = .next t ∧ served t ∧ answers p ⟨0x86, [n, 1, 0]⟩ s t)
      ∧ (n.toNat = 0 ∨ 4 < n.toNat → s.role p = .commandStation →
        ∃ t off, exec (.unknownConfigureSubkind p n args) s = .next t ∧ served t
          ∧ answers p ⟨0x87, [n, 1] ++ bytes2 off⟩ s t)
      ∧ ∀ i body, frameOf i = some (p, 3, n :: body) → s.role p = .firePanel → 11 ≤ n.toNat → n.toNat ≤ 19 →
          body.length = argumentCount n.toNat →
          ∃ t, exec i s = .next t ∧ served t ∧ answers p ⟨0x83, [n, 2]⟩ s t))

/-- The characters of a line (R158): a start bit of 0, the data bits with the least significant first, the mark or parity bit and a
stop bit of 1; a framing error when two or three of the three samples of the stop bit are 0; a parity error when the number of
1s is odd. What the part sends has neither error, carries its byte, and is heard by a port of the same mode as it was sent: the
characters of an answer frame are collected to its last and then taken whole (R161). An ADDRESSED answer begins with the
address character 127 (R159). That its bits follow without a gap is log entry 10. -/
def Obligations.SentCharactersAreHeard : Prop :=
  (∀ ch : LineChar,
    wireBits ch = false :: (List.range 8).map (fun i => (dataOf ch).getLsbD i) ++ [ninthBit ch, true]
    ∧ (framingError ch = true ↔
        (ch.stop.getLsbD 0).toNat + (ch.stop.getLsbD 1).toNat + (ch.stop.getLsbD 2).toNat ≤ 1)
    ∧ (parityError ch = true ↔
        (((List.range 8).map fun i => ((dataOf ch).getLsbD i).toNat).sum + (ninthBit ch).toNat) % 2 = 1))
  ∧ (∀ (m : PortMode) (b : Byte),
      dataOf (dataChar m b) = b ∧ framingError (dataChar m b) = false
      ∧ (m = .addressed → ninthBit (dataChar m b) = false) ∧ (m = .direct → parityError (dataChar m b) = false)
      ∧ dataOf (addressChar b) = b ∧ framingError (addressChar b) = false ∧ ninthBit (addressChar b) = true)
  ∧ (∀ a : Answer, a.body.length ≤ 56 →
      collected (answerFrame a) = .takes a.kind a.body
      ∧ (∀ n, n < (answerFrame a).length → collected ((answerFrame a).take n) = .collects ((answerFrame a).take n))
      ∧ answerLine .addressed a = addressChar 127 :: (answerFrame a).map (dataChar .addressed)
      ∧ answerLine .direct a = (answerFrame a).map (dataChar .direct))
  ∧ ∀ (p : PortId) (s : State),
      (s.links.ports[p].rx ≠ .answering → ∀ at_, s.lineOutput p at_ = true)
      ∧ ∀ (a : Answer) (at_ i : Nat), s.links.ports[p].rx = .answering → s.links.ports[p].answer = some a →
          i * 1000000 ≤ (at_ - s.links.ports[p].begunAt) * s.portBaud p →
          (at_ - s.links.ports[p].begunAt) * s.portBaud p < (i + 1) * 1000000 →
          s.lineOutput p at_ = ((answerLine (s.portMode p) a).flatMap wireBits).getD i true

/-- Selection and frame starts (R159, R160): an address character for this station receives afresh, one for another station
listens; a character whose start bit follows 2 character times of idle line, by the port's own clock, receives with its data
as the kind, whichever of its two commands brings it. A port that was PREPARING abandons its answer (R162). That the instant
of a character is its end is log entry 10.

Other characters without an error (R159, R160, R161): a frame is collected; a length byte above 56 is a length error; a
complete frame whose check matches is taken as its request, one of kind 3, 6 or 7 without a body is refused by the checks of
R164, and one whose check does not match has a check error. In PREPARING a character is a length error or an overrun, by the
mode; in LISTENING of DIRECT mode it leads to DISCARDING; else it is ignored. The line is idle again from the end of each
character (log entry 10).

The receive errors of a port that hears its line, by its state, its mode and the bits of the character (the table of R163): a
character with a framing error is no frame start and counts no parity error; in PREPARING it, or one with a parity error that is no
frame start, is an overrun or length error too (log entries 44, 52). The character leads to DISCARDING with the counter of each of its
errors one higher, whichever command brings it. A RECEIVE_ERROR whose character has not that error leaves everything.

An answer (R162): ANSWER_BEGIN acts from 2 character times to 10 ms after the last check character of the request, and neither
before nor after (the instant within this window, and a baud rate at which 2 character times are longer, are log entry 10); in
the ms of the window's last instant the part's own clock begins it then. When its last character has been sent the port listens
with its line idle from that instant, and the EEPROM write of a COMMIT that waited for it begins (R174). -/
def Obligations.CharactersSelectCollectAndAnswer : Prop :=
  (∀ (p : PortId) (ch : LineChar) (us : Fin 1000) (s : State), s.hears p = true → framingError ch = false →
     (let r := s.links.ports[p]
      let at_ := s.instantAt us
      let baud := if s.configFault then 9600 else s.cfg.ports[p].baud
      let becomes := fun (t : State) (rx : ReceiveState) (buffer : List Byte) =>
        t.links.ports[p] = { r with
          rx := rx, buffer := buffer, idleFrom := at_, answer := if r.rx = .preparing then none else r.answer }
        ∧ (∀ q : PortId, q ≠ p → t.links.ports[q] = s.links.ports[q]) ∧ t.links.grace = s.links.grace
        ∧ t.deliveries = s.deliveries ∧ portServed p s t
      (s.portMode p = .addressed → ninthBit ch = true → ∃ t, exec (.addressCharacter p ⟨ch, us⟩) s = .next t
        ∧ becomes t (if (dataOf ch).toNat = s.cfg.ports[p].address then .receiving else .listening) [])
      ∧ (s.portMode p = .direct → parityError ch = false → 33 * 1000000 ≤ (at_ - r.idleFrom) * baud →
          ∀ c, c = .frameStart p ⟨ch, us⟩ ∨ c = .dataCharacter p ⟨ch, us⟩ →
            ∃ t, exec c s = .next t ∧ becomes t .receiving [dataOf ch])))
  ∧ (∀ (p : PortId) (ch : LineChar) (us : Fin 1000) (s : State), s.hears p = true → framingError ch = false →
     (let r := s.links.ports[p]
      let at_ := s.instantAt us
      let baud := if s.configFault then 9600 else s.cfg.ports[p].baud
      let bs := r.buffer ++ [dataOf ch]
      let becomes := fun (q : PortRec) => exec (.dataCharacter p ⟨ch, us⟩) s =
        .next { s with links := { s.links with ports := s.links.ports.set p.val q p.isLt } }
      let fails := fun (e : ReceiveErrorKind) => ∃ t, exec (.dataCharacter p ⟨ch, us⟩) s = .next t ∧ failsWith p [e] at_ s t
      (s.portMode p = .addressed ∧ ninthBit ch = false)
        ∨ (s.portMode p = .direct ∧ parityError ch = false ∧ (at_ - r.idleFrom) * baud < 33 * 1000000) →
      (r.rx = .receiving →
        (bs.length < 2 → becomes { r with buffer := bs, idleFrom := at_ })
        ∧ (∀ kind len rest, bs = kind :: len :: rest → 56 < len.toNat → fails .length)
        ∧ (∀ kind len rest, bs = kind :: len :: rest → len.toNat ≤ 56 → rest.length ≠ len.toNat + 2 →
            becomes { r with buffer := bs, idleFrom := at_ })
        ∧ ∀ kind len body hi lo, bs = kind :: len :: body ++ [hi, lo] → len.toNat = body.length → body.length ≤ 56 →
            (let sum := ((kind :: len :: body).map fun x => x.toNat).sum % 65536
             (hi.toNat * 256 + lo.toNat ≠ sum → fails .check)
             ∧ (hi.toNat * 256 + lo.toNat = sum → ∀ i, frameOf i = some (p, kind, body) →
                 ∃ u, exec i s = .next u ∧
                   (let q : PortRec := { u.links.ports[p] with idleFrom := at_, takenAt := at_ }
                    exec (.dataCharacter p ⟨ch, us⟩) s =
                      .next { u with links := { u.links with ports := u.links.ports.set p.val q p.isLt } }))
             ∧ (hi.toNat * 256 + lo.toNat = sum → body = [] → kind = 3 ∨ kind = 6 ∨ kind = 7 →
                 ∃ t reason, exec (.dataCharacter p ⟨ch, us⟩) s = .next t ∧ t.links.ports[p].rx = .preparing
                   ∧ t.links.ports[p].answer = some ⟨0xFF, [kind, reason]⟩
                   ∧ (s.configFault = true → reason = 7)
                   ∧ (s.configFault = false → ¬ mayAsk kind.toNat (s.role p) → reason = 2)
                   ∧ (s.configFault = false → mayAsk kind.toNat (s.role p) → reason = 5))))
      ∧ (r.rx = .preparing → fails (if s.portMode p = .addressed then .length else .overrun))
      ∧ (r.rx = .listening → s.portMode p = .direct → becomes { r with rx := .discarding, buffer := [], idleFrom := at_ })
      ∧ ((r.rx = .listening ∧ s.portMode p = .addressed) ∨ r.rx = .discarding → becomes { r with idleFrom := at_ })))
  ∧ (∀ (p : PortId) (e : ReceiveErrorKind) (ch : LineChar) (us : Fin 1000) (s : State),
     (s.hears p = false → exec (.receiveError p e ⟨ch, us⟩) s = .next s)
     ∧ (s.hears p = true →
       (let r := s.links.ports[p]
        let at_ := s.instantAt us
        let baud := if s.configFault then 9600 else s.cfg.ports[p].baud
        let direct : Prop := s.portMode p = .direct
        let framing : Prop := framingError ch = true
        let starts : Prop := direct ∧ ¬ framing ∧ 33 * 1000000 ≤ (at_ - r.idleFrom) * baud
        let parity : Prop := direct ∧ ¬ framing ∧ parityError ch = true
        let data : Prop := ¬ framing ∧ ¬ parity ∧ ¬ starts ∧ ¬ (¬ direct ∧ ninthBit ch = true)
        let bs := r.buffer ++ [dataOf ch]
        let inTable := fun (k : ReceiveErrorKind) =>
          (k = .framing ∧ framing ∧ (r.rx = .receiving ∨ r.rx = .preparing ∨ (direct ∧ r.rx = .listening)
            ∨ (¬ direct ∧ ninthBit ch = true)))
          ∨ (k = .parity ∧ parity ∧ (r.rx = .listening ∨ r.rx = .receiving ∨ r.rx = .preparing))
          ∨ (k = .overrun ∧ direct ∧ ¬ starts ∧ r.rx = .preparing)
          ∨ (k = .check ∧ data ∧ r.rx = .receiving ∧ ∃ kind len body hi lo, bs = kind :: len :: body ++ [hi, lo]
              ∧ len.toNat = body.length ∧ body.length ≤ 56
              ∧ hi.toNat * 256 + lo.toNat ≠ ((kind :: len :: body).map fun x => x.toNat).sum % 65536)
          ∨ (k = .length ∧ ((r.rx = .preparing ∧ ¬ direct ∧ ninthBit ch = false)
              ∨ (r.rx = .receiving ∧ data ∧ ∃ kind len rest, bs = kind :: len :: rest ∧ 56 < len.toNat)))
        (inTable e → ∃ t es, exec (.receiveError p e ⟨ch, us⟩) s = .next t
          ∧ (∀ k, k ∈ es ↔ inTable k) ∧ failsWith p es at_ s t
          ∧ (direct → exec (.dataCharacter p ⟨ch, us⟩) s = .next t ∧ exec (.frameStart p ⟨ch, us⟩) s = .next t)
          ∧ (¬ direct → ninthBit ch = false → exec (.dataCharacter p ⟨ch, us⟩) s = .next t)
          ∧ (¬ direct → ninthBit ch = true → exec (.addressCharacter p ⟨ch, us⟩) s = .next t))
        ∧ (¬ inTable e → exec (.receiveError p e ⟨ch, us⟩) s = .next s))))
  ∧ (∀ (p : PortId) (a : Answer) (us : Fin 1000) (s : State), s.links.ports[p].answer = some a →
     (let r := s.links.ports[p]
      let at_ := s.instantAt us
      let baud := if s.configFault then 9600 else s.cfg.ports[p].baud
      let characters := a.body.length + 4 + (if s.configFault = false ∧ s.cfg.ports[p].mode = .addressed then 1 else 0)
      let limit := max 10000 ((22 * 1000000 + (baud - 1)) / baud)
      let inWindow : Prop := 22 * 1000000 ≤ (at_ - r.takenAt) * baud ∧ at_ ≤ r.takenAt + limit
      (r.rx = .preparing → inWindow →
        exec (.answerBegin ⟨p, us⟩) s = .next { s with links := { s.links with
          ports := s.links.ports.set p.val { r with rx := .answering, begunAt := at_ } p.isLt } })
      ∧ (¬ inWindow ∨ r.rx ≠ .preparing → exec (.answerBegin ⟨p, us⟩) s = .next s)
      ∧ ((at_ - r.begunAt) * baud < 11 * characters * 1000000 ∨ r.rx ≠ .answering → exec (.answerSent ⟨p, us⟩) s = .next s)
      ∧ (r.rx = .answering → 11 * characters * 1000000 ≤ (at_ - r.begunAt) * baud → 0 < baud →
        ∃ t ends, exec (.answerSent ⟨p, us⟩) s = .next t
          ∧ 11 * characters * 1000000 ≤ (ends - r.begunAt) * baud
          ∧ (ends - r.begunAt) * baud < 11 * characters * 1000000 + baud ∧ r.begunAt ≤ ends
          ∧ t = { s with links := t.links, cfs := { s.cfs with write := t.cfs.write } }
          ∧ (let q : PortRec := { r with rx := .listening, buffer := [], answer := none, idleFrom := ends }
             t.links = { s.links with ports := s.links.ports.set p.val q p.isLt })
          ∧ (∀ w, s.cfs.write = some w → w.stage = .awaiting p → t.cfs.write = some { w with stage := .writing s.now })
          ∧ ((∀ w, s.cfs.write = some w → w.stage ≠ .awaiting p) → t.cfs.write = s.cfs.write))
      ∧ (r.rx = .preparing → 0 < baud → (r.takenAt + limit) / 1000 = s.now →
          .answerBegin ⟨p, Fin.ofNat 1000 (r.takenAt + limit)⟩ ∈ dueEvents s)))

/-! ## Configuration, start and restart -/

/-- WRITE, READ BACK and DISCARD (R173): STATE outside configuration mode; else a WRITE that fits replaces the bytes of the working
image from the offset, a READ BACK that fits carries them, and a DISCARD takes a fresh copy of the image in use; one that does
not fit is refused RANGE and changes nothing.

Configuration mode (R172): a change of the key to on enters it when the regime is NORMAL and no commit write is in progress,
which begins when the answer to its COMMIT has been sent or abandoned (R174), with the working image a copy of the image in use; a
change to off and a delivered PREALARM or ALARM entry end it and discard the working image. In CONFIG FAULT the key is not acted
on (R171). -/
def Obligations.ConfigurationModeWritesTheWorkingImage : Prop :=
  (∀ (p : PortId) (o1 o2 : Byte) (s : State), canAsk p .cfs s → s.role p = .commandStation → storeAgrees s →
     (let offset := o1.toNat * 256 + o2.toNat
      let result := fun (sub reason : Byte) (data : List Byte) (t : State) =>
        ∃ off, answers p ⟨0x87, [sub, reason] ++ bytes2 off ++ data⟩ s t
      let kept := fun (t : State) => t.cfs = (abandon p s).cfs
      let served := fun (t : State) => cfsServed p s t ∧ leaves .cfs (withFrame p s) [] s t
      (∀ bs : List Byte, 1 ≤ bs.length → bs.length ≤ 53 →
        ∃ t, exec (.configureWrite p (o1 :: o2 :: bs)) s = .next t ∧ served t
          ∧ (s.cfs.mode = false → result 1 4 [] t ∧ kept t)
          ∧ ∀ m, s.cfs.mode = true → s.cfs.working = some m →
              (4096 < offset + bs.length → result 1 5 [] t ∧ kept t)
              ∧ (offset + bs.length ≤ 4096 → result 1 0 [] t
                  ∧ t.cfs = { (abandon p s).cfs with working := some (m.putAll offset bs) }))
      ∧ (∀ n : Byte, ∃ t, exec (.configureReadBack p [o1, o2, n]) s = .next t ∧ served t ∧ kept t
          ∧ (s.cfs.mode = false → result 2 4 [] t)
          ∧ ∀ m, s.cfs.mode = true → s.cfs.working = some m →
              (4096 < offset + n.toNat ∨ n.toNat = 0 ∨ 52 < n.toNat → result 2 5 [] t)
              ∧ (offset + n.toNat ≤ 4096 → 1 ≤ n.toNat → n.toNat ≤ 52 →
                  result 2 0 ((List.range n.toNat).map fun i => m.byteAt (offset + i)) t))
      ∧ ∃ t, exec (.configureDiscard p []) s = .next t ∧ served t
          ∧ (s.cfs.mode = false → result 4 4 [] t ∧ kept t)
          ∧ (s.cfs.mode = true → result 4 0 [] t ∧ t.cfs = { (abandon p s).cfs with working := s.cfs.inUse })))
  ∧ (∀ s : State,
     (let onlyCfs := fun (t : State) => t = { s with cfs := t.cfs, deliveries := t.deliveries }
      (s.cfs.key = true → exec .configurationKeyOn s = .next s)
      ∧ (s.cfs.key = false → exec .configurationKeyOff s = .next s)
      ∧ (s.cfs.key = false → ∃ t, exec .configurationKeyOn s = .next t ∧ onlyCfs t ∧ leaves .cfs s.deliveries [] s t
          ∧ (let enters : Prop := s.configFault = false ∧ s.rge.regime = .normal
               ∧ ¬ ∃ w since, s.cfs.write = some w ∧ w.stage = .writing since
             (enters → t.cfs = { s.cfs with key := true, mode := true, working := s.cfs.inUse })
             ∧ (¬ enters → t.cfs = { s.cfs with key := true })))
      ∧ (s.cfs.key = true → ∃ t, exec .configurationKeyOff s = .next t ∧ onlyCfs t ∧ leaves .cfs s.deliveries [] s t
          ∧ t.cfs = { s.cfs with key := false, mode := false, working := none })
      ∧ ∀ news, s.takes (.cfsRegimeDelivery news) = true →
          ∃ t, exec (.cfsRegimeDelivery news) s = .next t ∧ onlyCfs t
            ∧ leaves .cfs (without s (.cfsRegimeDelivery news)) [] s t
            ∧ t.cfs = { s.cfs with mode := false, working := none }))

/-- What a commit checks (R174), item by item of the configuration that the image stands for: the format version, the ranges of
the timers and counts, the threshold sets (R3), the loops (R70), the zones (R9), the floors and stairs (R103, R105), the banks
(R48), the door points (R70, R85), the supply groups (R85), the cues (R103), the areas (R127) and the ports (R157). Which
record a check over several records counts against is log entry 4. -/
def Obligations.CommitChecksFollowTheRules : Prop :=
  ∀ m : Image,
    (let c := configOf m
     let fails := fun (i : ConfigItem) => i ∈ m.failures
     let outside := fun (lo hi n : Nat) => n < lo ∨ hi < n
     let cueNamed := fun (n : Nat) => ∃ q : Fin 96, q.val = n ∧ c.cues[q].configured = true
     let ports := fun (r : PortRole) => ((List.finRange 6).filter fun p => decide (c.ports[p].role = r)).length
     (fails .formatVersion ↔ m.version ≠ 2)
     ∧ (fails .tVerify ↔ 60 < c.tVerify) ∧ (fails .tPhase ↔ outside 30 600 c.tPhase) ∧ (fails .alertSpan ↔ 31 < c.alertSpan)
     ∧ (fails .tShutdown ↔ outside 10 300 c.tShutdown) ∧ (fails .tDoorVerify ↔ outside 200 10000 c.tDoorVerify)
     ∧ (fails .tWarmUp ↔ outside 100 2000 c.tWarmUp) ∧ (fails .tIdle ↔ outside 10 600 c.tIdle)
     ∧ (fails .tAge ↔ outside 30 3600 c.tAge) ∧ (fails .debounce ↔ outside 1 15 c.debounce)
     ∧ (fails .topFloor ↔ 31 < c.topFloor) ∧ (fails .memorySize ↔ outside 1 32768 c.memorySize)
     ∧ (∀ i : Fin 4,
         let t := c.sets[i]
         (fails (.thresholdSet i) ↔ ¬ (1 ≤ t.t1 ∧ t.t1 < t.t2 ∧ t.t2 < t.t3 ∧ t.t3 ≤ 1022 ∧ t.hysteresis ≤ 63
           ∧ t.hysteresis * 2 < t.t2 - t.t1 ∧ t.hysteresis * 2 < t.t3 - t.t2 ∧ t.hysteresis < t.t1
           ∧ t.t3 + t.hysteresis ≤ 1023)))
     ∧ (∀ l : LoopId, fails (.loop l) ↔ 4 ≤ c.loops[l].set
         ∨ (c.loops[l].role = .doorFeedback ∧ ∀ d : DoorId, c.doors[d].configured = true → c.doors[d].kind = .strike →
             c.doors[d].feedback ≠ some l.val))
     ∧ (∀ z : ZoneId, fails (.zone z) ↔ c.zones[z].configured = true
         ∧ (c.topFloor < c.zones[z].floor
           ∨ (∃ n, c.zones[z].source = .loop n ∧ ∀ l : LoopId, l.val = n → c.loops[l].role ≠ .zoneInput)
           ∨ (∃ port point, c.zones[z].source = .link port point
               ∧ (255 < point ∨ ∀ p : PortId, p.val = port → c.ports[p].role ≠ .firePanel))
           ∨ ∃ y : ZoneId, y ≠ z ∧ c.zones[y].configured = true ∧ c.zones[y].source = c.zones[z].source))
     ∧ (∀ f : FloorId, fails (.floor f) ↔ f.val ≤ c.topFloor
         ∧ ∃ q, (c.floors[f].alertCue = some q ∨ c.floors[f].evacuateCue = some q) ∧ ¬ cueNamed q)
     ∧ (∀ k : Fin 4, fails (.stair k) ↔ c.stairs[k].configured = true ∧ ∃ q, c.stairs[k].cue = some q ∧ ¬ cueNamed q)
     ∧ (∀ b : BankId,
         let r := c.banks[b]
         (fails (.bank b) ↔ r.configured = true
           ∧ (outside 1 6 r.cars ∨ r.highest < r.lowest ∨ c.topFloor < r.highest
             ∨ outside r.lowest r.highest r.designated ∨ outside r.lowest r.highest r.alternate
             ∨ r.designated = r.alternate ∨ ¬ ∃! p : PortId, c.ports[p].role = .liftGroup ∧ c.ports[p].bank = some b)))
     ∧ (∀ d : DoorId,
         let r := c.doors[d]
         (fails (.door d) ↔ r.configured = true
           ∧ (c.topFloor < r.floor
             ∨ (r.kind = .strike
               ∧ ((∀ k, k < 4 → r.stair ≠ some k) ∨ outside 1 63 r.weight ∨ 1000 < r.hold
                 ∨ (∀ g : GroupId, g.val = r.group → c.groups[g].budget < r.hold)
                 ∨ ∃ n, r.feedback = some n ∧ ∀ l : LoopId, l.val = n → c.loops[l].role ≠ .doorFeedback)))))
     ∧ (∀ g : GroupId,
         let r := c.groups[g]
         (fails (.group g) ↔ 2000 < r.gMin ∨ 5 < r.scale ∨ outside 64 8191 r.ratio ∨ 8000 < r.budget ∨ r.mode = none))
     ∧ (∀ q : Fin 96,
         let r := c.cues[q]
         (fails (.cue q) ↔ r.configured = true
           ∧ (outside 1 4095 r.length ∨ c.memorySize ≤ r.start ∨ 255 < r.repeats ∨ 255 < r.gap
             ∨ ∃ n, (r.nextTrue = some n ∨ r.nextFalse = some n) ∧ ¬ cueNamed n)))
     ∧ (∀ a : Fin 8,
         let r := c.areas[a]
         (fails (.area a) ↔ (r.join = none ∧ r.size ≠ 0) ∨ (r.join ≠ none ∧ outside 1 16 r.size)
           ∨ ((∃ src, r.join = some (.live src)) ∧ r.size < 2)
           ∨ (∃ j : AreaJoin, ¬ ∃! b : Fin 8, c.areas[b].join = some j)
           ∨ 32 < ((List.finRange 8).map fun b => c.areas[b].size).sum))
     ∧ ∀ p : PortId,
         let r := c.ports[p]
         (fails (.port p) ↔ ((r.role = .firePanel ∨ r.role = .liftGroup) ∧ 2 < ports r.role)
           ∨ ((r.role = .commandStation ∨ r.role = .pagingConsole) ∧ 1 < ports r.role)
           ∨ (r.role ≠ .unused ∧ (r.baud ∉ [9600, 19200, 38400] ∨ outside 1 126 r.address ∨ outside 500 10000 r.tSup))
           ∨ (r.role = .liftGroup ∧ ∀ b : BankId, r.bank = some b → c.banks[b].configured = false
               ∨ ∃ q : PortId, q ≠ p ∧ c.ports[q].role = .liftGroup ∧ c.ports[q].bank = some b)))

/-- COMMIT (R174): STATE outside configuration mode or while the regime is not NORMAL, as it stands (log entry 42); RANGE with the
lowest offset among the items that failed a check; else accepted with offset 0xFFFF: the mode ends, and the working image with
its check, which stands for the configuration that was checked, waits for the port's answer to be written; while a write is in progress its image is not taken (log entry 53). -/
def Obligations.CommitChecksAndHandsOverTheImage : Prop :=
  ∀ (p : PortId) (s : State), canAsk p .cfs s → s.role p = .commandStation → storeAgrees s → imagesCanonical s →
    ∃ t, exec (.configureCommit p []) s = .next t ∧ cfsServed p s t ∧ leaves .cfs (withFrame p s) [] s t
      ∧ (let onlyAnswered := fun (reason : Byte) (off : Nat) =>
           answers p ⟨0x87, [3, reason] ++ bytes2 off⟩ s t ∧ t.cfs = (abandon p s).cfs
         (s.cfs.mode = false ∨ s.rge.regime ≠ .normal → ∃ off, onlyAnswered 4 off)
         ∧ ∀ m, s.cfs.mode = true → s.rge.regime = .normal → s.cfs.working = some m →
             (m.failures ≠ [] → ∃ i ∈ m.failures, onlyAnswered 5 (offsetOf i) ∧ ∀ j ∈ m.failures, offsetOf i ≤ offsetOf j)
             ∧ (m.failures = [] → m.version = 2 ∧ answers p ⟨0x87, [3, 0, 0xFF, 0xFF]⟩ s t
                 ∧ m.withCheck.sound = true ∧ configOf m.withCheck = configOf m
                 ∧ (let writing : Prop := ∃ w since, (abandon p s).cfs.write = some w ∧ w.stage = .writing since
                    t.cfs = { (abandon p s).cfs with mode := false, working := none, write := t.cfs.write }
                    ∧ (¬ writing → t.cfs.write = some ⟨m.withCheck, .awaiting p⟩)
                    ∧ (writing → t.cfs.write = (abandon p s).cfs.write))))

/-- A cold start (R169, R170, R171): at power-up, at the restart input in CONFIG FAULT, and at the end of the EEPROM write of a
COMMIT. A sound image becomes the image in use and every block takes its cold-start values, with the request lines read in one
event (log entry 35); without one the part enters CONFIG FAULT, with its blocks at cold-start values over a blank
configuration (log entry 2). A power-up during a write finds no image (log entry 32), and a write that has not ended within 2 s
has failed (log entry 11). During the load every output is de-energised at a power-up, and holds its value at the other two (R170;
that the state keeps these values, the start being one step, is log entry 50). The restart input outside CONFIG FAULT makes no
cold start. -/
def Obligations.ColdStartLoadsASoundImage : Prop :=
  ∀ s : State,
    (let starts := fun (off : Bool) (eeprom image : Option Image) (t : State) =>
       (off = true → outputsOff t.startOutputs) ∧ (off = false → outputsStood t.startOutputs s)
       ∧ (∀ m, image = some m → m.sound = true → startedUnder m s t
         ∧ t.cfs = ⟨eeprom, some m, none, false, none, s.cfs.key⟩)
       ∧ ((∀ m, image = some m → m.sound = false) → faultedFrom s t ∧ t.cfs = ⟨eeprom, none, none, false, none, s.cfs.key⟩)
     let writing : Prop := ∃ w since, s.cfs.write = some w ∧ w.stage = .writing since
     (∀ cause off, (cause = .powerUp ∧ off = true) ∨ (cause = .restartInput ∧ s.configFault = true ∧ off = false) →
       (¬ writing → ∃ t, exec (.coldStart cause .held) s = .next t ∧ starts off s.cfs.eeprom s.cfs.eeprom t)
       ∧ (¬ writing → ∃ t, exec (.coldStart cause .unreadable) s = .next t ∧ starts off s.cfs.eeprom none t)
       ∧ (writing → ∀ e, e = .held ∨ e = .unreadable →
           ∃ t, exec (.coldStart cause e) s = .next t ∧ starts off none none t)
       ∧ (∀ bs, bs.length = 4096 → ∃ t, exec (.coldStart cause (.placed bs)) s = .next t
           ∧ starts off (some (Image.cellsOf 0 bs)) (some (Image.cellsOf 0 bs)) t)
       ∧ ∀ bs, bs.length ≠ 4096 → ∃ t, exec (.coldStart cause (.placed bs)) s = .next t
           ∧ starts off none none t)
     ∧ (s.configFault = false → ∀ e, exec (.coldStart .restartInput e) s = .next s)
     ∧ (¬ writing → ∀ b, exec (.eepromWriteEnd b) s = .next s)
     ∧ ∀ w since, s.cfs.write = some w → w.stage = .writing since →
         (s.now ≤ since + 2000 → ∃ t, exec (.eepromWriteEnd true) s = .next t
             ∧ starts false (some w.image) (some w.image) t)
         ∧ (since + 2000 < s.now → ∃ t, exec (.eepromWriteEnd true) s = .next t ∧ starts false none none t)
         ∧ (since + 2000 ≤ s.now → .eepromWriteEnd false ∈ dueEvents s)
         ∧ ∃ t, exec (.eepromWriteEnd false) s = .next t ∧ starts false none none t)

/-- A warm restart (R175 and the warm-restart values of each chapter): in CONFIG FAULT a cold start takes its place, during a
commit write, which begins when the answer to its COMMIT has been sent or abandoned (R174), it has no effect; else the time base
starts again, the write of a COMMIT whose answer the restart loses begins (log entry 41),
timers in flight run at full length, the regime, zones, floors, door states, queues, orders and troubles are kept, channels,
sources and tenants end, and the change counter rises by one. The fire slots are formed again from the kept regime with the
restart as their instant, and the programmes that they form are handed over (R107, R110, R118; log entries 18, 19); what was on its way to blocks
that keep their state outlasts the restart (log entry 15), and the request lines are read (R100). Every output holds its value through the restart (R175; kept by the state, log
entry 50). -/
def Obligations.WarmRestartKeepsTheAlarmState : Prop :=
  ∀ s : State,
    (s.configFault = true → exec .warmRestart s = exec (.coldStart .restartInput .held) s)
    ∧ (s.configFault = false → (∃ w since, s.cfs.write = some w ∧ w.stage = .writing since) → exec .warmRestart s = .next s)
    ∧ (s.configFault = false → (∀ w, s.cfs.write = some w → ∃ p, w.stage = .awaiting p) → ∃ t, exec .warmRestart s = .next t
      ∧ t.now = 0 ∧ t.configFault = false ∧ t.cfg = s.cfg ∧ t.pending = s.pending ∧ t.trl = s.trl
      ∧ t.elapsed = s.elapsed ∧ outputsStood t.startOutputs s
      ∧ t.cfs = { s.cfs with
          mode := false, working := none, write := s.cfs.write.map fun w => { w with stage := .writing 0 } }
      ∧ t.lsc.nextScan = 0 ∧ t.lsc.position = 48
      ∧ (∀ l : LoopId, t.lsc.loops[l] = { s.lsc.loops[l] with seeded := false, pendingCount := 0 })
      ∧ (∀ z : ZoneId, t.rge.zones[z] = { s.rge.zones[z] with
          timer := if s.rge.zones[z].state = .prealarm then some (s.cfg.tVerify * 1000) else none })
      ∧ t.rge = { s.rge with
          zones := t.rge.zones, elapsedBase := t.rge.elapsedBase, elapsedFrom := t.rge.elapsedFrom
          expansionTimer :=
            if s.inAlarm = true ∧ s.rge.expansionHold = none ∧ s.rge.manual = none ∧ s.allEvacuated = false then
              some (s.cfg.tPhase * 1000) else none
          changeCounter := s.rge.changeCounter + 1 }
      ∧ (∀ c : CarId, t.lfc.cars[c] = { s.lfc.cars[c] with stale := true })
      ∧ (∀ b : BankId, t.lfc.banks[b] = { s.lfc.banks[b] with
          timer := s.lfc.banks[b].timer.map fun _ => s.cfg.tShutdown * 1000
          link := .absent, lampOn := s.lfc.banks[b].flashing
          lampNext := if s.lfc.banks[b].flashing then some 500 else none })
      ∧ (∀ d : DoorId, t.dsq.doors[d] = match s.dsq.doors[d] with
          | .ramp _ => .ramp 50
          | .verify _ => .verify s.cfg.tDoorVerify
          | r => r)
      ∧ (∀ g : GroupId,
          let r := s.dsq.groups[g]
          let q := t.dsq.groups[g]
          let asked : Prop := r.request = true ∧ (r.takeover = .owned ∨ r.takeover = .reacquiring)
          q = { r with
            carry := 0, nextRelease := s.cfg.groups[g].gMin, zeroGap := false
            pacing := if asked ∧ r.takeover = .reacquiring ∧ s.anyRamp g = false then none else some s.cfg.groups[g].gMin
            limited := if asked then false else r.limited
            takeover := if asked then (if s.anyRamp g then .handingOver else .taken)
              else if r.request = false ∧ r.takeover = .taken then .reacquiring
              else r.takeover })
      ∧ (∀ c : ChannelId, t.chr.channels[c] =
          { State.reset.chr.channels[c] with underrun := s.chr.channels[c].underrun })
      ∧ t.chr = { State.reset.chr with
          channels := t.chr.channels, idlingSuspended := s.inAlarm
          selection := s.chr.selection, monitored := t.chr.monitored }
      ∧ monitorFollows t
      ∧ t.cue = { State.reset.cue with zones := t.cue.zones }
      ∧ (∀ z : SpeakerId,
          let isTarget := fun (q : Nat) (prio : FirePriority) => s.speakerConfigured z = true ∧ s.inAlarm = true ∧
            ((∃ f : FloorId, f.val = z.val
                ∧ ((s.rge.floors[f].phase = .evacuate ∧ s.cfg.floors[f].evacuateCue = some q ∧ prio = .evac)
                  ∨ (s.rge.floors[f].phase = .alert ∧ s.rge.silence = none ∧ s.cfg.floors[f].alertCue = some q
                      ∧ prio = .alert)))
              ∨ (∃ k : Fin 4, z.val = 32 + k.val ∧ s.cfg.stairs[k].cue = some q ∧ prio = .evac))
          t.cue.zones[z] = { t.cue.zones[z] with live := none, tenant := none }
          ∧ ((∀ q prio, ¬ isTarget q prio) → t.cue.zones[z].fire = none)
          ∧ ∀ q prio, isTarget q prio → t.cue.zones[z].fire = some ⟨q, prio, 0, false⟩)
      ∧ t.tnq = { s.tnq with
          queue := [], playing := []
          cut := min 65535 (s.tnq.cut + (s.tnq.queue.length + s.tnq.playing.length)) }
      ∧ t.links.grace = some 10000
      ∧ (∀ p : PortId, t.links.ports[p] = ⟨.listening, [], .absent, 0, none, ⟨0, 0, 0, 0, 0⟩, none, 0, 0, 0⟩)
      ∧ (let outlasts := fun (e : Instr) => match route e with
           | some (.trl, .chr) => true
           | some (.port _, .lfc) | some (_, .cue) | some (_, .chr) | some (_, .tnq) | none => false
           | some _ => true
         ∃ hands lines, t.deliveries = s.deliveries.filter outlasts ++ hands ++ lines
           ∧ handsOver { t with cue := State.reset.cue } t hands
           ∧ ∀ e, e ∈ lines ↔
               (∃ g : GroupId, s.dsq.groups[g].request = true ∧
                 (s.dsq.groups[g].takeover = .owned ∨ s.dsq.groups[g].takeover = .reacquiring) ∧
                 ((s.anyRamp g = false ∧ e = .troubleRaise .takeoverActive g.val)
                   ∨ (s.dsq.groups[g].limited = true ∧ e = .troubleClear .supplyLimit g.val)))
               ∨ (∃ g : GroupId, s.dsq.groups[g].request = false ∧ s.dsq.groups[g].takeover = .taken
                   ∧ e = .troubleClear .takeoverActive g.val)
               ∨ (e = .changeCounterIncrease .dsq ∧ ∃ g : GroupId,
                   (s.dsq.groups[g].request = true
                     ∧ (s.dsq.groups[g].takeover = .owned ∨ s.dsq.groups[g].takeover = .reacquiring))
                   ∨ (s.dsq.groups[g].request = false ∧ s.dsq.groups[g].takeover = .taken))))
end

