-- ==== Sys2Proof/Laws/Records.lean ====
section
/-! SUPPORT. Reading and replacing rows of a table. -/

namespace Sys2Proof

variable {α : Type} {n : Nat}

@[simp] theorem tab_getElem (f : Fin n → α) (i : Nat) (h : i < n) : (tab f)[i] = f ⟨i, h⟩ := by simp [tab]

@[simp] theorem tab_fin (f : Fin n → α) (i : Fin n) : (tab f)[i] = f i := by simp [tab]

theorem set_fin (v : Vector α n) (i j : Fin n) (a : α) : (v.set i.val a i.isLt)[j] = if j = i then a else v[j] := by
  simp only [Fin.getElem_fin, Vector.getElem_set, Fin.ext_iff, eq_comm]

@[simp] theorem set_fin_same (v : Vector α n) (i : Fin n) (a : α) : (v.set i.val a i.isLt)[i] = a := by
  simp

theorem set_fin_other (v : Vector α n) {i j : Fin n} (a : α) (h : j ≠ i) : (v.set i.val a i.isLt)[j] = v[j] := by
  rw [set_fin, if_neg h]

theorem modifyRow_fin (v : Vector α n) (i j : Fin n) (f : α → α) :
    (modifyRow v i f)[j] = if j = i then f v[i] else v[j] := by
  unfold modifyRow
  rw [set_fin]

theorem table_ext {v w : Vector α n} (h : ∀ i : Fin n, v[i] = w[i]) : v = w :=
  Vector.ext fun i hi => h ⟨i, hi⟩

@[simp] theorem tab_self (v : Vector α n) : tab (fun i => v[i]) = v := table_ext fun i => by simp

theorem toIndex_some {i : Nat} (h : i < n) : toIndex n i = some ⟨i, h⟩ := by simp [toIndex, h]

@[simp] theorem toIndex_val (i : Fin n) : toIndex n i.val = some i := by simp [toIndex]

theorem toIndex_eq_some {i : Nat} {j : Fin n} : toIndex n i = some j ↔ i = j.val := by
  unfold toIndex
  split
  · rename_i h
    simp [Fin.ext_iff]
  · rename_i h
    simp only [reduceCtorEq, false_iff]
    rintro rfl
    exact h j.isLt

theorem toIndex_eq_none {i : Nat} : toIndex n i = none ↔ n ≤ i := by
  unfold toIndex
  split <;> simp_all

@[simp] theorem rowAt_fin (v : Vector α n) (i : Fin n) : rowAt v i.val = some v[i] := by simp [rowAt]

end Sys2Proof
end

