-- ==== Sys2Proof/Laws/State.lean ====
section
/-! SUPPORT. One lemma per field per update of State: what each update leaves and what it replaces. -/

namespace Sys2Proof.Machine

variable (s : State)

/-! ### withLsc -/

section
variable (b : Lsc)
@[simp] theorem withLsc_pending : (s.withLsc b).pending = s.pending := rfl
@[simp] theorem withLsc_deliveries : (s.withLsc b).deliveries = s.deliveries := rfl
@[simp] theorem withLsc_now : (s.withLsc b).now = s.now := rfl
@[simp] theorem withLsc_configFault : (s.withLsc b).configFault = s.configFault := rfl
@[simp] theorem withLsc_cfg : (s.withLsc b).cfg = s.cfg := rfl
@[simp] theorem withLsc_lsc : (s.withLsc b).lsc = b := rfl
@[simp] theorem withLsc_rge : (s.withLsc b).rge = s.rge := rfl
@[simp] theorem withLsc_lfc : (s.withLsc b).lfc = s.lfc := rfl
@[simp] theorem withLsc_dsq : (s.withLsc b).dsq = s.dsq := rfl
@[simp] theorem withLsc_cue : (s.withLsc b).cue = s.cue := rfl
@[simp] theorem withLsc_chr : (s.withLsc b).chr = s.chr := rfl
@[simp] theorem withLsc_tnq : (s.withLsc b).tnq = s.tnq := rfl
@[simp] theorem withLsc_trl : (s.withLsc b).trl = s.trl := rfl
@[simp] theorem withLsc_cfs : (s.withLsc b).cfs = s.cfs := rfl
@[simp] theorem withLsc_links : (s.withLsc b).links = s.links := rfl
@[simp] theorem withLsc_startOutputs : (s.withLsc b).startOutputs = s.startOutputs := rfl
end

/-! ### withRge -/

section
variable (b : Rge)
@[simp] theorem withRge_pending : (s.withRge b).pending = s.pending := rfl
@[simp] theorem withRge_deliveries : (s.withRge b).deliveries = s.deliveries := rfl
@[simp] theorem withRge_now : (s.withRge b).now = s.now := rfl
@[simp] theorem withRge_configFault : (s.withRge b).configFault = s.configFault := rfl
@[simp] theorem withRge_cfg : (s.withRge b).cfg = s.cfg := rfl
@[simp] theorem withRge_lsc : (s.withRge b).lsc = s.lsc := rfl
@[simp] theorem withRge_rge : (s.withRge b).rge = b := rfl
@[simp] theorem withRge_lfc : (s.withRge b).lfc = s.lfc := rfl
@[simp] theorem withRge_dsq : (s.withRge b).dsq = s.dsq := rfl
@[simp] theorem withRge_cue : (s.withRge b).cue = s.cue := rfl
@[simp] theorem withRge_chr : (s.withRge b).chr = s.chr := rfl
@[simp] theorem withRge_tnq : (s.withRge b).tnq = s.tnq := rfl
@[simp] theorem withRge_trl : (s.withRge b).trl = s.trl := rfl
@[simp] theorem withRge_cfs : (s.withRge b).cfs = s.cfs := rfl
@[simp] theorem withRge_links : (s.withRge b).links = s.links := rfl
@[simp] theorem withRge_startOutputs : (s.withRge b).startOutputs = s.startOutputs := rfl
end

/-! ### withLfc -/

section
variable (b : Lfc)
@[simp] theorem withLfc_pending : (s.withLfc b).pending = s.pending := rfl
@[simp] theorem withLfc_deliveries : (s.withLfc b).deliveries = s.deliveries := rfl
@[simp] theorem withLfc_now : (s.withLfc b).now = s.now := rfl
@[simp] theorem withLfc_configFault : (s.withLfc b).configFault = s.configFault := rfl
@[simp] theorem withLfc_cfg : (s.withLfc b).cfg = s.cfg := rfl
@[simp] theorem withLfc_lsc : (s.withLfc b).lsc = s.lsc := rfl
@[simp] theorem withLfc_rge : (s.withLfc b).rge = s.rge := rfl
@[simp] theorem withLfc_lfc : (s.withLfc b).lfc = b := rfl
@[simp] theorem withLfc_dsq : (s.withLfc b).dsq = s.dsq := rfl
@[simp] theorem withLfc_cue : (s.withLfc b).cue = s.cue := rfl
@[simp] theorem withLfc_chr : (s.withLfc b).chr = s.chr := rfl
@[simp] theorem withLfc_tnq : (s.withLfc b).tnq = s.tnq := rfl
@[simp] theorem withLfc_trl : (s.withLfc b).trl = s.trl := rfl
@[simp] theorem withLfc_cfs : (s.withLfc b).cfs = s.cfs := rfl
@[simp] theorem withLfc_links : (s.withLfc b).links = s.links := rfl
@[simp] theorem withLfc_startOutputs : (s.withLfc b).startOutputs = s.startOutputs := rfl
end

/-! ### withDsq -/

section
variable (b : Dsq)
@[simp] theorem withDsq_pending : (s.withDsq b).pending = s.pending := rfl
@[simp] theorem withDsq_deliveries : (s.withDsq b).deliveries = s.deliveries := rfl
@[simp] theorem withDsq_now : (s.withDsq b).now = s.now := rfl
@[simp] theorem withDsq_configFault : (s.withDsq b).configFault = s.configFault := rfl
@[simp] theorem withDsq_cfg : (s.withDsq b).cfg = s.cfg := rfl
@[simp] theorem withDsq_lsc : (s.withDsq b).lsc = s.lsc := rfl
@[simp] theorem withDsq_rge : (s.withDsq b).rge = s.rge := rfl
@[simp] theorem withDsq_lfc : (s.withDsq b).lfc = s.lfc := rfl
@[simp] theorem withDsq_dsq : (s.withDsq b).dsq = b := rfl
@[simp] theorem withDsq_cue : (s.withDsq b).cue = s.cue := rfl
@[simp] theorem withDsq_chr : (s.withDsq b).chr = s.chr := rfl
@[simp] theorem withDsq_tnq : (s.withDsq b).tnq = s.tnq := rfl
@[simp] theorem withDsq_trl : (s.withDsq b).trl = s.trl := rfl
@[simp] theorem withDsq_cfs : (s.withDsq b).cfs = s.cfs := rfl
@[simp] theorem withDsq_links : (s.withDsq b).links = s.links := rfl
@[simp] theorem withDsq_startOutputs : (s.withDsq b).startOutputs = s.startOutputs := rfl
end

/-! ### withCue -/

section
variable (b : Cue)
@[simp] theorem withCue_pending : (s.withCue b).pending = s.pending := rfl
@[simp] theorem withCue_deliveries : (s.withCue b).deliveries = s.deliveries := rfl
@[simp] theorem withCue_now : (s.withCue b).now = s.now := rfl
@[simp] theorem withCue_configFault : (s.withCue b).configFault = s.configFault := rfl
@[simp] theorem withCue_cfg : (s.withCue b).cfg = s.cfg := rfl
@[simp] theorem withCue_lsc : (s.withCue b).lsc = s.lsc := rfl
@[simp] theorem withCue_rge : (s.withCue b).rge = s.rge := rfl
@[simp] theorem withCue_lfc : (s.withCue b).lfc = s.lfc := rfl
@[simp] theorem withCue_dsq : (s.withCue b).dsq = s.dsq := rfl
@[simp] theorem withCue_cue : (s.withCue b).cue = b := rfl
@[simp] theorem withCue_chr : (s.withCue b).chr = s.chr := rfl
@[simp] theorem withCue_tnq : (s.withCue b).tnq = s.tnq := rfl
@[simp] theorem withCue_trl : (s.withCue b).trl = s.trl := rfl
@[simp] theorem withCue_cfs : (s.withCue b).cfs = s.cfs := rfl
@[simp] theorem withCue_links : (s.withCue b).links = s.links := rfl
@[simp] theorem withCue_startOutputs : (s.withCue b).startOutputs = s.startOutputs := rfl
end

/-! ### withChr -/

section
variable (b : Chr)
@[simp] theorem withChr_pending : (s.withChr b).pending = s.pending := rfl
@[simp] theorem withChr_deliveries : (s.withChr b).deliveries = s.deliveries := rfl
@[simp] theorem withChr_now : (s.withChr b).now = s.now := rfl
@[simp] theorem withChr_configFault : (s.withChr b).configFault = s.configFault := rfl
@[simp] theorem withChr_cfg : (s.withChr b).cfg = s.cfg := rfl
@[simp] theorem withChr_lsc : (s.withChr b).lsc = s.lsc := rfl
@[simp] theorem withChr_rge : (s.withChr b).rge = s.rge := rfl
@[simp] theorem withChr_lfc : (s.withChr b).lfc = s.lfc := rfl
@[simp] theorem withChr_dsq : (s.withChr b).dsq = s.dsq := rfl
@[simp] theorem withChr_cue : (s.withChr b).cue = s.cue := rfl
@[simp] theorem withChr_chr : (s.withChr b).chr = b := rfl
@[simp] theorem withChr_tnq : (s.withChr b).tnq = s.tnq := rfl
@[simp] theorem withChr_trl : (s.withChr b).trl = s.trl := rfl
@[simp] theorem withChr_cfs : (s.withChr b).cfs = s.cfs := rfl
@[simp] theorem withChr_links : (s.withChr b).links = s.links := rfl
@[simp] theorem withChr_startOutputs : (s.withChr b).startOutputs = s.startOutputs := rfl
end

/-! ### withTnq -/

section
variable (b : Tnq)
@[simp] theorem withTnq_pending : (s.withTnq b).pending = s.pending := rfl
@[simp] theorem withTnq_deliveries : (s.withTnq b).deliveries = s.deliveries := rfl
@[simp] theorem withTnq_now : (s.withTnq b).now = s.now := rfl
@[simp] theorem withTnq_configFault : (s.withTnq b).configFault = s.configFault := rfl
@[simp] theorem withTnq_cfg : (s.withTnq b).cfg = s.cfg := rfl
@[simp] theorem withTnq_lsc : (s.withTnq b).lsc = s.lsc := rfl
@[simp] theorem withTnq_rge : (s.withTnq b).rge = s.rge := rfl
@[simp] theorem withTnq_lfc : (s.withTnq b).lfc = s.lfc := rfl
@[simp] theorem withTnq_dsq : (s.withTnq b).dsq = s.dsq := rfl
@[simp] theorem withTnq_cue : (s.withTnq b).cue = s.cue := rfl
@[simp] theorem withTnq_chr : (s.withTnq b).chr = s.chr := rfl
@[simp] theorem withTnq_tnq : (s.withTnq b).tnq = b := rfl
@[simp] theorem withTnq_trl : (s.withTnq b).trl = s.trl := rfl
@[simp] theorem withTnq_cfs : (s.withTnq b).cfs = s.cfs := rfl
@[simp] theorem withTnq_links : (s.withTnq b).links = s.links := rfl
@[simp] theorem withTnq_startOutputs : (s.withTnq b).startOutputs = s.startOutputs := rfl
end

/-! ### withTrl -/

section
variable (b : Trl)
@[simp] theorem withTrl_pending : (s.withTrl b).pending = s.pending := rfl
@[simp] theorem withTrl_deliveries : (s.withTrl b).deliveries = s.deliveries := rfl
@[simp] theorem withTrl_now : (s.withTrl b).now = s.now := rfl
@[simp] theorem withTrl_configFault : (s.withTrl b).configFault = s.configFault := rfl
@[simp] theorem withTrl_cfg : (s.withTrl b).cfg = s.cfg := rfl
@[simp] theorem withTrl_lsc : (s.withTrl b).lsc = s.lsc := rfl
@[simp] theorem withTrl_rge : (s.withTrl b).rge = s.rge := rfl
@[simp] theorem withTrl_lfc : (s.withTrl b).lfc = s.lfc := rfl
@[simp] theorem withTrl_dsq : (s.withTrl b).dsq = s.dsq := rfl
@[simp] theorem withTrl_cue : (s.withTrl b).cue = s.cue := rfl
@[simp] theorem withTrl_chr : (s.withTrl b).chr = s.chr := rfl
@[simp] theorem withTrl_tnq : (s.withTrl b).tnq = s.tnq := rfl
@[simp] theorem withTrl_trl : (s.withTrl b).trl = b := rfl
@[simp] theorem withTrl_cfs : (s.withTrl b).cfs = s.cfs := rfl
@[simp] theorem withTrl_links : (s.withTrl b).links = s.links := rfl
@[simp] theorem withTrl_startOutputs : (s.withTrl b).startOutputs = s.startOutputs := rfl
end

/-! ### withCfs -/

section
variable (b : Cfs)
@[simp] theorem withCfs_pending : (s.withCfs b).pending = s.pending := rfl
@[simp] theorem withCfs_deliveries : (s.withCfs b).deliveries = s.deliveries := rfl
@[simp] theorem withCfs_now : (s.withCfs b).now = s.now := rfl
@[simp] theorem withCfs_configFault : (s.withCfs b).configFault = s.configFault := rfl
@[simp] theorem withCfs_cfg : (s.withCfs b).cfg = s.cfg := rfl
@[simp] theorem withCfs_lsc : (s.withCfs b).lsc = s.lsc := rfl
@[simp] theorem withCfs_rge : (s.withCfs b).rge = s.rge := rfl
@[simp] theorem withCfs_lfc : (s.withCfs b).lfc = s.lfc := rfl
@[simp] theorem withCfs_dsq : (s.withCfs b).dsq = s.dsq := rfl
@[simp] theorem withCfs_cue : (s.withCfs b).cue = s.cue := rfl
@[simp] theorem withCfs_chr : (s.withCfs b).chr = s.chr := rfl
@[simp] theorem withCfs_tnq : (s.withCfs b).tnq = s.tnq := rfl
@[simp] theorem withCfs_trl : (s.withCfs b).trl = s.trl := rfl
@[simp] theorem withCfs_cfs : (s.withCfs b).cfs = b := rfl
@[simp] theorem withCfs_links : (s.withCfs b).links = s.links := rfl
@[simp] theorem withCfs_startOutputs : (s.withCfs b).startOutputs = s.startOutputs := rfl
end

/-! ### withLinks -/

section
variable (b : Links)
@[simp] theorem withLinks_pending : (s.withLinks b).pending = s.pending := rfl
@[simp] theorem withLinks_deliveries : (s.withLinks b).deliveries = s.deliveries := rfl
@[simp] theorem withLinks_now : (s.withLinks b).now = s.now := rfl
@[simp] theorem withLinks_configFault : (s.withLinks b).configFault = s.configFault := rfl
@[simp] theorem withLinks_cfg : (s.withLinks b).cfg = s.cfg := rfl
@[simp] theorem withLinks_lsc : (s.withLinks b).lsc = s.lsc := rfl
@[simp] theorem withLinks_rge : (s.withLinks b).rge = s.rge := rfl
@[simp] theorem withLinks_lfc : (s.withLinks b).lfc = s.lfc := rfl
@[simp] theorem withLinks_dsq : (s.withLinks b).dsq = s.dsq := rfl
@[simp] theorem withLinks_cue : (s.withLinks b).cue = s.cue := rfl
@[simp] theorem withLinks_chr : (s.withLinks b).chr = s.chr := rfl
@[simp] theorem withLinks_tnq : (s.withLinks b).tnq = s.tnq := rfl
@[simp] theorem withLinks_trl : (s.withLinks b).trl = s.trl := rfl
@[simp] theorem withLinks_cfs : (s.withLinks b).cfs = s.cfs := rfl
@[simp] theorem withLinks_links : (s.withLinks b).links = b := rfl
@[simp] theorem withLinks_startOutputs : (s.withLinks b).startOutputs = s.startOutputs := rfl
end

/-! ### deliver and taken -/

section
variable (es : List Instr) (e : Instr)
@[simp] theorem deliver_pending : (s.deliver es).pending = s.pending := rfl
@[simp] theorem deliver_deliveries : (s.deliver es).deliveries = s.deliveries ++ es := rfl
@[simp] theorem deliver_now : (s.deliver es).now = s.now := rfl
@[simp] theorem deliver_configFault : (s.deliver es).configFault = s.configFault := rfl
@[simp] theorem deliver_cfg : (s.deliver es).cfg = s.cfg := rfl
@[simp] theorem deliver_lsc : (s.deliver es).lsc = s.lsc := rfl
@[simp] theorem deliver_rge : (s.deliver es).rge = s.rge := rfl
@[simp] theorem deliver_lfc : (s.deliver es).lfc = s.lfc := rfl
@[simp] theorem deliver_dsq : (s.deliver es).dsq = s.dsq := rfl
@[simp] theorem deliver_cue : (s.deliver es).cue = s.cue := rfl
@[simp] theorem deliver_chr : (s.deliver es).chr = s.chr := rfl
@[simp] theorem deliver_tnq : (s.deliver es).tnq = s.tnq := rfl
@[simp] theorem deliver_trl : (s.deliver es).trl = s.trl := rfl
@[simp] theorem deliver_cfs : (s.deliver es).cfs = s.cfs := rfl
@[simp] theorem deliver_links : (s.deliver es).links = s.links := rfl
@[simp] theorem deliver_startOutputs : (s.deliver es).startOutputs = s.startOutputs := rfl
@[simp] theorem taken_pending : (s.taken e).pending = s.pending := rfl
@[simp] theorem taken_deliveries : (s.taken e).deliveries = s.deliveries.erase e := rfl
@[simp] theorem taken_now : (s.taken e).now = s.now := rfl
@[simp] theorem taken_configFault : (s.taken e).configFault = s.configFault := rfl
@[simp] theorem taken_cfg : (s.taken e).cfg = s.cfg := rfl
@[simp] theorem taken_lsc : (s.taken e).lsc = s.lsc := rfl
@[simp] theorem taken_rge : (s.taken e).rge = s.rge := rfl
@[simp] theorem taken_lfc : (s.taken e).lfc = s.lfc := rfl
@[simp] theorem taken_dsq : (s.taken e).dsq = s.dsq := rfl
@[simp] theorem taken_cue : (s.taken e).cue = s.cue := rfl
@[simp] theorem taken_chr : (s.taken e).chr = s.chr := rfl
@[simp] theorem taken_tnq : (s.taken e).tnq = s.tnq := rfl
@[simp] theorem taken_trl : (s.taken e).trl = s.trl := rfl
@[simp] theorem taken_cfs : (s.taken e).cfs = s.cfs := rfl
@[simp] theorem taken_links : (s.taken e).links = s.links := rfl
@[simp] theorem taken_startOutputs : (s.taken e).startOutputs = s.startOutputs := rfl
end

/-! ### troubles raised and cleared -/

section
variable (k : TroubleKind) (n : Nat)
@[simp] theorem raise_pending : (s.raise k n).pending = s.pending := rfl
@[simp] theorem raise_deliveries : (s.raise k n).deliveries = s.deliveries ++ [.troubleRaise k n] := rfl
@[simp] theorem raise_now : (s.raise k n).now = s.now := rfl
@[simp] theorem raise_configFault : (s.raise k n).configFault = s.configFault := rfl
@[simp] theorem raise_cfg : (s.raise k n).cfg = s.cfg := rfl
@[simp] theorem raise_lsc : (s.raise k n).lsc = s.lsc := rfl
@[simp] theorem raise_rge : (s.raise k n).rge = s.rge := rfl
@[simp] theorem raise_lfc : (s.raise k n).lfc = s.lfc := rfl
@[simp] theorem raise_dsq : (s.raise k n).dsq = s.dsq := rfl
@[simp] theorem raise_cue : (s.raise k n).cue = s.cue := rfl
@[simp] theorem raise_chr : (s.raise k n).chr = s.chr := rfl
@[simp] theorem raise_tnq : (s.raise k n).tnq = s.tnq := rfl
@[simp] theorem raise_trl : (s.raise k n).trl = s.trl := rfl
@[simp] theorem raise_cfs : (s.raise k n).cfs = s.cfs := rfl
@[simp] theorem raise_links : (s.raise k n).links = s.links := rfl
@[simp] theorem raise_startOutputs : (s.raise k n).startOutputs = s.startOutputs := rfl
@[simp] theorem clear_pending : (s.clear k n).pending = s.pending := rfl
@[simp] theorem clear_deliveries : (s.clear k n).deliveries = s.deliveries ++ [.troubleClear k n] := rfl
@[simp] theorem clear_now : (s.clear k n).now = s.now := rfl
@[simp] theorem clear_configFault : (s.clear k n).configFault = s.configFault := rfl
@[simp] theorem clear_cfg : (s.clear k n).cfg = s.cfg := rfl
@[simp] theorem clear_lsc : (s.clear k n).lsc = s.lsc := rfl
@[simp] theorem clear_rge : (s.clear k n).rge = s.rge := rfl
@[simp] theorem clear_lfc : (s.clear k n).lfc = s.lfc := rfl
@[simp] theorem clear_dsq : (s.clear k n).dsq = s.dsq := rfl
@[simp] theorem clear_cue : (s.clear k n).cue = s.cue := rfl
@[simp] theorem clear_chr : (s.clear k n).chr = s.chr := rfl
@[simp] theorem clear_tnq : (s.clear k n).tnq = s.tnq := rfl
@[simp] theorem clear_trl : (s.clear k n).trl = s.trl := rfl
@[simp] theorem clear_cfs : (s.clear k n).cfs = s.cfs := rfl
@[simp] theorem clear_links : (s.clear k n).links = s.links := rfl
@[simp] theorem clear_startOutputs : (s.clear k n).startOutputs = s.startOutputs := rfl
@[simp] theorem raiseMomentary_pending : (s.raiseMomentary k n).pending = s.pending := rfl
@[simp] theorem raiseMomentary_deliveries : (s.raiseMomentary k n).deliveries = s.deliveries ++ [.troubleRaise k n, .troubleClear k n] := rfl
@[simp] theorem raiseMomentary_now : (s.raiseMomentary k n).now = s.now := rfl
@[simp] theorem raiseMomentary_configFault : (s.raiseMomentary k n).configFault = s.configFault := rfl
@[simp] theorem raiseMomentary_cfg : (s.raiseMomentary k n).cfg = s.cfg := rfl
@[simp] theorem raiseMomentary_lsc : (s.raiseMomentary k n).lsc = s.lsc := rfl
@[simp] theorem raiseMomentary_rge : (s.raiseMomentary k n).rge = s.rge := rfl
@[simp] theorem raiseMomentary_lfc : (s.raiseMomentary k n).lfc = s.lfc := rfl
@[simp] theorem raiseMomentary_dsq : (s.raiseMomentary k n).dsq = s.dsq := rfl
@[simp] theorem raiseMomentary_cue : (s.raiseMomentary k n).cue = s.cue := rfl
@[simp] theorem raiseMomentary_chr : (s.raiseMomentary k n).chr = s.chr := rfl
@[simp] theorem raiseMomentary_tnq : (s.raiseMomentary k n).tnq = s.tnq := rfl
@[simp] theorem raiseMomentary_trl : (s.raiseMomentary k n).trl = s.trl := rfl
@[simp] theorem raiseMomentary_cfs : (s.raiseMomentary k n).cfs = s.cfs := rfl
@[simp] theorem raiseMomentary_links : (s.raiseMomentary k n).links = s.links := rfl
@[simp] theorem raiseMomentary_startOutputs : (s.raiseMomentary k n).startOutputs = s.startOutputs := rfl
end

/-! ### setZone -/

section
variable (i : ZoneId) (r : ZoneRec)
@[simp] theorem setZone_pending : (s.setZone i r).pending = s.pending := rfl
@[simp] theorem setZone_deliveries : (s.setZone i r).deliveries = s.deliveries := rfl
@[simp] theorem setZone_now : (s.setZone i r).now = s.now := rfl
@[simp] theorem setZone_configFault : (s.setZone i r).configFault = s.configFault := rfl
@[simp] theorem setZone_cfg : (s.setZone i r).cfg = s.cfg := rfl
@[simp] theorem setZone_lsc : (s.setZone i r).lsc = s.lsc := rfl
@[simp] theorem setZone_lfc : (s.setZone i r).lfc = s.lfc := rfl
@[simp] theorem setZone_dsq : (s.setZone i r).dsq = s.dsq := rfl
@[simp] theorem setZone_cue : (s.setZone i r).cue = s.cue := rfl
@[simp] theorem setZone_chr : (s.setZone i r).chr = s.chr := rfl
@[simp] theorem setZone_tnq : (s.setZone i r).tnq = s.tnq := rfl
@[simp] theorem setZone_trl : (s.setZone i r).trl = s.trl := rfl
@[simp] theorem setZone_cfs : (s.setZone i r).cfs = s.cfs := rfl
@[simp] theorem setZone_links : (s.setZone i r).links = s.links := rfl
@[simp] theorem setZone_startOutputs : (s.setZone i r).startOutputs = s.startOutputs := rfl
end

/-! ### setBank -/

section
variable (i : BankId) (r : BankRec)
@[simp] theorem setBank_pending : (s.setBank i r).pending = s.pending := rfl
@[simp] theorem setBank_deliveries : (s.setBank i r).deliveries = s.deliveries := rfl
@[simp] theorem setBank_now : (s.setBank i r).now = s.now := rfl
@[simp] theorem setBank_configFault : (s.setBank i r).configFault = s.configFault := rfl
@[simp] theorem setBank_cfg : (s.setBank i r).cfg = s.cfg := rfl
@[simp] theorem setBank_lsc : (s.setBank i r).lsc = s.lsc := rfl
@[simp] theorem setBank_rge : (s.setBank i r).rge = s.rge := rfl
@[simp] theorem setBank_dsq : (s.setBank i r).dsq = s.dsq := rfl
@[simp] theorem setBank_cue : (s.setBank i r).cue = s.cue := rfl
@[simp] theorem setBank_chr : (s.setBank i r).chr = s.chr := rfl
@[simp] theorem setBank_tnq : (s.setBank i r).tnq = s.tnq := rfl
@[simp] theorem setBank_trl : (s.setBank i r).trl = s.trl := rfl
@[simp] theorem setBank_cfs : (s.setBank i r).cfs = s.cfs := rfl
@[simp] theorem setBank_links : (s.setBank i r).links = s.links := rfl
@[simp] theorem setBank_startOutputs : (s.setBank i r).startOutputs = s.startOutputs := rfl
end

/-! ### setDoor -/

section
variable (i : DoorId) (r : DoorState)
@[simp] theorem setDoor_pending : (s.setDoor i r).pending = s.pending := rfl
@[simp] theorem setDoor_deliveries : (s.setDoor i r).deliveries = s.deliveries := rfl
@[simp] theorem setDoor_now : (s.setDoor i r).now = s.now := rfl
@[simp] theorem setDoor_configFault : (s.setDoor i r).configFault = s.configFault := rfl
@[simp] theorem setDoor_cfg : (s.setDoor i r).cfg = s.cfg := rfl
@[simp] theorem setDoor_lsc : (s.setDoor i r).lsc = s.lsc := rfl
@[simp] theorem setDoor_rge : (s.setDoor i r).rge = s.rge := rfl
@[simp] theorem setDoor_lfc : (s.setDoor i r).lfc = s.lfc := rfl
@[simp] theorem setDoor_cue : (s.setDoor i r).cue = s.cue := rfl
@[simp] theorem setDoor_chr : (s.setDoor i r).chr = s.chr := rfl
@[simp] theorem setDoor_tnq : (s.setDoor i r).tnq = s.tnq := rfl
@[simp] theorem setDoor_trl : (s.setDoor i r).trl = s.trl := rfl
@[simp] theorem setDoor_cfs : (s.setDoor i r).cfs = s.cfs := rfl
@[simp] theorem setDoor_links : (s.setDoor i r).links = s.links := rfl
@[simp] theorem setDoor_startOutputs : (s.setDoor i r).startOutputs = s.startOutputs := rfl
end

/-! ### setGroup -/

section
variable (i : GroupId) (r : GroupRec)
@[simp] theorem setGroup_pending : (s.setGroup i r).pending = s.pending := rfl
@[simp] theorem setGroup_deliveries : (s.setGroup i r).deliveries = s.deliveries := rfl
@[simp] theorem setGroup_now : (s.setGroup i r).now = s.now := rfl
@[simp] theorem setGroup_configFault : (s.setGroup i r).configFault = s.configFault := rfl
@[simp] theorem setGroup_cfg : (s.setGroup i r).cfg = s.cfg := rfl
@[simp] theorem setGroup_lsc : (s.setGroup i r).lsc = s.lsc := rfl
@[simp] theorem setGroup_rge : (s.setGroup i r).rge = s.rge := rfl
@[simp] theorem setGroup_lfc : (s.setGroup i r).lfc = s.lfc := rfl
@[simp] theorem setGroup_cue : (s.setGroup i r).cue = s.cue := rfl
@[simp] theorem setGroup_chr : (s.setGroup i r).chr = s.chr := rfl
@[simp] theorem setGroup_tnq : (s.setGroup i r).tnq = s.tnq := rfl
@[simp] theorem setGroup_trl : (s.setGroup i r).trl = s.trl := rfl
@[simp] theorem setGroup_cfs : (s.setGroup i r).cfs = s.cfs := rfl
@[simp] theorem setGroup_links : (s.setGroup i r).links = s.links := rfl
@[simp] theorem setGroup_startOutputs : (s.setGroup i r).startOutputs = s.startOutputs := rfl
end

/-! ### setDemand -/

section
variable (i : SpeakerId) (r : ZoneDemand)
@[simp] theorem setDemand_pending : (s.setDemand i r).pending = s.pending := rfl
@[simp] theorem setDemand_deliveries : (s.setDemand i r).deliveries = s.deliveries := rfl
@[simp] theorem setDemand_now : (s.setDemand i r).now = s.now := rfl
@[simp] theorem setDemand_configFault : (s.setDemand i r).configFault = s.configFault := rfl
@[simp] theorem setDemand_cfg : (s.setDemand i r).cfg = s.cfg := rfl
@[simp] theorem setDemand_lsc : (s.setDemand i r).lsc = s.lsc := rfl
@[simp] theorem setDemand_rge : (s.setDemand i r).rge = s.rge := rfl
@[simp] theorem setDemand_lfc : (s.setDemand i r).lfc = s.lfc := rfl
@[simp] theorem setDemand_dsq : (s.setDemand i r).dsq = s.dsq := rfl
@[simp] theorem setDemand_chr : (s.setDemand i r).chr = s.chr := rfl
@[simp] theorem setDemand_tnq : (s.setDemand i r).tnq = s.tnq := rfl
@[simp] theorem setDemand_trl : (s.setDemand i r).trl = s.trl := rfl
@[simp] theorem setDemand_cfs : (s.setDemand i r).cfs = s.cfs := rfl
@[simp] theorem setDemand_links : (s.setDemand i r).links = s.links := rfl
@[simp] theorem setDemand_startOutputs : (s.setDemand i r).startOutputs = s.startOutputs := rfl
end

/-! ### setChain -/

section
variable (i : ChannelId) (r : (Option Chain))
@[simp] theorem setChain_pending : (s.setChain i r).pending = s.pending := rfl
@[simp] theorem setChain_deliveries : (s.setChain i r).deliveries = s.deliveries := rfl
@[simp] theorem setChain_now : (s.setChain i r).now = s.now := rfl
@[simp] theorem setChain_configFault : (s.setChain i r).configFault = s.configFault := rfl
@[simp] theorem setChain_cfg : (s.setChain i r).cfg = s.cfg := rfl
@[simp] theorem setChain_lsc : (s.setChain i r).lsc = s.lsc := rfl
@[simp] theorem setChain_rge : (s.setChain i r).rge = s.rge := rfl
@[simp] theorem setChain_lfc : (s.setChain i r).lfc = s.lfc := rfl
@[simp] theorem setChain_dsq : (s.setChain i r).dsq = s.dsq := rfl
@[simp] theorem setChain_chr : (s.setChain i r).chr = s.chr := rfl
@[simp] theorem setChain_tnq : (s.setChain i r).tnq = s.tnq := rfl
@[simp] theorem setChain_trl : (s.setChain i r).trl = s.trl := rfl
@[simp] theorem setChain_cfs : (s.setChain i r).cfs = s.cfs := rfl
@[simp] theorem setChain_links : (s.setChain i r).links = s.links := rfl
@[simp] theorem setChain_startOutputs : (s.setChain i r).startOutputs = s.startOutputs := rfl
end

/-! ### setChannel -/

section
variable (i : ChannelId) (r : ChannelRec)
@[simp] theorem setChannel_pending : (s.setChannel i r).pending = s.pending := rfl
@[simp] theorem setChannel_deliveries : (s.setChannel i r).deliveries = s.deliveries := rfl
@[simp] theorem setChannel_now : (s.setChannel i r).now = s.now := rfl
@[simp] theorem setChannel_configFault : (s.setChannel i r).configFault = s.configFault := rfl
@[simp] theorem setChannel_cfg : (s.setChannel i r).cfg = s.cfg := rfl
@[simp] theorem setChannel_lsc : (s.setChannel i r).lsc = s.lsc := rfl
@[simp] theorem setChannel_rge : (s.setChannel i r).rge = s.rge := rfl
@[simp] theorem setChannel_lfc : (s.setChannel i r).lfc = s.lfc := rfl
@[simp] theorem setChannel_dsq : (s.setChannel i r).dsq = s.dsq := rfl
@[simp] theorem setChannel_cue : (s.setChannel i r).cue = s.cue := rfl
@[simp] theorem setChannel_tnq : (s.setChannel i r).tnq = s.tnq := rfl
@[simp] theorem setChannel_trl : (s.setChannel i r).trl = s.trl := rfl
@[simp] theorem setChannel_cfs : (s.setChannel i r).cfs = s.cfs := rfl
@[simp] theorem setChannel_links : (s.setChannel i r).links = s.links := rfl
@[simp] theorem setChannel_startOutputs : (s.setChannel i r).startOutputs = s.startOutputs := rfl
end

/-! ### setPort -/

section
variable (i : PortId) (r : PortRec)
@[simp] theorem setPort_pending : (s.setPort i r).pending = s.pending := rfl
@[simp] theorem setPort_deliveries : (s.setPort i r).deliveries = s.deliveries := rfl
@[simp] theorem setPort_now : (s.setPort i r).now = s.now := rfl
@[simp] theorem setPort_configFault : (s.setPort i r).configFault = s.configFault := rfl
@[simp] theorem setPort_cfg : (s.setPort i r).cfg = s.cfg := rfl
@[simp] theorem setPort_lsc : (s.setPort i r).lsc = s.lsc := rfl
@[simp] theorem setPort_rge : (s.setPort i r).rge = s.rge := rfl
@[simp] theorem setPort_lfc : (s.setPort i r).lfc = s.lfc := rfl
@[simp] theorem setPort_dsq : (s.setPort i r).dsq = s.dsq := rfl
@[simp] theorem setPort_cue : (s.setPort i r).cue = s.cue := rfl
@[simp] theorem setPort_chr : (s.setPort i r).chr = s.chr := rfl
@[simp] theorem setPort_tnq : (s.setPort i r).tnq = s.tnq := rfl
@[simp] theorem setPort_trl : (s.setPort i r).trl = s.trl := rfl
@[simp] theorem setPort_cfs : (s.setPort i r).cfs = s.cfs := rfl
@[simp] theorem setPort_startOutputs : (s.setPort i r).startOutputs = s.startOutputs := rfl
end

/-! ### mapBank -/

section
variable (i : BankId) (f : BankRec → BankRec)
@[simp] theorem mapBank_pending : (s.mapBank i f).pending = s.pending := rfl
@[simp] theorem mapBank_deliveries : (s.mapBank i f).deliveries = s.deliveries := rfl
@[simp] theorem mapBank_now : (s.mapBank i f).now = s.now := rfl
@[simp] theorem mapBank_configFault : (s.mapBank i f).configFault = s.configFault := rfl
@[simp] theorem mapBank_cfg : (s.mapBank i f).cfg = s.cfg := rfl
@[simp] theorem mapBank_lsc : (s.mapBank i f).lsc = s.lsc := rfl
@[simp] theorem mapBank_rge : (s.mapBank i f).rge = s.rge := rfl
@[simp] theorem mapBank_dsq : (s.mapBank i f).dsq = s.dsq := rfl
@[simp] theorem mapBank_cue : (s.mapBank i f).cue = s.cue := rfl
@[simp] theorem mapBank_chr : (s.mapBank i f).chr = s.chr := rfl
@[simp] theorem mapBank_tnq : (s.mapBank i f).tnq = s.tnq := rfl
@[simp] theorem mapBank_trl : (s.mapBank i f).trl = s.trl := rfl
@[simp] theorem mapBank_cfs : (s.mapBank i f).cfs = s.cfs := rfl
@[simp] theorem mapBank_links : (s.mapBank i f).links = s.links := rfl
@[simp] theorem mapBank_startOutputs : (s.mapBank i f).startOutputs = s.startOutputs := rfl
end

/-! ### mapGroup -/

section
variable (i : GroupId) (f : GroupRec → GroupRec)
@[simp] theorem mapGroup_pending : (s.mapGroup i f).pending = s.pending := rfl
@[simp] theorem mapGroup_deliveries : (s.mapGroup i f).deliveries = s.deliveries := rfl
@[simp] theorem mapGroup_now : (s.mapGroup i f).now = s.now := rfl
@[simp] theorem mapGroup_configFault : (s.mapGroup i f).configFault = s.configFault := rfl
@[simp] theorem mapGroup_cfg : (s.mapGroup i f).cfg = s.cfg := rfl
@[simp] theorem mapGroup_lsc : (s.mapGroup i f).lsc = s.lsc := rfl
@[simp] theorem mapGroup_rge : (s.mapGroup i f).rge = s.rge := rfl
@[simp] theorem mapGroup_lfc : (s.mapGroup i f).lfc = s.lfc := rfl
@[simp] theorem mapGroup_cue : (s.mapGroup i f).cue = s.cue := rfl
@[simp] theorem mapGroup_chr : (s.mapGroup i f).chr = s.chr := rfl
@[simp] theorem mapGroup_tnq : (s.mapGroup i f).tnq = s.tnq := rfl
@[simp] theorem mapGroup_trl : (s.mapGroup i f).trl = s.trl := rfl
@[simp] theorem mapGroup_cfs : (s.mapGroup i f).cfs = s.cfs := rfl
@[simp] theorem mapGroup_links : (s.mapGroup i f).links = s.links := rfl
@[simp] theorem mapGroup_startOutputs : (s.mapGroup i f).startOutputs = s.startOutputs := rfl
end

/-! ### mapChannel -/

section
variable (i : ChannelId) (f : ChannelRec → ChannelRec)
@[simp] theorem mapChannel_pending : (s.mapChannel i f).pending = s.pending := rfl
@[simp] theorem mapChannel_deliveries : (s.mapChannel i f).deliveries = s.deliveries := rfl
@[simp] theorem mapChannel_now : (s.mapChannel i f).now = s.now := rfl
@[simp] theorem mapChannel_configFault : (s.mapChannel i f).configFault = s.configFault := rfl
@[simp] theorem mapChannel_cfg : (s.mapChannel i f).cfg = s.cfg := rfl
@[simp] theorem mapChannel_lsc : (s.mapChannel i f).lsc = s.lsc := rfl
@[simp] theorem mapChannel_rge : (s.mapChannel i f).rge = s.rge := rfl
@[simp] theorem mapChannel_lfc : (s.mapChannel i f).lfc = s.lfc := rfl
@[simp] theorem mapChannel_dsq : (s.mapChannel i f).dsq = s.dsq := rfl
@[simp] theorem mapChannel_cue : (s.mapChannel i f).cue = s.cue := rfl
@[simp] theorem mapChannel_tnq : (s.mapChannel i f).tnq = s.tnq := rfl
@[simp] theorem mapChannel_trl : (s.mapChannel i f).trl = s.trl := rfl
@[simp] theorem mapChannel_cfs : (s.mapChannel i f).cfs = s.cfs := rfl
@[simp] theorem mapChannel_links : (s.mapChannel i f).links = s.links := rfl
@[simp] theorem mapChannel_startOutputs : (s.mapChannel i f).startOutputs = s.startOutputs := rfl
end

/-! ### mapPort -/

section
variable (i : PortId) (f : PortRec → PortRec)
@[simp] theorem mapPort_pending : (s.mapPort i f).pending = s.pending := rfl
@[simp] theorem mapPort_deliveries : (s.mapPort i f).deliveries = s.deliveries := rfl
@[simp] theorem mapPort_now : (s.mapPort i f).now = s.now := rfl
@[simp] theorem mapPort_configFault : (s.mapPort i f).configFault = s.configFault := rfl
@[simp] theorem mapPort_cfg : (s.mapPort i f).cfg = s.cfg := rfl
@[simp] theorem mapPort_lsc : (s.mapPort i f).lsc = s.lsc := rfl
@[simp] theorem mapPort_rge : (s.mapPort i f).rge = s.rge := rfl
@[simp] theorem mapPort_lfc : (s.mapPort i f).lfc = s.lfc := rfl
@[simp] theorem mapPort_dsq : (s.mapPort i f).dsq = s.dsq := rfl
@[simp] theorem mapPort_cue : (s.mapPort i f).cue = s.cue := rfl
@[simp] theorem mapPort_chr : (s.mapPort i f).chr = s.chr := rfl
@[simp] theorem mapPort_tnq : (s.mapPort i f).tnq = s.tnq := rfl
@[simp] theorem mapPort_trl : (s.mapPort i f).trl = s.trl := rfl
@[simp] theorem mapPort_cfs : (s.mapPort i f).cfs = s.cfs := rfl
@[simp] theorem mapPort_startOutputs : (s.mapPort i f).startOutputs = s.startOutputs := rfl
end

/-! ### the records that an update replaces -/

@[simp] theorem setZone_zones (i : ZoneId) (r : ZoneRec) : (s.setZone i r).rge.zones = s.rge.zones.set i.val r := rfl
@[simp] theorem setBank_banks (i : BankId) (r : BankRec) : (s.setBank i r).lfc.banks = s.lfc.banks.set i.val r := rfl
@[simp] theorem setDoor_doors (i : DoorId) (r : DoorState) : (s.setDoor i r).dsq.doors = s.dsq.doors.set i.val r := rfl
@[simp] theorem setGroup_groups (i : GroupId) (r : GroupRec) : (s.setGroup i r).dsq.groups = s.dsq.groups.set i.val r := rfl
@[simp] theorem setDemand_zones (i : SpeakerId) (r : ZoneDemand) : (s.setDemand i r).cue.zones = s.cue.zones.set i.val r := rfl
@[simp] theorem setChain_chains (i : ChannelId) (r : Option Chain) : (s.setChain i r).cue.chains = s.cue.chains.set i.val r := rfl
@[simp] theorem setChannel_channels (i : ChannelId) (r : ChannelRec) : (s.setChannel i r).chr.channels = s.chr.channels.set i.val r := rfl
@[simp] theorem setPort_ports (i : PortId) (r : PortRec) : (s.setPort i r).links.ports = s.links.ports.set i.val r := rfl

end Sys2Proof.Machine
end

