-- ==== Sys2Proof/Laws/Frames.lean ====
section
/-! SUPPORT. What the operations of each block leave alone: one frame per block, and one lemma per operation. -/

namespace Sys2Proof.Machine

/-! ## The frames -/

/-- Only the Loop Scanner and the deliveries may differ. -/
def lscOnly (s t : State) : Prop := t = { s with lsc := t.lsc, deliveries := t.deliveries }
/-- Only the Regime Engine and the deliveries may differ. -/
def rgeOnly (s t : State) : Prop := t = { s with rge := t.rge, deliveries := t.deliveries }
/-- Only the Lift Coordinator and the deliveries may differ. -/
def lfcOnly (s t : State) : Prop := t = { s with lfc := t.lfc, deliveries := t.deliveries }
/-- Only the Door Sequencer and the deliveries may differ. -/
def dsqOnly (s t : State) : Prop := t = { s with dsq := t.dsq, deliveries := t.deliveries }
/-- Only the Cue Engine, the Channel Router and the deliveries may differ. -/
def chrOnly (s t : State) : Prop := t = { s with cue := t.cue, chr := t.chr, deliveries := t.deliveries }
/-- Only the Tenant Queue and the deliveries may differ. -/
def tnqOnly (s t : State) : Prop := t = { s with tnq := t.tnq, deliveries := t.deliveries }
/-- Only the Trouble List and the deliveries may differ. -/
def trlOnly (s t : State) : Prop := t = { s with trl := t.trl, deliveries := t.deliveries }
/-- Only the Configuration Store and the deliveries may differ. -/
def cfsOnly (s t : State) : Prop := t = { s with cfs := t.cfs, deliveries := t.deliveries }
/-- Only the ports, the write of the Configuration Store and the deliveries may differ. -/
def linksOnly (s t : State) : Prop := t = { s with links := t.links, cfs := t.cfs, deliveries := t.deliveries }

section
variable {s t u : State}
theorem lscOnly.trans (h : lscOnly s t) (k : lscOnly t u) : lscOnly s u := by
  unfold lscOnly at *; rw [k, h]
theorem rgeOnly.trans (h : rgeOnly s t) (k : rgeOnly t u) : rgeOnly s u := by
  unfold rgeOnly at *; rw [k, h]
theorem lfcOnly.trans (h : lfcOnly s t) (k : lfcOnly t u) : lfcOnly s u := by
  unfold lfcOnly at *; rw [k, h]
theorem dsqOnly.trans (h : dsqOnly s t) (k : dsqOnly t u) : dsqOnly s u := by
  unfold dsqOnly at *; rw [k, h]
theorem chrOnly.trans (h : chrOnly s t) (k : chrOnly t u) : chrOnly s u := by
  unfold chrOnly at *; rw [k, h]
theorem tnqOnly.trans (h : tnqOnly s t) (k : tnqOnly t u) : tnqOnly s u := by
  unfold tnqOnly at *; rw [k, h]
theorem trlOnly.trans (h : trlOnly s t) (k : trlOnly t u) : trlOnly s u := by
  unfold trlOnly at *; rw [k, h]
theorem cfsOnly.trans (h : cfsOnly s t) (k : cfsOnly t u) : cfsOnly s u := by
  unfold cfsOnly at *; rw [k, h]
theorem linksOnly.trans (h : linksOnly s t) (k : linksOnly t u) : linksOnly s u := by
  unfold linksOnly at *; rw [k, h]
end

theorem rgeOnly.refl (s : State) : rgeOnly s s := rfl
theorem withRge_rgeOnly (s : State) (b : Rge) : rgeOnly s (s.withRge b) := rfl
theorem lfcOnly.refl (s : State) : lfcOnly s s := rfl
theorem withLfc_lfcOnly (s : State) (b : Lfc) : lfcOnly s (s.withLfc b) := rfl
theorem dsqOnly.refl (s : State) : dsqOnly s s := rfl
theorem withDsq_dsqOnly (s : State) (b : Dsq) : dsqOnly s (s.withDsq b) := rfl
theorem tnqOnly.refl (s : State) : tnqOnly s s := rfl
theorem withTnq_tnqOnly (s : State) (b : Tnq) : tnqOnly s (s.withTnq b) := rfl
theorem trlOnly.refl (s : State) : trlOnly s s := rfl
theorem withTrl_trlOnly (s : State) (b : Trl) : trlOnly s (s.withTrl b) := rfl
theorem cfsOnly.refl (s : State) : cfsOnly s s := rfl
theorem withCfs_cfsOnly (s : State) (b : Cfs) : cfsOnly s (s.withCfs b) := rfl
theorem lscOnly.refl (s : State) : lscOnly s s := rfl
theorem withLsc_lscOnly (s : State) (b : Lsc) : lscOnly s (s.withLsc b) := rfl
theorem chrOnly.refl (s : State) : chrOnly s s := rfl
theorem withChr_chrOnly (s : State) (b : Chr) : chrOnly s (s.withChr b) := rfl
theorem withCue_chrOnly (s : State) (b : Cue) : chrOnly s (s.withCue b) := rfl
theorem linksOnly.refl (s : State) : linksOnly s s := rfl
theorem withLinks_linksOnly (s : State) (b : Links) : linksOnly s (s.withLinks b) := rfl
theorem withCfs_linksOnly (s : State) (b : Cfs) : linksOnly s (s.withCfs b) := rfl

/-- A fold of operations keeps what each of them keeps. -/
theorem foldl_keeps {α : Type} (R : State → State → Prop) (refl : ∀ s, R s s)
    (trans : ∀ s t u, R s t → R t u → R s u) (f : State → α → State) (hf : ∀ s a, R s (f s a)) (xs : List α) (s : State) :
    R s (xs.foldl f s) := by
  induction xs generalizing s with
  | nil => exact refl s
  | cons a xs ih => exact trans _ _ _ (hf s a) (ih _)

/-! ## The Regime Engine -/

section
variable (s : State)

theorem deliver_rgeOnly (es : List Instr) : rgeOnly s (s.deliver es) := rfl
theorem setZone_rgeOnly (z : ZoneId) (r : ZoneRec) : rgeOnly s (s.setZone z r) := withRge_rgeOnly s _
theorem recountFloors_rgeOnly : rgeOnly s (recountFloors s) := withRge_rgeOnly s _
theorem settleRegime_rgeOnly : rgeOnly s (settleRegime s) := withRge_rgeOnly s _
theorem raiseFloors_rgeOnly (g : FloorId → Phase) : rgeOnly s (raiseFloors g s) := withRge_rgeOnly s _
theorem recomputeAlert_rgeOnly : rgeOnly s (recomputeAlert s) := withRge_rgeOnly s _
theorem startExpansion_rgeOnly : rgeOnly s (startExpansion s) := withRge_rgeOnly s _
theorem stopExpansion_rgeOnly : rgeOnly s (stopExpansion s) := withRge_rgeOnly s _
theorem stopIfAllEvacuated_rgeOnly : rgeOnly s (stopIfAllEvacuated s) := withRge_rgeOnly s _
theorem enterAlarm_rgeOnly : rgeOnly s (enterAlarm s) := withRge_rgeOnly s _
theorem appendFloor_rgeOnly (f : FloorId) : rgeOnly s (appendFloor f s) := withRge_rgeOnly s _
theorem phasesAtEntry_rgeOnly : rgeOnly s (phasesAtEntry s) :=
  ((raiseFloors_rgeOnly s _).trans (recomputeAlert_rgeOnly _)).trans (startExpansion_rgeOnly _)
theorem phasesAtOrigin_rgeOnly (f : FloorId) : rgeOnly s (phasesAtOrigin f s) :=
  ((raiseFloors_rgeOnly s _).trans (recomputeAlert_rgeOnly _)).trans (stopIfAllEvacuated_rgeOnly _)
theorem alarmZones_rgeOnly (zs : List ZoneId) : rgeOnly s (alarmZones zs s) :=
  (withRge_rgeOnly s _).trans (deliver_rgeOnly _ _)

theorem regimeAlarmed_rgeOnly (floor : Nat) : rgeOnly s (regimeAlarmed floor s) := by
  have hw := withRge_rgeOnly s { s.rge with acknowledged := false, silence := none }
  unfold regimeAlarmed
  split
  · split
    · exact hw
    · exact (hw.trans (enterAlarm_rgeOnly _)).trans (phasesAtEntry_rgeOnly _)
  · rename_i f _
    dsimp only
    split
    · split
      · exact (hw.trans (appendFloor_rgeOnly _ f)).trans (phasesAtOrigin_rgeOnly _ f)
      · exact hw
    · split
      · exact ((hw.trans (appendFloor_rgeOnly _ f)).trans (enterAlarm_rgeOnly _)).trans (phasesAtEntry_rgeOnly _)
      · exact (hw.trans (enterAlarm_rgeOnly _)).trans (phasesAtEntry_rgeOnly _)

theorem enterZoneAlarm_rgeOnly (z : ZoneId) : rgeOnly s (enterZoneAlarm z s) :=
  (alarmZones_rgeOnly s _).trans (regimeAlarmed_rgeOnly _ _)

theorem enterPrealarm_rgeOnly (z : ZoneId) : rgeOnly s (enterPrealarm z s) := by
  unfold enterPrealarm
  have h := (setZone_rgeOnly s z
    { s.rge.zones[z] with state := .prealarm, timer := some (s.after (s.cfg.tVerify * 1000)) }).trans
      (deliver_rgeOnly _ [.cfsRegimeDelivery .prealarm])
  dsimp only
  split
  · exact h
  · exact h.trans (enterZoneAlarm_rgeOnly _ z)

theorem alarmArrives_rgeOnly (z : ZoneId) : rgeOnly s (alarmArrives z s) := by
  unfold alarmArrives
  split
  · exact enterPrealarm_rgeOnly s z
  · split
    · exact (deliver_rgeOnly s _).trans (enterZoneAlarm_rgeOnly _ z)
    · exact enterZoneAlarm_rgeOnly s z

theorem unconfirmedReturn_rgeOnly (z : ZoneId) : rgeOnly s (unconfirmedReturn z s) := by
  unfold unconfirmedReturn
  dsimp only
  split
  · exact (setZone_rgeOnly s z _).trans (deliver_rgeOnly _ _)
  · exact setZone_rgeOnly s z _

theorem conditionActs_rgeOnly (z : ZoneId) (c : Condition) : rgeOnly s (conditionActs z c s) := by
  unfold conditionActs
  dsimp only
  split
  · exact alarmArrives_rgeOnly s z
  · exact setZone_rgeOnly s z _
  · exact rgeOnly.refl s
  · exact unconfirmedReturn_rgeOnly s z
  · exact setZone_rgeOnly s z _
  · exact rgeOnly.refl s
  · exact setZone_rgeOnly s z _
  · exact alarmArrives_rgeOnly s z
  · exact rgeOnly.refl s
  · exact rgeOnly.refl s
  · exact rgeOnly.refl s

theorem arrive_rgeOnly (z : ZoneId) (c : Condition) : rgeOnly s (arrive z c s) := by
  unfold arrive
  split
  · exact rgeOnly.refl s
  · have h : rgeOnly s (recordCondition z c s) := setZone_rgeOnly s z _
    exact (h.trans (conditionActs_rgeOnly _ z c)).trans (deliver_rgeOnly _ _)

theorem panelLost_rgeOnly (p : PortId) : rgeOnly s (panelLost p s) :=
  foldl_keeps rgeOnly (fun _ => rfl) (fun _ _ _ => rgeOnly.trans) _ (fun s z => arrive_rgeOnly s z .fault) _ s

theorem zoneReportTaken_rgeOnly (p : PortId) (es : List (Byte × Byte)) : rgeOnly s (zoneReportTaken p es s) :=
  foldl_keeps rgeOnly (fun _ => rfl) (fun _ _ _ => rgeOnly.trans) _
    (fun s e => by unfold reportEntry; split <;> first | rfl | exact arrive_rgeOnly s _ _) _ s

theorem commandStationLost_rgeOnly : rgeOnly s (commandStationLost s) := by
  unfold commandStationLost
  split
  · exact ((withRge_rgeOnly s _).trans (recomputeAlert_rgeOnly _)).trans (startExpansion_rgeOnly _)
  · exact rgeOnly.refl s

theorem cmdAcknowledge_rgeOnly : rgeOnly s (cmdAcknowledge s).1 := (withRge_rgeOnly s _).trans (deliver_rgeOnly _ _)
theorem cmdSilence_rgeOnly (l : Nat) : rgeOnly s (cmdSilence l s).1 := by
  unfold cmdSilence
  split
  · exact withRge_rgeOnly s _
  · exact rgeOnly.refl s
theorem cmdResound_rgeOnly (l : Nat) : rgeOnly s (cmdResound l s).1 := by
  unfold cmdResound
  split
  · exact rgeOnly.refl s
  · split
    · exact rgeOnly.refl s
    · exact withRge_rgeOnly s _
theorem cmdEvacuateAll_rgeOnly (l : Nat) : rgeOnly s (cmdEvacuateAll l s).1 := by
  unfold cmdEvacuateAll
  dsimp only
  split
  · exact ((withRge_rgeOnly s _).trans (raiseFloors_rgeOnly _ _)).trans (stopExpansion_rgeOnly _)
  · exact (((enterAlarm_rgeOnly s).trans (withRge_rgeOnly _ _)).trans (raiseFloors_rgeOnly _ _)).trans
      (stopExpansion_rgeOnly _)
theorem cmdCancelEvacuateAll_rgeOnly (l : Nat) : rgeOnly s (cmdCancelEvacuateAll l s).1 := by
  unfold cmdCancelEvacuateAll
  split
  · exact rgeOnly.refl s
  · split
    · exact rgeOnly.refl s
    · exact withRge_rgeOnly s _
theorem cmdHoldExpansion_rgeOnly (l : Nat) : rgeOnly s (cmdHoldExpansion l s).1 := by
  unfold cmdHoldExpansion
  split
  · exact (withRge_rgeOnly s _).trans (stopExpansion_rgeOnly _)
  · exact rgeOnly.refl s
theorem cmdReleaseExpansion_rgeOnly (l : Nat) : rgeOnly s (cmdReleaseExpansion l s).1 := by
  unfold cmdReleaseExpansion
  split
  · exact rgeOnly.refl s
  · split
    · exact rgeOnly.refl s
    · exact (withRge_rgeOnly s _).trans (startExpansion_rgeOnly _)
theorem cmdTakeManualControl_rgeOnly : rgeOnly s (cmdTakeManualControl s).1 := by
  unfold cmdTakeManualControl
  split
  · exact rgeOnly.refl s
  · split
    · exact rgeOnly.refl s
    · exact (withRge_rgeOnly s _).trans (stopExpansion_rgeOnly _)
theorem cmdSetFloorPhase_rgeOnly (a b : Byte) : rgeOnly s (cmdSetFloorPhase a b s).1 := by
  unfold cmdSetFloorPhase
  split
  · split
    · exact rgeOnly.refl s
    · exact (raiseFloors_rgeOnly s _).trans (stopIfAllEvacuated_rgeOnly _)
  · exact rgeOnly.refl s
theorem cmdReturnToAutomatic_rgeOnly (l : Nat) : rgeOnly s (cmdReturnToAutomatic l s).1 := by
  unfold cmdReturnToAutomatic
  split
  · exact rgeOnly.refl s
  · split
    · exact rgeOnly.refl s
    · exact ((withRge_rgeOnly s _).trans (recomputeAlert_rgeOnly _)).trans (startExpansion_rgeOnly _)
theorem cmdRegimeReset_rgeOnly (l : Nat) : rgeOnly s (cmdRegimeReset l s).1 := by
  unfold cmdRegimeReset
  split
  · exact rgeOnly.refl s
  · split
    · exact rgeOnly.refl s
    · split
      · exact rgeOnly.refl s
      · exact (withRge_rgeOnly s _).trans (deliver_rgeOnly _ _)

theorem isolate_rgeOnly (z : ZoneId) : rgeOnly s (isolate z s) :=
  ((setZone_rgeOnly s z _).trans (deliver_rgeOnly _ _)).trans (deliver_rgeOnly _ _)

theorem cmdIsolateZone_rgeOnly (p : PortId) (n : Byte) : rgeOnly s (cmdIsolateZone p n s).1 := by
  unfold cmdIsolateZone
  split
  · exact rgeOnly.refl s
  · split
    · exact rgeOnly.refl s
    · split
      · exact rgeOnly.refl s
      · exact rgeOnly.refl s
      all_goals exact isolate_rgeOnly s _

theorem restore_rgeOnly (z : ZoneId) : rgeOnly s (restore z s) :=
  (((setZone_rgeOnly s z _).trans (deliver_rgeOnly _ _)).trans (conditionActs_rgeOnly _ z _)).trans
    (deliver_rgeOnly _ _)

theorem cmdRestoreZone_rgeOnly (p : PortId) (n : Byte) : rgeOnly s (cmdRestoreZone p n s).1 := by
  unfold cmdRestoreZone
  split
  · rfl
  · split
    · rfl
    · split
      · rfl
      · exact restore_rgeOnly s _

theorem rgeChange_rgeOnly (f : State → State) (hf : rgeOnly s (f s)) : rgeOnly s (rgeChange f s) :=
  ((hf.trans (recountFloors_rgeOnly _)).trans (settleRegime_rgeOnly _)).trans (deliver_rgeOnly _ _)

/-! ## The Lift Coordinator -/

theorem deliver_lfcOnly (es : List Instr) : lfcOnly s (s.deliver es) := rfl
theorem raiseRecall_lfcOnly (b : BankId) (g : Reasons → Reasons) : lfcOnly s (raiseRecall b g s) := withLfc_lfcOnly s _
theorem switchLanding_lfcOnly (b : BankId) (z : ZoneId) : lfcOnly s (switchLanding b z s) := withLfc_lfcOnly s _
theorem flashLamp_lfcOnly (b : BankId) : lfcOnly s (flashLamp b s) := withLfc_lfcOnly s _
theorem tripBank_lfcOnly (b : BankId) : lfcOnly s (tripBank b s) := withLfc_lfcOnly s _
theorem parkedTest_lfcOnly (b : BankId) : lfcOnly s (parkedTest b s) := by
  unfold parkedTest
  split
  · exact tripBank_lfcOnly s b
  · exact lfcOnly.refl s

theorem sprinklerAlarm_lfcOnly (b : BankId) : lfcOnly s (sprinklerAlarm b s) := by
  unfold sprinklerAlarm
  dsimp only
  split
  · exact (withLfc_lfcOnly s _).trans (parkedTest_lfcOnly _ b)
  · exact (withLfc_lfcOnly s _).trans (parkedTest_lfcOnly _ b)
  · exact withLfc_lfcOnly s _
  · exact withLfc_lfcOnly s _

theorem zoneAlarmAtBank_lfcOnly (z : ZoneId) (b : BankId) : lfcOnly s (zoneAlarmAtBank z s b) := by
  unfold zoneAlarmAtBank
  split
  · split
    · exact (raiseRecall_lfcOnly s b _).trans (switchLanding_lfcOnly _ b z)
    · exact (raiseRecall_lfcOnly s b _).trans (flashLamp_lfcOnly _ b)
    · exact sprinklerAlarm_lfcOnly s b
    all_goals exact lfcOnly.refl s
  · exact lfcOnly.refl s

theorem zoneAlarmAtLfc_lfcOnly (z : ZoneId) : lfcOnly s (zoneAlarmAtLfc z s) :=
  foldl_keeps lfcOnly (fun _ => rfl) (fun _ _ _ => lfcOnly.trans) _ (fun s b => zoneAlarmAtBank_lfcOnly s z b) _ s

theorem alarmEntryAtLfc_lfcOnly : lfcOnly s (alarmEntryAtLfc s) :=
  foldl_keeps lfcOnly (fun _ => rfl) (fun _ _ _ => lfcOnly.trans) _ (fun s b => by split; exacts [raiseRecall_lfcOnly s b _, lfcOnly.refl s]) _ s

theorem resetAtLfc_lfcOnly : lfcOnly s (resetAtLfc s) :=
  foldl_keeps lfcOnly (fun _ => rfl) (fun _ _ _ => lfcOnly.trans) _ (fun s b => by split; exacts [withLfc_lfcOnly s _, lfcOnly.refl s]) _ s

theorem presenceAtLfc_lfcOnly (p : PortId) (q : Presence) : lfcOnly s (presenceAtLfc p q s) := by
  unfold presenceAtLfc
  split
  · exact lfcOnly.refl s
  · dsimp only
    split
    · exact (withLfc_lfcOnly s _).trans (withLfc_lfcOnly _ _)
    · exact withLfc_lfcOnly s _

theorem shutdownExpires_lfcOnly (b : BankId) : lfcOnly s (shutdownExpires b s) := by
  unfold shutdownExpires; split <;> exact withLfc_lfcOnly s _
theorem lampToggles_lfcOnly (b : BankId) : lfcOnly s (lampToggles b s) := withLfc_lfcOnly s _

theorem carEntryTaken_lfcOnly (b : BankId) (e : CarEntry) : lfcOnly s (carEntryTaken b s e) := by
  unfold carEntryTaken
  split
  · split
    · exact withLfc_lfcOnly s _
    · exact lfcOnly.refl s
  · exact lfcOnly.refl s

theorem carReportTaken_lfcOnly (b : BankId) (es : List CarEntry) : lfcOnly s (carReportTaken b es s) := by
  have h : lfcOnly s (es.foldl (carEntryTaken b) s) :=
    foldl_keeps lfcOnly (fun _ => rfl) (fun _ _ _ => lfcOnly.trans) _ (fun s e => carEntryTaken_lfcOnly s b e) _ s
  unfold carReportTaken
  dsimp only
  split
  · exact h.trans (parkedTest_lfcOnly _ b)
  · exact h

theorem cmdRecallBank_lfcOnly (n : Byte) : lfcOnly s (cmdRecallBank n s).1 := by
  unfold cmdRecallBank
  split
  · exact lfcOnly.refl s
  · exact raiseRecall_lfcOnly s _ (fun q => { q with manual := true })
theorem cmdCancelRecall_lfcOnly (n : Byte) : lfcOnly s (cmdCancelRecall n s).1 := by
  unfold cmdCancelRecall
  split
  · exact lfcOnly.refl s
  · dsimp only; split; exacts [withLfc_lfcOnly s _, lfcOnly.refl s]
theorem cmdAuthorisePhaseII_lfcOnly (n : Byte) : lfcOnly s (cmdAuthorisePhaseII n s).1 := by
  unfold cmdAuthorisePhaseII
  split
  · exact lfcOnly.refl s
  · split; exacts [lfcOnly.refl s, lfcOnly.refl s, withLfc_lfcOnly s _, withLfc_lfcOnly s _]
theorem cmdWithdrawPhaseII_lfcOnly (n : Byte) : lfcOnly s (cmdWithdrawPhaseII n s).1 := by
  unfold cmdWithdrawPhaseII
  split
  · exact lfcOnly.refl s
  · split; exacts [lfcOnly.refl s, withLfc_lfcOnly s _]

/-! ## The Door Sequencer -/

theorem deliver_dsqOnly (es : List Instr) : dsqOnly s (s.deliver es) := rfl
theorem setDoor_dsqOnly (d : DoorId) (r : DoorState) : dsqOnly s (s.setDoor d r) := withDsq_dsqOnly s _
theorem mapGroup_dsqOnly (g : GroupId) (f : GroupRec → GroupRec) : dsqOnly s (s.mapGroup g f) := withDsq_dsqOnly s _
theorem queueStrikes_dsqOnly (f : DoorId → Bool) : dsqOnly s (queueStrikes f s) := withDsq_dsqOnly s _
theorem promote_dsqOnly (fs : List FloorId) : dsqOnly s (promote fs s) := withDsq_dsqOnly s _
theorem dropMagnets_dsqOnly (fs : List FloorId) : dsqOnly s (dropMagnets fs s) := withDsq_dsqOnly s _
theorem issueRelease_dsqOnly (g : GroupId) (e : QueueEntry) : dsqOnly s (issueRelease g e s) :=
  (setDoor_dsqOnly s _ _).trans (withDsq_dsqOnly _ _)

theorem attempt_dsqOnly (g : GroupId) : dsqOnly s (attempt g s) := by
  unfold attempt
  split
  · split
    · exact issueRelease_dsqOnly s g _
    · exact (mapGroup_dsqOnly s g _).trans (deliver_dsqOnly _ _)
  · exact dsqOnly.refl s

theorem attemptsAfter_dsqOnly (b : State) : dsqOnly s (attemptsAfter b s) :=
  foldl_keeps dsqOnly (fun _ => rfl) (fun _ _ _ => dsqOnly.trans) _
    (fun s g => by unfold attemptIfAppended; split; exacts [attempt_dsqOnly s g, dsqOnly.refl s]) _ s

theorem enterTaken_dsqOnly (g : GroupId) : dsqOnly s (enterTaken g s) := withDsq_dsqOnly s _
theorem enterHandover_dsqOnly (g : GroupId) : dsqOnly s (enterHandover g s) := withDsq_dsqOnly s _
theorem handBack_dsqOnly (g : GroupId) : dsqOnly s (handBack g s) := withDsq_dsqOnly s _

theorem takeRequest_dsqOnly (g : GroupId) : dsqOnly s (takeRequest g s) := by
  unfold takeRequest
  split
  all_goals first | exact dsqOnly.refl s | (split; exacts [enterHandover_dsqOnly s g, enterTaken_dsqOnly s g])

theorem endHandover_dsqOnly (g : GroupId) : dsqOnly s (endHandover g s) := by
  unfold endHandover
  split
  · split; exacts [enterTaken_dsqOnly s g, handBack_dsqOnly s g]
  · exact dsqOnly.refl s

theorem phaseChangeAtDsq_dsqOnly (fs : List (FloorId × Phase)) : dsqOnly s (phaseChangeAtDsq fs s) := by
  unfold phaseChangeAtDsq
  split
  · exact (((dropMagnets_dsqOnly s _).trans (queueStrikes_dsqOnly _ _)).trans (promote_dsqOnly _ _)).trans
      (attemptsAfter_dsqOnly _ s)
  · exact dsqOnly.refl s

theorem resetAtDsq_dsqOnly : dsqOnly s (resetAtDsq s) :=
  dsqOnly.trans (withDsq_dsqOnly s _)
    (foldl_keeps dsqOnly (fun _ => rfl) (fun _ _ _ => dsqOnly.trans) _ (fun s g => endHandover_dsqOnly s g) _ _)

theorem cmdReleaseAllDoors_dsqOnly : dsqOnly s (cmdReleaseAllDoors s).1 := by
  unfold cmdReleaseAllDoors
  split
  · dsimp only
    exact (queueStrikes_dsqOnly s _).trans (attemptsAfter_dsqOnly _ s)
  · exact dsqOnly.refl s

theorem pacingExpires_dsqOnly (g : GroupId) : dsqOnly s (pacingExpires g s) := by
  unfold pacingExpires
  dsimp only
  split
  · exact (mapGroup_dsqOnly s g _).trans (attempt_dsqOnly _ g)
  · exact ((mapGroup_dsqOnly s g fun r => { r with pacing := none }).trans
      (mapGroup_dsqOnly _ g fun r => { r with takeover := .owned })).trans (attempt_dsqOnly _ g)
  all_goals exact mapGroup_dsqOnly s g _

theorem rampEnds_dsqOnly (d : DoorId) : dsqOnly s (rampEnds d s) := by
  unfold rampEnds
  dsimp only
  split
  · exact (setDoor_dsqOnly s d _).trans (endHandover_dsqOnly _ _)
  · exact setDoor_dsqOnly s d _

theorem feedbackAtDsq_dsqOnly (l : LoopId) (b : Band) : dsqOnly s (feedbackAtDsq l b s) := withDsq_dsqOnly s _

theorem dsqChange_dsqOnly (f : State → State) (hf : dsqOnly s (f s)) : dsqOnly s (dsqChange f s) :=
  hf.trans (deliver_dsqOnly _ _)

/-! ## The Cue Engine and the Channel Router -/

theorem deliver_chrOnly (es : List Instr) : chrOnly s (s.deliver es) := rfl
theorem setDemand_chrOnly (z : SpeakerId) (r : ZoneDemand) : chrOnly s (s.setDemand z r) := withCue_chrOnly s _
theorem setChain_chrOnly (c : ChannelId) (k : Option Chain) : chrOnly s (s.setChain c k) := withCue_chrOnly s _
theorem mapChannel_chrOnly (c : ChannelId) (f : ChannelRec → ChannelRec) : chrOnly s (s.mapChannel c f) := withChr_chrOnly s _
theorem remonitor_chrOnly : chrOnly s (remonitor s) := withChr_chrOnly s _
theorem remonitorIfMoved_chrOnly (t : State) : chrOnly t (remonitorIfMoved s t) := withChr_chrOnly t _
theorem zonesLeave_chrOnly (t : State) : chrOnly t (zonesLeave s t) := withChr_chrOnly t _
theorem chainsEnd_chrOnly (t : State) : chrOnly t (chainsEnd s t) := withCue_chrOnly t _
theorem recomputeFire_chrOnly (f : SpeakerId → Bool) : chrOnly s (recomputeFire f s) := withCue_chrOnly s _

theorem cueChange_chrOnly (f : State → State) (hf : chrOnly s (f s)) : chrOnly s (cueChange f s) :=
  (((hf.trans (zonesLeave_chrOnly s _)).trans (chainsEnd_chrOnly s _)).trans (remonitorIfMoved_chrOnly s _)).trans
    (deliver_chrOnly _ _)

theorem setSource_chrOnly (l : LiveSourceId) (r : LiveRec) : chrOnly s (s.setSource l r) := by
  cases l <;> exact withChr_chrOnly s _
theorem putSlots_chrOnly (c : ChannelId) (xs : List Slot) : chrOnly s (putSlots c xs s) :=
  (mapChannel_chrOnly s c _).trans (withChr_chrOnly _ _)

theorem kickPort_chrOnly : chrOnly s (kickPort s) := by
  unfold kickPort
  split
  · exact chrOnly.refl s
  · split
    · exact chrOnly.refl s
    · exact (mapChannel_chrOnly s _ _).trans (withChr_chrOnly _ _)

theorem beginProgramme_chrOnly (c : ChannelId) (d : Demand) : chrOnly s (beginProgramme c d s) := by
  unfold beginProgramme
  dsimp only
  split
  · exact mapChannel_chrOnly s c _
  all_goals exact (mapChannel_chrOnly s c _).trans (setChain_chrOnly _ c _)

theorem tryBegin_chrOnly (c : ChannelId) : chrOnly s (tryBegin c s) := by
  unfold tryBegin
  dsimp only
  split
  · exact chrOnly.refl s
  · split
    · split
      · exact beginProgramme_chrOnly s _ _
      · split
        · exact beginProgramme_chrOnly s _ _
        · exact chrOnly.refl s
    · exact chrOnly.refl s

theorem dropWaiting_chrOnly (d : Demand) : chrOnly s (dropWaiting d s) := withChr_chrOnly s _

theorem grantChannel_chrOnly (c : ChannelId) (p : Programme) : chrOnly s (grantChannel c p s) :=
  (((dropWaiting_chrOnly s _).trans (mapChannel_chrOnly _ c _)).trans (putSlots_chrOnly _ c _)).trans (tryBegin_chrOnly _ c)

theorem victimGoes_chrOnly (p : Programme) : chrOnly s (victimGoes p s) := by
  unfold victimGoes; split; exacts [deliver_chrOnly s _, withChr_chrOnly s _, withChr_chrOnly s _]

theorem preempt_chrOnly (c : ChannelId) (o p : Programme) : chrOnly s (preempt c o p s) :=
  ((setChain_chrOnly s c _).trans (victimGoes_chrOnly _ o)).trans (grantChannel_chrOnly _ c p)

theorem arbitrate_chrOnly (n : Nat) : chrOnly s (arbitrate n s) := by
  induction n generalizing s with
  | zero => exact chrOnly.refl s
  | succ n ih =>
    unfold arbitrate
    split
    · exact chrOnly.refl s
    · split
      · exact (grantChannel_chrOnly s _ _).trans (ih _)
      · split
        · exact chrOnly.refl s
        · split
          · exact (preempt_chrOnly s _ _ _).trans (ih _)
          · exact chrOnly.refl s

theorem arbitrationPass_chrOnly : chrOnly s (arbitrationPass s) := arbitrate_chrOnly s 32
theorem releaseChannel_chrOnly (c : ChannelId) : chrOnly s (releaseChannel c s) :=
  ((setChain_chrOnly s c _).trans (mapChannel_chrOnly _ c _)).trans (putSlots_chrOnly _ c _)

theorem chrChange_chrOnly (f : State → State) (hf : chrOnly s (f s)) : chrOnly s (chrChange f s) :=
  ((hf.trans (kickPort_chrOnly _)).trans (remonitorIfMoved_chrOnly s _)).trans (deliver_chrOnly _ _)

theorem renewInstant_chrOnly (d : Demand) (i : Nat) : chrOnly s (renewInstant d i s) := withChr_chrOnly s _

theorem pendJoins_chrOnly (d : Demand) : chrOnly s (pendJoins d s) := by
  unfold pendJoins
  split
  · exact chrOnly.refl s
  · split; exacts [mapChannel_chrOnly s _ _, chrOnly.refl s]

theorem programmeFormed_chrOnly (d : Demand) (i : Nat) : chrOnly s (programmeFormed d i s) := by
  unfold programmeFormed
  split
  · exact chrOnly.refl s
  all_goals split; exacts [chrOnly.refl s, withChr_chrOnly s _]

theorem tenantEnded_chrOnly (d : Demand) : chrOnly s (tenantEnded d s) := by
  unfold tenantEnded; split; exacts [deliver_chrOnly s _, chrOnly.refl s, chrOnly.refl s]

theorem programmeEnded_chrOnly (d : Demand) : chrOnly s (programmeEnded d s) := by
  unfold programmeEnded
  split
  · exact dropWaiting_chrOnly s d
  · exact ((dropWaiting_chrOnly s d).trans (releaseChannel_chrOnly _ _)).trans (tenantEnded_chrOnly _ d)

theorem programmeTaken_chrOnly (d : Demand) (w : ProgrammeNews) : chrOnly s (programmeTaken d w s) := by
  unfold programmeTaken
  refine chrOnly.trans ?_ (arbitrationPass_chrOnly _)
  split
  · exact programmeEnded_chrOnly s d
  · exact programmeFormed_chrOnly s d _
  · exact (renewInstant_chrOnly s d _).trans (pendJoins_chrOnly _ d)
  all_goals exact chrOnly.refl s

theorem tenantTaken_chrOnly (k q i : Nat) : chrOnly s (tenantTaken k q i s) := by
  unfold tenantTaken; split; exacts [grantChannel_chrOnly s _ _, deliver_chrOnly s _]

theorem suspendIdling_chrOnly : chrOnly s (suspendIdling s) := withChr_chrOnly s _
theorem resumeIdling_chrOnly : chrOnly s (resumeIdling s) :=
  (withChr_chrOnly s _).trans (remonitor_chrOnly _)

theorem stopSource_chrOnly (l : LiveSourceId) : chrOnly s (stopSource l s) :=
  (((setSource_chrOnly s l _).trans (deliver_chrOnly _ _)).trans (programmeEnded_chrOnly _ _)).trans
    (arbitrationPass_chrOnly _)

theorem portLostAtChr_chrOnly (p : PortId) : chrOnly s (portLostAtChr p s) := by
  unfold portLostAtChr
  split
  · split
    · exact stopSource_chrOnly s _
    · exact chrOnly.refl s
  · exact chrOnly.refl s

theorem warmUpEnds_chrOnly (c : ChannelId) : chrOnly s (warmUpEnds c s) := by
  unfold warmUpEnds
  dsimp only
  split
  · exact (mapChannel_chrOnly s c _).trans (tryBegin_chrOnly _ c)
  · exact (mapChannel_chrOnly s c _).trans (arbitrationPass_chrOnly _)

theorem dropEnded_chrOnly (c : ChannelId) : chrOnly s (dropEnded c s) := by
  unfold dropEnded; split; exacts [(putSlots_chrOnly s c _).trans (mapChannel_chrOnly _ c _), chrOnly.refl s]
theorem joinZones_chrOnly (c : ChannelId) : chrOnly s (joinZones c s) := withChr_chrOnly s _
theorem underrunAt_chrOnly (c : ChannelId) : chrOnly s (underrunAt c s) :=
  ((putSlots_chrOnly s c _).trans (mapChannel_chrOnly _ c _)).trans (deliver_chrOnly _ _)

theorem playBlock_chrOnly (c : ChannelId) (k : Chain) : chrOnly s (playBlock c k s) := by
  unfold playBlock
  split
  · exact mapChannel_chrOnly s c _
  · split
    · split; exacts [underrunAt_chrOnly s c, mapChannel_chrOnly s c _]
    · exact underrunAt_chrOnly s c

theorem keepCandidate_chrOnly (c : ChannelId) (a b : Nat) : chrOnly s (keepCandidate c a b s) := by
  unfold keepCandidate; split; exacts [chrOnly.refl s, putSlots_chrOnly s c _]

theorem markFinished_chrOnly (c : ChannelId) (a b : Nat) : chrOnly s (markFinished c a b s) := by
  unfold markFinished; split; exacts [withCue_chrOnly s _, chrOnly.refl s]

theorem restZones_chrOnly (c : ChannelId) (d : Demand) : chrOnly s (restZones c d s) := withCue_chrOnly s _

theorem afterChain_chrOnly (p : Programme) : chrOnly s (afterChain p s) := by
  unfold afterChain
  split
  · exact deliver_chrOnly s _
  all_goals split; exacts [withChr_chrOnly s _, chrOnly.refl s]

theorem chainEnds_chrOnly (c : ChannelId) (q : Nat) (g : Grant) : chrOnly s (chainEnds c q g s) := by
  unfold chainEnds
  exact ((((markFinished_chrOnly s c q _).trans (restZones_chrOnly _ c _)).trans (releaseChannel_chrOnly _ c)).trans
    (afterChain_chrOnly _ _)).trans (arbitrationPass_chrOnly _)

theorem chainBoundary_chrOnly (c : ChannelId) (k : Chain) (g : Grant) : chrOnly s (chainBoundary c k g s) := by
  unfold chainBoundary
  dsimp only
  split
  · exact (((dropEnded_chrOnly s c).trans (setChain_chrOnly _ c _)).trans (playBlock_chrOnly _ c _)).trans
      (joinZones_chrOnly _ c)
  · split
    · exact ((((dropEnded_chrOnly s c).trans (setChain_chrOnly _ c _)).trans (keepCandidate_chrOnly _ c _ _)).trans
        (playBlock_chrOnly _ c _)).trans (joinZones_chrOnly _ c)
    · exact (dropEnded_chrOnly s c).trans (chainEnds_chrOnly _ c _ g)

theorem liveBoundary_chrOnly (c : ChannelId) (l : LiveSourceId) : chrOnly s (liveBoundary c l s) :=
  (mapChannel_chrOnly s c _).trans (joinZones_chrOnly _ c)

theorem boundaryAt_chrOnly (c : ChannelId) : chrOnly s (boundaryAt c s) := by
  unfold boundaryAt
  dsimp only
  have h := mapChannel_chrOnly s c fun r => { r with boundary := r.boundary.map (· + blockTime) }
  split
  · exact h
  · split
    · exact h.trans (liveBoundary_chrOnly _ c _)
    all_goals
      split
      · exact h.trans (chainBoundary_chrOnly _ c _ _)
      · exact h

theorem readEnds_chrOnly (r : FlashRead) (x : SlotStatus) : chrOnly s (readEnds r x s) := by
  unfold readEnds
  dsimp only
  split
  · exact withChr_chrOnly s _
  · exact ((withChr_chrOnly s _).trans (mapChannel_chrOnly _ _ _)).trans (tryBegin_chrOnly _ _)

theorem readFails_chrOnly (r : FlashRead) : chrOnly s (readFails r s) := by
  unfold readFails
  dsimp only
  split
  · exact readEnds_chrOnly s r _
  · exact (readEnds_chrOnly s r _).trans (deliver_chrOnly _ _)

theorem liveBlockTaken_chrOnly (l : LiveSourceId) : chrOnly s (liveBlockTaken l s) := setSource_chrOnly s l _

theorem cmdLiveStart_chrOnly (l : LiveSourceId) (zs : List SpeakerId) : chrOnly s (cmdLiveStart l zs s).1 := by
  unfold cmdLiveStart
  dsimp only
  split
  · exact chrOnly.refl s
  · split
    · exact chrOnly.refl s
    · exact (setSource_chrOnly s l _).trans (deliver_chrOnly _ _)

theorem cmdLiveStop_chrOnly (l : LiveSourceId) : chrOnly s (cmdLiveStop l s).1 := by
  unfold cmdLiveStop
  split
  · exact stopSource_chrOnly s l
  · exact chrOnly.refl s

theorem cmdMonitorSelect_chrOnly (a b : Byte) : chrOnly s (cmdMonitorSelect a b s).1 := by
  unfold cmdMonitorSelect; split; exacts [chrOnly.refl s, (withChr_chrOnly s _).trans (remonitor_chrOnly _)]

/-! ## The Tenant Queue -/

theorem deliver_tnqOnly (es : List Instr) : tnqOnly s (s.deliver es) := rfl
theorem startEntry_tnqOnly (e : TenantEntry) : tnqOnly s (startEntry e s) :=
  (withTnq_tnqOnly s _).trans (deliver_tnqOnly _ _)

theorem scanEntries_tnqOnly (es : List TenantEntry) (n : Nat) : tnqOnly s (scanEntries es n s) := by
  induction es generalizing s n with
  | nil => exact tnqOnly.refl s
  | cons e es ih =>
    unfold scanEntries
    split
    · exact (startEntry_tnqOnly s e).trans (ih _ _)
    · exact ih _ _

theorem admissionScan_tnqOnly : tnqOnly s (admissionScan s) := by
  unfold admissionScan; split; exacts [tnqOnly.refl s, scanEntries_tnqOnly s _ _]

theorem cmdAnnounceTenant_tnqOnly (q : Nat) (zs : List SpeakerId) : tnqOnly s (cmdAnnounceTenant q zs s).1 := by
  unfold cmdAnnounceTenant
  dsimp only
  split
  · exact tnqOnly.refl s
  · split
    · exact tnqOnly.refl s
    · split
      · exact tnqOnly.refl s
      · exact (withTnq_tnqOnly s _).trans (admissionScan_tnqOnly _)

theorem endPlaying_tnqOnly (e : TenantEntry) : tnqOnly s (endPlaying e s) :=
  (withTnq_tnqOnly s _).trans (deliver_tnqOnly _ _)
theorem ageEntry_tnqOnly (t : Nat) : tnqOnly s (ageEntry t s) := withTnq_tnqOnly s _
theorem addCut_tnqOnly (n : Nat) : tnqOnly s (addCut n s) := withTnq_tnqOnly s _

theorem cmdAnnounceCancel_tnqOnly (t : Nat) : tnqOnly s (cmdAnnounceCancel t s).1 := by
  unfold cmdAnnounceCancel
  split
  · exact withTnq_tnqOnly s _
  · split
    · exact (endPlaying_tnqOnly s _).trans (admissionScan_tnqOnly _)
    · exact tnqOnly.refl s

theorem refused_tnqOnly (e : TenantEntry) : tnqOnly s (refused e s) := by
  unfold refused
  dsimp only
  split
  · exact (endPlaying_tnqOnly s e).trans (addCut_tnqOnly _ 1)
  · split
    · exact ((endPlaying_tnqOnly s e).trans (withTnq_tnqOnly _ _)).trans (ageEntry_tnqOnly _ _)
    · exact (endPlaying_tnqOnly s e).trans (withTnq_tnqOnly _ _)

theorem completed_tnqOnly (e : TenantEntry) : tnqOnly s (completed e s) :=
  (endPlaying_tnqOnly s e).trans (admissionScan_tnqOnly _)

theorem cutShort_tnqOnly (e : TenantEntry) : tnqOnly s (cutShort e s) :=
  ((endPlaying_tnqOnly s e).trans (addCut_tnqOnly _ 1)).trans (admissionScan_tnqOnly _)

theorem onPlaying_tnqOnly (t : Nat) (f : TenantEntry → State → State) (hf : ∀ e s, tnqOnly s (f e s)) :
    tnqOnly s (onPlaying t f s) := by
  unfold onPlaying; split; exacts [hf _ s, tnqOnly.refl s]

theorem flush_tnqOnly : tnqOnly s (flush s) := by
  unfold flush
  exact tnqOnly.trans
    (foldl_keeps tnqOnly (fun _ => rfl) (fun _ _ _ => tnqOnly.trans) (fun u e => clearSlots e u)
      (fun u _ => deliver_tnqOnly u _) _ s) (withTnq_tnqOnly _ _)

/-! ## The Trouble List -/

theorem troubleRaised_trlOnly (k : TroubleKind) (n : Nat) : trlOnly s (troubleRaised k n s) := by
  unfold troubleRaised
  split
  · exact withTrl_trlOnly s _
  · split <;> exact withTrl_trlOnly s _

theorem troubleCleared_trlOnly (k : TroubleKind) (n : Nat) : trlOnly s (troubleCleared k n s) := by
  unfold troubleCleared
  split
  · exact trlOnly.refl s
  · split
    · exact withTrl_trlOnly s _
    · exact (withTrl_trlOnly s _).trans rfl

theorem acknowledgeAll_trlOnly : trlOnly s (acknowledgeAll s) := (withTrl_trlOnly s _).trans rfl

/-! ## The Configuration Store -/

theorem endMode_cfsOnly : cfsOnly s (endMode s) := withCfs_cfsOnly s _
theorem keyTurnedOn_cfsOnly : cfsOnly s (keyTurnedOn s) := by
  unfold keyTurnedOn; split; exacts [(withCfs_cfsOnly s _).trans (withCfs_cfsOnly _ _), withCfs_cfsOnly s _]

theorem configureWrite_cfsOnly (m : Image) (xs : List Byte) : cfsOnly s (configureWrite m xs s).1 := by
  unfold configureWrite; dsimp only; split; exacts [cfsOnly.refl s, withCfs_cfsOnly s _]

theorem handToWrite_cfsOnly (p : PortId) (m : Image) : cfsOnly s (handToWrite p m s) := by
  unfold handToWrite; split; exacts [cfsOnly.refl s, withCfs_cfsOnly s _]

theorem configureCommit_cfsOnly (p : PortId) (m : Image) : cfsOnly s (configureCommit p m s).1 := by
  unfold configureCommit
  split
  · exact cfsOnly.refl s
  · split; exacts [(handToWrite_cfsOnly s p m).trans (endMode_cfsOnly _), cfsOnly.refl s]

theorem configure_cfsOnly (p : PortId) (k : Byte) (xs : List Byte) : cfsOnly s (configure p k xs s).1 := by
  unfold configure
  split
  · exact cfsOnly.refl s
  · split
    · split
      · exact configureWrite_cfsOnly s _ _
      · exact cfsOnly.refl s
      · exact configureCommit_cfsOnly s _ _
      · exact withCfs_cfsOnly s _
    · exact cfsOnly.refl s

/-! ## The ports -/

theorem deliver_linksOnly (es : List Instr) : linksOnly s (s.deliver es) := rfl
theorem setPort_linksOnly (p : PortId) (r : PortRec) : linksOnly s (s.setPort p r) := withLinks_linksOnly s _

theorem presenceOnFrame_linksOnly (p : PortId) : linksOnly s (presenceOnFrame p s) := by
  unfold presenceOnFrame
  split
  · exact linksOnly.refl s
  · dsimp only
    split
    · exact (setPort_linksOnly s p _).trans (deliver_linksOnly _ _)
    · exact (setPort_linksOnly s p _).trans (deliver_linksOnly _ _)
    · split
      · exact ((setPort_linksOnly s p _).trans (deliver_linksOnly _ _)).trans (deliver_linksOnly _ _)
      · exact setPort_linksOnly s p _
    · exact setPort_linksOnly s p _

theorem losePort_linksOnly (p : PortId) : linksOnly s (losePort p s) :=
  ((withLinks_linksOnly s _).trans (deliver_linksOnly _ _)).trans (deliver_linksOnly _ _)
theorem startWrite_linksOnly (p : PortId) : linksOnly s (startWrite p s) := withCfs_linksOnly s _
theorem abandon_linksOnly (p : PortId) : linksOnly s (abandon p s) := by
  unfold abandon; split; exacts [(withLinks_linksOnly s _).trans (startWrite_linksOnly _ p), linksOnly.refl s]
theorem prepare_linksOnly (p : PortId) (a : Answer) (at_ : Nat) : linksOnly s (prepare p a at_ s) := withLinks_linksOnly s _

theorem receiveFails_linksOnly (p : PortId) (es : List ReceiveErrorKind) : linksOnly s (receiveFails p es s) :=
  (abandon_linksOnly s p).trans (withLinks_linksOnly _ _)

theorem addressTaken_linksOnly (p : PortId) (own : Bool) : linksOnly s (addressTaken p own s) :=
  (abandon_linksOnly s p).trans (withLinks_linksOnly _ _)

theorem frameStarted_linksOnly (p : PortId) (b : Byte) : linksOnly s (frameStarted p b s) :=
  (abandon_linksOnly s p).trans (withLinks_linksOnly _ _)

end

end Sys2Proof.Machine
end

