-- ==== Sys2Proof/Laws/Events.lean ====
section
/-! SUPPORT. Deliveries, events and their part of the change counter. -/

namespace Sys2Proof.Machine

/-! ## Deliveries -/

theorem onDelivery_takes {e : Instr} {s : State} (h : s.takes e = true) (f : State → State) :
    onDelivery e f s = f (s.taken e) := by simp [onDelivery, h]

theorem onDelivery_other {e : Instr} {s : State} (h : s.takes e = false) (f : State → State) :
    onDelivery e f s = s := by simp [onDelivery, h]

/-- Whatever the events of a block keep, taking a delivery keeps. -/
theorem onDelivery_keeps (R : State → State → Prop) {e : Instr} {f : State → State} {s : State} (h0 : R s s)
    (h1 : R s (f (s.taken e))) : R s (onDelivery e f s) := by
  unfold onDelivery; split <;> assumption

/-! ## The change counter -/

/-- The readable records do not see the queue, the deliveries, the time base, the configuration or the change counter. -/
theorem readable_bookkeeping (s : State) (q ds : List Instr) (n : Nat) (k : BitVec 16) :
    readable { s with pending := q, deliveries := ds, now := n, rge := { s.rge with changeCounter := k } } = readable s := rfl

@[simp] theorem readable_taken (s : State) (e : Instr) : readable (s.taken e) = readable s := rfl

@[simp] theorem readable_deliver (s : State) (es : List Instr) : readable (s.deliver es) = readable s := rfl

theorem changed_taken_left (s t : State) (e : Instr) : changed (s.taken e) t = changed s t := rfl

theorem changed_countChange (a : Agent) (s t u : State) : changed u (countChange a s t) = changed u t := rfl

theorem changed_deliver_right (s t : State) (es : List Instr) : changed s (t.deliver es) = changed s t := rfl

theorem changed_self (s : State) : changed s s = false := by simp [changed]

/-- What an event of a block other than RGE leaves: the change, and one increase on its way to RGE when it changed a
readable record (R46). -/
theorem event_other {a : Agent} (h : a ≠ .rge) (f : State → State) (s : State) :
    event a f s = (f s).deliver (if changed s (f s) then [.changeCounterIncrease a] else []) := by
  have h1 : (a == Agent.rge) = false := by simpa using h
  have h2 : (a != Agent.rge) = true := by simpa using h
  simp only [event, countChange, h1, h2, State.deliver, Bool.false_and, Bool.true_and, Bool.false_eq_true, ↓reduceIte]
  rw [show (f s).rge.changeCounter + 0 = (f s).rge.changeCounter from BitVec.add_zero _]

/-- What an event of RGE leaves: the change, with the counter increased in place when a readable record changed (R46). -/
theorem event_rge (f : State → State) (s : State) :
    event .rge f s = (f s).withRge { (f s).rge with
      changeCounter := (f s).rge.changeCounter + (if changed s (f s) then 1 else 0) } := by
  simp [event, countChange, State.withRge]

section
variable {a : Agent} {f : State → State} {s : State}
@[simp] theorem event_pending : (event a f s).pending = (f s).pending := rfl
@[simp] theorem event_now : (event a f s).now = (f s).now := rfl
@[simp] theorem event_configFault : (event a f s).configFault = (f s).configFault := rfl
@[simp] theorem event_cfg : (event a f s).cfg = (f s).cfg := rfl
@[simp] theorem event_lsc : (event a f s).lsc = (f s).lsc := rfl
@[simp] theorem event_lfc : (event a f s).lfc = (f s).lfc := rfl
@[simp] theorem event_dsq : (event a f s).dsq = (f s).dsq := rfl
@[simp] theorem event_cue : (event a f s).cue = (f s).cue := rfl
@[simp] theorem event_chr : (event a f s).chr = (f s).chr := rfl
@[simp] theorem event_tnq : (event a f s).tnq = (f s).tnq := rfl
@[simp] theorem event_trl : (event a f s).trl = (f s).trl := rfl
@[simp] theorem event_cfs : (event a f s).cfs = (f s).cfs := rfl
@[simp] theorem event_links : (event a f s).links = (f s).links := rfl
@[simp] theorem event_startOutputs : (event a f s).startOutputs = (f s).startOutputs := rfl
end

/-! ## What every event of the Regime Engine leaves -/

/-- Recounting floors whose counts agree with the Zone Table changes nothing (R21). -/
theorem recountFloors_same {s : State}
    (h : ∀ f : FloorId, s.rge.floors[f].alarmed = (s.zonesIn .alarm f.val).length
      ∧ s.rge.floors[f].prealarmed = (s.zonesIn .prealarm f.val).length) : recountFloors s = s := by
  have : (tab fun f : FloorId =>
      { s.rge.floors[f] with
        alarmed := (s.zonesIn .alarm f.val).length
        prealarmed := (s.zonesIn .prealarm f.val).length }) = s.rge.floors := by
    apply table_ext
    intro f
    rw [tab_fin, ← (h f).1, ← (h f).2]
  unfold recountFloors
  rw [this]
  rfl

/-- A settled regime stays as it is (R24). -/
theorem settleRegime_same {s : State}
    (h : s.rge.regime = .alarm ∨ s.rge.regime = if s.anyPrealarm then .prealarm else .normal) : settleRegime s = s := by
  have : (if s.inAlarm then RegimeState.alarm else if s.anyPrealarm then .prealarm else .normal) = s.rge.regime := by
    by_cases ha : s.rge.regime = .alarm
    · simp [State.inAlarm, ha]
    · have h2 := h.resolve_left ha
      have h3 : s.inAlarm = false := by simp [State.inAlarm, ha]
      rw [h3, h2]
      rfl
  unfold settleRegime
  rw [this]
  rfl

end Sys2Proof.Machine
end

