-- ==== Sys2Proof/Laws/Channels.lean ====
section
/-! SUPPORT. What the operations of the Channel Router can do (chapter 7): releases and grants, the choice of channel and victim,
arbitration passes, the read port, and the end of an event. -/

namespace Sys2Proof.Machine

variable {s t : State} {c : ChannelId}

/-! ## Areas and releases (R121, R127) -/

/-- An area that is emptied drops its read in progress (R127, R129). -/
theorem putSlots_nil : putSlots c [] s = { s with chr := { s.chr with
    channels := s.chr.channels.set c.val { s.chr.channels[c] with slots := [] } c.isLt
    reading := readDropped c s.chr.reading } } := by
  unfold putSlots readDropped
  simp [State.mapChannel, State.setChannel, State.withChr]

/-- A release of a channel (R121). -/
theorem releaseChannel_released : channelReleased c s (releaseChannel c s) := by
  unfold channelReleased releaseChannel
  rw [putSlots_nil]
  simp [State.mapChannel, State.setChannel, State.withChr, State.setChain, State.withCue, State.after]

/-! ## Live blocks (R134) -/

/-- The ring of a live area holds its newest blocks. -/
theorem mem_ringBlocks {done size n : Nat} : n ∈ ringBlocks done size ↔ 0 < n ∧ n ≤ done ∧ done < n + size := by
  unfold ringBlocks
  simp only [List.mem_map, List.mem_range]
  constructor
  · rintro ⟨i, hi, rfl⟩
    omega
  · rintro ⟨h1, h2, h3⟩
    exact ⟨done - n, by omega, by omega⟩

/-- The ring is listed from its newest block down. -/
theorem ringBlocks_falls (done size : Nat) : (ringBlocks done size).Pairwise (· > ·) := by
  unfold ringBlocks
  rw [List.pairwise_map]
  refine List.Pairwise.imp_of_mem ?_ List.pairwise_lt_range
  intro a b ha hb h
  simp only [List.mem_range] at ha hb
  omega

/-- The first hit in a falling list is the greatest. -/
theorem find_greatest {l : List Nat} {P : Nat → Bool} (hl : l.Pairwise (· > ·)) {n : Nat} (hn : n ∈ l) (hp : P n = true)
    (hm : ∀ m ∈ l, n < m → P m = false) : l.find? P = some n := by
  induction l with
  | nil => cases hn
  | cons a l ih =>
    rw [List.pairwise_cons] at hl
    rcases List.mem_cons.1 hn with rfl | h
    · simp [hp]
    · have := hl.1 n h
      rw [List.find?_cons, hm a (by simp) this]
      exact ih hl.2 h fun m h1 h2 => hm m (by simp [h1]) h2

/-- What a live programme plays is the newest block in the ring that it has not played (R134). -/
theorem livePlay_plays (src : LiveSourceId) (played : List Nat) (q : ChannelRec)
    (ha : q.audio = (livePlay src (s.ring src) played).1) (hp : q.livePlayed = (livePlay src (s.ring src) played).2) :
    livePlays s src played q := by
  have hr : ∀ n, n ∈ s.ring src ↔ 0 < n ∧ n ≤ (s.source src).blocks
      ∧ (s.source src).blocks < n + s.areaSize (.live src) := fun n => mem_ringBlocks
  refine ⟨?_, ?_⟩
  · intro n hn hnp hnew
    have hf : (s.ring src).find? (fun n => !played.contains n) = some n := by
      refine find_greatest (ringBlocks_falls _ _) ((hr n).2 hn) (by simpa using hnp) ?_
      intro m hm hlt
      simpa using hnew m ((hr m).1 hm) hlt
    rw [ha, hp, livePlay, hf]
    refine ⟨rfl, fun m => ?_⟩
    simp only [List.mem_cons, List.mem_filter, List.contains_iff_mem, hr]
  · intro hall
    have hf : (s.ring src).find? (fun n => !played.contains n) = none := by
      rw [List.find?_eq_none]
      intro m hm
      simpa using hall m ((hr m).1 hm)
    rw [ha, hp, livePlay, hf]
    refine ⟨rfl, fun m => ?_⟩
    simp only [List.mem_filter, List.contains_iff_mem, hr]

/-- Only a programme that has not begun on a PLAYING channel can begin (R120). -/
theorem tryBegin_other (h : ¬ (s.chr.channels[c].state = .playing ∧ s.chr.channels[c].begun = false)) : tryBegin c s = s := by
  unfold tryBegin
  dsimp only
  split
  · rfl
  · rw [if_neg]
    simpa using h

/-- A fire or tenant programme with an empty area does not begin (R120). -/
theorem tryBegin_empty (h : s.chr.channels[c].slots = [])
    (hg : ∀ g, s.chr.channels[c].grant = some g → startCue g.prog.demand ≠ none) :
    tryBegin c s = s := by
  unfold tryBegin
  dsimp only
  split
  · rfl
  · rename_i g hg'
    have := hg g hg'
    split
    · split
      · contradiction
      · rw [if_neg]
        rw [h]; simp
    · rfl

/-- The record of a channel right after a grant, before a live programme begins. -/
def grantedRecord (p : Programme) (s : State) (r : ChannelRec) : ChannelRec :=
  { state := if r.state = .standby ∨ r.state = .waking then .waking else .playing
    grant := some ⟨p, s.now⟩, begun := false
    warmUp := if r.state = .standby then some (s.now + s.cfg.tWarmUp) else r.warmUp
    idle := none, zoneSet := [], joins := [], underrun := r.underrun, slots := [], headInPlay := false, boundary := none
    livePlayed := [], audio := .silence }

/-- Emptying an area after a change of its channel's record. -/
theorem putSlots_nil_mapChannel (f : ChannelRec → ChannelRec) : putSlots c [] (s.mapChannel c f) = { s with chr := { s.chr with
    channels := s.chr.channels.set c.val { f s.chr.channels[c] with slots := [] } c.isLt
    reading := readDropped c s.chr.reading } } := by
  rw [putSlots_nil]
  simp [State.mapChannel, State.setChannel, State.withChr]

/-- A grant in one update, before a live programme begins. -/
theorem grantChannel_eq (p : Programme) : grantChannel c p s = tryBegin c { s with chr := { s.chr with
    channels := s.chr.channels.set c.val (grantedRecord p s s.chr.channels[c]) c.isLt
    reading := readDropped c s.chr.reading
    waiting := s.chr.waiting.filter fun w => decide (w.demand ≠ p.demand) } } := by
  have hb : (s.chr.waiting.filter fun w => w.demand != p.demand) = s.chr.waiting.filter fun w => decide (w.demand ≠ p.demand) := by
    congr 1; funext w; by_cases h : w.demand = p.demand <;> simp [h]
  unfold grantChannel
  dsimp only
  rw [putSlots_nil_mapChannel]
  congr 1
  simp only [dropWaiting, State.withChr, hb]
  congr 3
  unfold grantedRecord State.after
  cases hs : s.chr.channels[c].state <;> simp

/-- A grant (R119, R120, R122). -/
theorem grantChannel_granted (p : Programme) : channelGranted c p s (grantChannel c p s) := by
  rw [grantChannel_eq]
  generalize hw : (s.chr.waiting.filter fun w => decide (w.demand ≠ p.demand)) = w
  by_cases hl : (∃ src, p.demand = .live src) ∧ (grantedRecord p s s.chr.channels[c]).state = .playing
  · obtain ⟨⟨src, hd⟩, hp⟩ := hl
    have hq : ∀ u : State, u.chr.channels[c] = grantedRecord p s s.chr.channels[c] →
        tryBegin c u = beginProgramme c p.demand u := by
      intro u hu
      unfold tryBegin
      dsimp only
      rw [hu]
      simp [grantedRecord] at hp ⊢
      simp [hp, hd, startCue]
    rw [hq _ (by simp), hd]
    unfold beginProgramme
    dsimp only
    refine ⟨?_, ?_, ?_, ?_, ?_, ?_, ?_, ?_, ?_, ?_, ?_, ?_, ?_⟩
    · simp [State.mapChannel, State.setChannel, State.withChr]
    · rw [hw]
      simp [State.mapChannel, State.setChannel, State.withChr]
    · intro k hk
      simp [State.mapChannel, State.setChannel, State.withChr]
      rw [Vector.getElem_set_ne]
      simpa [Fin.ext_iff, eq_comm] using hk
    all_goals try simp [State.mapChannel, State.setChannel, State.withChr, grantedRecord]; done
    · intro _ _
      simp [State.mapChannel, State.setChannel, State.withChr, begunAs, State.after]
      rw [hd]
      exact ⟨rfl, rfl⟩
    · intro src' h' _
      rw [hd] at h'
      cases h'
      refine livePlay_plays _ _ _ ?_ ?_ <;> simp [State.mapChannel, State.setChannel, State.withChr] <;> rfl
    · rintro (h | h)
      · exact absurd hd (h src)
      · simp only [State.mapChannel, State.setChannel, State.withChr, set_fin_same] at h
        rw [hp] at h
        cases h
  · rw [show ∀ u : State, u.chr.channels[c] = grantedRecord p s s.chr.channels[c] → tryBegin c u = u from ?_]
    · refine ⟨rfl, by rw [hw], ?_, ?_, ?_, ?_, ?_, ?_, ?_, ?_, ?_, ?_, ?_⟩
      · intro k hk
        exact set_fin_other _ _ hk
      all_goals try simp [grantedRecord]; done
      · intro h1 h2
        exact absurd ⟨h1, by simpa using h2⟩ hl
      · intro src h1 h2
        exact absurd ⟨⟨src, h1⟩, by simpa using h2⟩ hl
    · simp
    · intro u hu
      by_cases hp : (grantedRecord p s s.chr.channels[c]).state = .playing
      · refine tryBegin_empty (by rw [hu]; rfl) ?_
        intro g hg
        rw [hu] at hg
        simp [grantedRecord] at hg
        subst hg
        cases hd : p.demand <;> simp [startCue]
        exact hl ⟨⟨_, hd⟩, hp⟩
      · refine tryBegin_other ?_
        rw [hu]
        exact fun h => hp h.1

/-! ## The arbiter -/

/-- The first hit over the numbers of a table is the lowest-numbered. -/
theorem find_fin {n : Nat} {P : Fin n → Bool} {i : Fin n} (h : (List.finRange n).find? P = some i) :
    P i = true ∧ ∀ j, j < i → P j = false := by
  obtain ⟨hp, as, bs, he, ha⟩ := List.find?_eq_some_iff_append.1 h
  refine ⟨hp, fun j hj => ?_⟩
  have hm : j ∈ as ++ i :: bs := he ▸ List.mem_finRange j
  have hs : (as ++ i :: bs).Pairwise (· < ·) := he ▸ List.pairwise_lt_finRange n
  rw [List.pairwise_append, List.pairwise_cons] at hs
  rcases List.mem_append.1 hm with h1 | h1
  · simpa using ha j h1
  · rcases List.mem_cons.1 h1 with rfl | h2
    · exact absurd hj (lt_irrefl _)
    · exact absurd (hs.2.1.1 j h2) (not_lt.2 hj.le)

/-- No hit over the numbers of a table. -/
theorem find_fin_none {n : Nat} {P : Fin n → Bool} (h : (List.finRange n).find? P = none) (j : Fin n) : P j = false := by
  simpa using List.find?_eq_none.1 h j (List.mem_finRange j)

/-- The channel that a grant chooses (R122). -/
theorem freeChoice_chosen (h : s.freeChoice = some c) : chosenFree s c := by
  unfold State.freeChoice at h
  unfold chosenFree
  rw [Option.or_eq_some_iff] at h
  dsimp only
  rcases h with h | ⟨h0, h⟩
  · obtain ⟨h1, h2⟩ := find_fin h
    simp only [beq_iff_eq] at h1
    refine ⟨by simp [-Fin.getElem_fin, ChannelRec.free, h1], fun k hk => ?_⟩
    rw [h1]
    by_cases hr : s.chr.channels[k].state = .ready
    · right
      rw [hr]
      exact ⟨rfl, not_lt.1 fun hlt => by have := h2 k hlt; rw [hr] at this; simp at this⟩
    · left
      cases hs : s.chr.channels[k].state <;> simp_all [-Fin.getElem_fin, ChannelRec.free]
  · have hready : ∀ k : ChannelId, s.chr.channels[k].state ≠ .ready := fun k => by simpa using find_fin_none h0 k
    rw [Option.or_eq_some_iff] at h
    rcases h with h | ⟨h3, h⟩
    · obtain ⟨h1, h2⟩ := find_fin h
      simp only [Bool.and_eq_true, beq_iff_eq] at h1
      refine ⟨by simp [-Fin.getElem_fin, ChannelRec.free, h1], fun k hk => ?_⟩
      rw [h1.1]
      have hk2 := hready k
      cases hs : s.chr.channels[k].state
      · left; simp
      · right
        refine ⟨rfl, not_lt.1 fun hlt => ?_⟩
        have := h2 k hlt
        simp [-Fin.getElem_fin, ChannelRec.free, hs] at hk
        simp [-Fin.getElem_fin, hs, hk] at this
      · exact absurd hs hk2
      · simp [-Fin.getElem_fin, ChannelRec.free, hs] at hk
    · have hwake : ∀ k : ChannelId, (s.chr.channels[k].state == .waking && s.chr.channels[k].grant.isNone) = false :=
        fun k => find_fin_none h3 k
      obtain ⟨h1, h2⟩ := find_fin h
      simp only [beq_iff_eq] at h1
      refine ⟨by simp [-Fin.getElem_fin, ChannelRec.free, h1], fun k hk => ?_⟩
      rw [h1]
      have hk2 := hready k
      have hk3 := hwake k
      simp only [ChannelRec.free, hk3, Bool.or_false, Bool.or_eq_true, beq_iff_eq, hk2, or_false] at hk
      right
      rw [hk]
      refine ⟨rfl, not_lt.1 fun hlt => ?_⟩
      have := h2 k hlt
      simp [-Fin.getElem_fin, hk] at this

/-- No channel is chosen only when none is free (R122). -/
theorem freeChoice_none (h : s.freeChoice = none) (k : ChannelId) : s.chr.channels[k].free = false := by
  simp only [State.freeChoice, Option.or_eq_none_iff] at h
  obtain ⟨h1, h2, h3⟩ := h
  have h1 := find_fin_none h1 k
  have h2 := find_fin_none h2 k
  have h3 := find_fin_none h3 k
  simp only [ChannelRec.free, h1, h2, h3, Bool.or_false]

/-- One programme outranks another as a victim (R123). -/
def worse (x y : ChannelId × Grant) : Prop :=
  demandPriority x.2.prog.demand < demandPriority y.2.prog.demand
    ∨ (demandPriority x.2.prog.demand = demandPriority y.2.prog.demand
        ∧ (x.2.granted < y.2.granted ∨ (x.2.granted = y.2.granted ∧ x.1 < y.1)))

/-- What the search for the victim holds after the channels `l`, in rising order. -/
theorem victim_fold (l : List ChannelId) (b : Option (ChannelId × Grant)) (hl : l.Pairwise (· < ·))
    (hb : ∀ x, b = some x → ∀ k ∈ l, x.1 < k) :
    ∀ r, r = l.foldl (fun best c =>
      match s.chr.channels[c].grant with
      | none => best
      | some g =>
        match best with
        | none => some (c, g)
        | some (d, h) =>
          if demandPriority h.prog.demand < demandPriority g.prog.demand
              || (demandPriority h.prog.demand == demandPriority g.prog.demand && h.granted ≤ g.granted) then some (c, g)
          else some (d, h)) b →
      (r = none → b = none ∧ ∀ k ∈ l, s.chr.channels[k].grant = none)
      ∧ (∀ x, r = some x → (b = some x ∨ (x.1 ∈ l ∧ s.chr.channels[x.1].grant = some x.2))
          ∧ (∀ y, b = some y → y = x ∨ worse y x)
          ∧ ∀ k ∈ l, ∀ h, s.chr.channels[k].grant = some h → k = x.1 ∨ worse (k, h) x) := by
  induction l generalizing b with
  | nil =>
    rintro r rfl
    refine ⟨fun h => ⟨h, by simp⟩, fun x h => ⟨.inl h, fun y hy => .inl ?_, by simp⟩⟩
    rw [h] at hy
    cases hy
    rfl
  | cons a l ih =>
    intro r hr
    rw [List.pairwise_cons] at hl
    rw [List.foldl_cons] at hr
    generalize hb2 : (match s.chr.channels[a].grant with
      | none => b
      | some g => _) = b2 at hr
    have hlt : ∀ x, b2 = some x → ∀ k ∈ l, x.1 < k := by
      intro x hx k hk
      cases hg : s.chr.channels[a].grant with
      | none =>
        simp only [hg] at hb2
        subst hb2
        exact hb x hx k (List.mem_cons_of_mem _ hk)
      | some g =>
        simp only [hg] at hb2
        cases b with
        | none =>
          simp only at hb2
          subst hb2
          cases hx
          exact hl.1 k hk
        | some d =>
          simp only at hb2
          subst hb2
          split at hx
          · cases hx
            exact hl.1 k hk
          · cases hx
            exact hb _ rfl k (List.mem_cons_of_mem _ hk)
    obtain ⟨i1, i2⟩ := ih b2 hl.2 hlt r hr
    cases hg : s.chr.channels[a].grant with
    | none =>
      simp only [hg] at hb2
      subst hb2
      refine ⟨fun h => ⟨(i1 h).1, ?_⟩, fun x hx => ?_⟩
      · intro k hk
        rcases List.mem_cons.1 hk with rfl | hk
        · exact hg
        · exact (i1 h).2 k hk
      · obtain ⟨j1, j2, j3⟩ := i2 x hx
        refine ⟨?_, j2, ?_⟩
        · rcases j1 with j1 | j1
          · exact .inl j1
          · exact .inr ⟨List.mem_cons_of_mem _ j1.1, j1.2⟩
        · intro k hk h hh
          rcases List.mem_cons.1 hk with rfl | hk
          · rw [hg] at hh; cases hh
          · exact j3 k hk h hh
    | some g =>
      simp only [hg] at hb2
      have hne : b2 ≠ none := by
        subst hb2
        cases b with
        | none => simp
        | some d => simp only; split <;> simp
      refine ⟨fun h => absurd (i1 h).1 hne, fun x hx => ?_⟩
      obtain ⟨j1, j2, j3⟩ := i2 x hx
      have hwt : ∀ y z w : ChannelId × Grant, worse y z → worse z w → worse y w := by
        intro y z w h1 h2
        unfold worse at *
        simp only [Fin.lt_def] at *
        omega
      have hmain : (b2 = some (a, g) ∧ ∀ y, b = some y → worse y (a, g))
          ∨ ∃ d, b = some d ∧ b2 = some d ∧ worse (a, g) d := by
        cases b with
        | none =>
          simp only at hb2
          exact .inl ⟨hb2.symm, by simp⟩
        | some d =>
          have had : d.1 < a := hb d rfl a (by simp)
          simp only [Bool.or_eq_true, decide_eq_true_eq, Bool.and_eq_true, beq_iff_eq] at hb2
          split at hb2
          · rename_i hc
            refine .inl ⟨hb2.symm, ?_⟩
            intro y hy
            cases hy
            unfold worse
            simp only [Fin.lt_def] at *
            omega
          · rename_i hc
            refine .inr ⟨d, rfl, hb2.symm, ?_⟩
            unfold worse
            simp only [Fin.lt_def] at *
            omega
      rcases hmain with ⟨e, hm⟩ | ⟨d, e1, e2, hm⟩
      · have hax := j2 _ e
        refine ⟨.inr ?_, ?_, ?_⟩
        · rcases j1 with j1 | j1
          · rw [e] at j1
            cases j1
            exact ⟨by simp, hg⟩
          · exact ⟨List.mem_cons_of_mem _ j1.1, j1.2⟩
        · intro y hy
          right
          rcases hax with rfl | hax
          · exact hm y hy
          · exact hwt _ _ _ (hm y hy) hax
        · intro k hk h hh
          rcases List.mem_cons.1 hk with rfl | hk
          · rw [hg] at hh
            cases hh
            rcases hax with rfl | hax
            · exact .inl rfl
            · exact .inr hax
          · exact j3 k hk h hh
      · have hdx := j2 _ e2
        refine ⟨?_, ?_, ?_⟩
        · rcases j1 with j1 | j1
          · rw [e2] at j1
            rw [e1]
            exact .inl j1
          · exact .inr ⟨List.mem_cons_of_mem _ j1.1, j1.2⟩
        · intro y hy
          rw [e1] at hy
          cases hy
          exact hdx
        · intro k hk h hh
          rcases List.mem_cons.1 hk with rfl | hk
          · rw [hg] at hh
            cases hh
            right
            rcases hdx with rfl | hdx
            · exact hm
            · exact hwt _ _ _ hm hdx
          · exact j3 k hk h hh

/-- The victim of a pre-emption (R123). -/
theorem victim_isVictim {g : Grant} (h : s.victim = some (c, g)) : isVictim s c g := by
  obtain ⟨-, h2⟩ := victim_fold (s := s) (List.finRange 4) none (List.pairwise_lt_finRange 4) (by simp) _ rfl
  obtain ⟨h3, -, h5⟩ := h2 _ h
  refine ⟨by simpa using h3, fun k h hk hg => ?_⟩
  exact (h5 k (List.mem_finRange k) h hg).resolve_left hk

/-- Without a victim no channel has a programme (R123). -/
theorem victim_none (h : s.victim = none) (k : ChannelId) : s.chr.channels[k].grant = none :=
  ((victim_fold (s := s) (List.finRange 4) none (List.pairwise_lt_finRange 4) (by simp) _ rfl).1 h).2 k (List.mem_finRange k)


/-! ## The order of the waiting programmes (R122) -/

theorem demandSet_sorted (d : Demand) : (s.demandSet d).Pairwise (· < ·) :=
  List.Pairwise.filter _ (List.pairwise_lt_finRange 36)

/-- The comparison of lowest zones, as R122 states it. -/
theorem lowestZone_lt (d e : Demand) :
    s.lowestZone d < s.lowestZone e ↔ ∃ z ∈ s.demandSet d, ∀ y ∈ s.demandSet e, z < y := by
  have hd := demandSet_sorted (s := s) d
  have he := demandSet_sorted (s := s) e
  unfold State.lowestZone
  generalize s.demandSet d = a at *
  generalize s.demandSet e = b at *
  cases a with
  | nil => cases b <;> simp; try omega
  | cons x a =>
    rw [List.pairwise_cons] at hd
    cases b with
    | nil => simp
    | cons y b =>
      rw [List.pairwise_cons] at he
      simp only [List.head?_cons, Option.elim_some, List.mem_cons, forall_eq_or_imp, exists_eq_or_imp]
      constructor
      · intro h
        exact .inl ⟨h, fun w hw => lt_trans (Fin.lt_def.2 h) (he.1 w hw)⟩
      · rintro (⟨h, -⟩ | ⟨z, hz, h, -⟩)
        · exact h
        · exact Fin.lt_def.1 (lt_trans (hd.1 z hz) h)

/-- The order of R122 as a lexicographic one. -/
theorem goesBefore_lex (p q : Programme) : s.goesBefore p q = true ↔
    demandPriority p.demand < demandPriority q.demand ∨ (demandPriority p.demand = demandPriority q.demand
      ∧ (p.instant < q.instant ∨ (p.instant = q.instant ∧ s.lowestZone p.demand < s.lowestZone q.demand))) := by
  unfold State.goesBefore
  by_cases h1 : demandPriority p.demand = demandPriority q.demand
  · by_cases h2 : p.instant = q.instant
    · simp [h1, h2]
    · simp [h1, h2]
  · simp [h1]

/-- The order of the waiting programmes (R122). -/
theorem goesBefore_iff (p q : Programme) :
    s.goesBefore p q = true ↔ aheadOf s p.demand p.instant q.demand q.instant := by
  rw [goesBefore_lex, lowestZone_lt]
  rfl

/-- The first of some waiting programmes has none before it (R122). -/
theorem firstOf_head (l : List Programme) (p : Programme) :
    (l.foldl s.firstOf p ∈ p :: l) ∧ ∀ w ∈ p :: l, ¬ s.goesBefore w (l.foldl s.firstOf p) = true := by
  have key : ∀ a b c : Programme, ¬ s.goesBefore a b = true → ¬ s.goesBefore b c = true → ¬ s.goesBefore a c = true := by
    intro a b c
    simp only [goesBefore_lex]
    omega
  have irr : ∀ a : Programme, ¬ s.goesBefore a a = true := by
    intro a
    simp only [goesBefore_lex]
    omega
  have asym : ∀ a b : Programme, s.goesBefore a b = true → ¬ s.goesBefore b a = true := by
    intro a b
    simp only [goesBefore_lex]
    omega
  induction l generalizing p with
  | nil => simp [irr]
  | cons q l ih =>
    rw [List.foldl_cons]
    obtain ⟨h1, h2⟩ := ih (s.firstOf p q)
    have hf : s.firstOf p q = p ∨ s.firstOf p q = q := by unfold State.firstOf; split <;> simp
    have hp : ¬ s.goesBefore p (s.firstOf p q) = true ∧ ¬ s.goesBefore q (s.firstOf p q) = true := by
      unfold State.firstOf
      split
      · rename_i h
        exact ⟨asym _ _ h, irr q⟩
      · rename_i h
        exact ⟨irr p, h⟩
    refine ⟨?_, ?_⟩
    · rcases List.mem_cons.1 h1 with h | h
      · rw [h]
        rcases hf with hf | hf <;> simp [hf]
      · exact List.mem_cons_of_mem _ (List.mem_cons_of_mem _ h)
    · intro w hw
      have h3 := h2 _ List.mem_cons_self
      rcases List.mem_cons.1 hw with rfl | hw
      · exact key _ _ _ hp.1 h3
      · rcases List.mem_cons.1 hw with rfl | hw
        · exact key _ _ _ hp.2 h3
        · exact h2 w (List.mem_cons_of_mem _ hw)

/-- The head of the waiting programmes is one that none comes before (R122). -/
theorem headWaiting_head {p : Programme} (h : s.headWaiting = some p) :
    p ∈ s.chr.waiting ∧ ∀ w ∈ s.chr.waiting, ¬ aheadOf s w.demand w.instant p.demand p.instant := by
  unfold State.headWaiting at h
  split at h
  · cases h
  · rename_i q l hw
    cases h
    rw [hw]
    obtain ⟨h1, h2⟩ := firstOf_head (s := s) l q
    exact ⟨h1, fun w hw h => h2 w hw ((goesBefore_iff w _).2 h)⟩

/-- Nothing waits where there is no head. -/
theorem headWaiting_none (h : s.headWaiting = none) : s.chr.waiting = [] := by
  unfold State.headWaiting at h
  split at h
  · assumption
  · cases h

/-! ## A whole pass -/

/-- How far a channel is from what no pass can take any more: 5 while it is free, else the priority number it holds. -/
def room (s : State) (c : ChannelId) : Nat :=
  if s.chr.channels[c].free then 5 else (s.chr.channels[c].grant).elim 0 fun g => demandPriority g.prog.demand

/-- A priority number is at most 4 (R106). -/
theorem demandPriority_le (d : Demand) : demandPriority d ≤ 4 := by
  unfold demandPriority
  split <;> decide

/-- The room of all channels: it falls with every turn of a pass. -/
def roomOf (s : State) : Nat := room s 0 + room s 1 + room s 2 + room s 3

/-- Four channels have at most 20. -/
theorem roomOf_le : roomOf s ≤ 20 := by
  have : ∀ c, room s c ≤ 5 := by
    intro c
    unfold room
    split
    · exact le_rfl
    · cases s.chr.channels[c].grant with
      | none => simp
      | some g => exact le_trans (demandPriority_le _) (by decide)
  have h0 := this 0
  have h1 := this 1
  have h2 := this 2
  have h3 := this 3
  unfold roomOf
  omega

/-- A turn that changes one channel and leaves it less room leaves less in all. -/
theorem roomOf_lt {u t : State} (c : ChannelId) (ho : ∀ k, k ≠ c → t.chr.channels[k] = u.chr.channels[k])
    (hc : room t c < room u c) : roomOf t < roomOf u := by
  have h : ∀ k, k ≠ c → room t k = room u k := fun k hk => by unfold room; rw [ho k hk]
  unfold roomOf
  match c, hc, h with
  | 0, hc, h => have := h 1 (by decide); have := h 2 (by decide); have := h 3 (by decide); omega
  | 1, hc, h => have := h 0 (by decide); have := h 2 (by decide); have := h 3 (by decide); omega
  | 2, hc, h => have := h 0 (by decide); have := h 1 (by decide); have := h 3 (by decide); omega
  | 3, hc, h => have := h 0 (by decide); have := h 1 (by decide); have := h 2 (by decide); omega

/-- A granted channel has the priority number of its programme as its room. -/
theorem room_granted {p : Programme} (h : channelGranted c p s t) : room t c = demandPriority p.demand := by
  obtain ⟨-, -, -, h4, h5, -⟩ := h
  unfold room
  rw [if_neg]
  · rw [h5]; rfl
  · simp only [ChannelRec.free, h4, h5]
    split <;> simp

/-- What a pre-empted programme leaves (R123, R124). -/
theorem victimGoes_cases (p : Programme) :
    (∀ k q, p.demand = .tenant k q → victimGoes p s = s.deliver [.tenantPreEmption k])
    ∧ ((∀ k q, p.demand ≠ .tenant k q) →
        victimGoes p s = s.withChr { s.chr with waiting := s.chr.waiting ++ [p] })
    ∧ (victimGoes p s).chr.channels = s.chr.channels := by
  unfold victimGoes
  cases hd : p.demand <;> simp [State.deliver, State.withChr]

/-- A pass leaves nothing that it could still grant (R122, R123). -/
theorem arbitrate_arbitrated (n : Nat) (hn : roomOf s ≤ n) : arbitrated s (arbitrate n s) := by
  induction n generalizing s with
  | zero =>
    have h0 : ∀ c, room s c = 0 := by
      unfold roomOf at hn
      intro c
      match c with
      | 0 => omega
      | 1 => omega
      | 2 => omega
      | 3 => omega
    refine ⟨.refl, ?_, ?_⟩
    · intro p _ c
      have h := h0 c
      unfold room at h
      split at h
      · cases h
      · rename_i hf
        exact Bool.not_eq_true _ ▸ hf
    · intro p _ _ c g hg
      have h := h0 c
      unfold room at h
      split at h
      · cases h
      · rw [show s.chr.channels[c].grant = some g from hg] at h
        exact (show demandPriority g.prog.demand = 0 from h) ▸ Nat.zero_le _
  | succ n ih =>
    unfold arbitrate
    split
    · rename_i hw
      have hw := headWaiting_none hw
      exact ⟨.refl, by simp [hw], by simp [hw]⟩
    · rename_i p hp
      obtain ⟨hm, hh⟩ := headWaiting_head hp
      split
      · rename_i c hc
        have hch := freeChoice_chosen hc
        have hg := grantChannel_granted (s := s) (c := c) p
        have hlt : roomOf (grantChannel c p s) < roomOf s := by
          refine roomOf_lt c hg.2.2.1 ?_
          rw [room_granted hg, show room s c = 5 from if_pos hch.1]
          exact Nat.lt_succ_of_le (demandPriority_le _)
        obtain ⟨i1, i2⟩ := ih (s := grantChannel c p s) (by omega)
        exact ⟨.head ⟨p, hm, hh, .inl ⟨c, hch, hg⟩⟩ i1, i2⟩
      · rename_i hc
        have hnf := freeChoice_none hc
        split
        · rename_i hv
          refine ⟨.refl, fun _ _ => hnf, fun q _ _ c g hg => ?_⟩
          rw [victim_none hv c] at hg
          cases hg
        · rename_i c g hv
          have hvi := victim_isVictim hv
          split
          · rename_i hlt
            have hg := grantChannel_granted (s := victimGoes g.prog (s.setChain c none)) (c := c) p
            obtain ⟨v1, v2, v3⟩ := victimGoes_cases (s := s.setChain c none) g.prog
            have hdec : roomOf (preempt c g.prog p s) < roomOf s := by
              refine roomOf_lt c (fun k hk => ?_) ?_
              · rw [show (preempt c g.prog p s).chr.channels[k] = _ from hg.2.2.1 k hk]
                have := congrArg (fun v : Vector ChannelRec 4 => v[k]) v3
                exact this
              · rw [show room (preempt c g.prog p s) c = _ from room_granted hg]
                unfold room
                rw [if_neg (by rw [hnf c]; simp), hvi.1]
                exact hlt
            obtain ⟨i1, i2⟩ := ih (s := preempt c g.prog p s) (by omega)
            refine ⟨.head ⟨p, hm, hh, .inr ⟨hnf, c, g, hvi, hlt, _, ?_, ?_, hg⟩⟩ i1, i2⟩
            · intro k q hk
              rw [v1 k q hk]
              rfl
            · intro hk
              rw [v2 hk]
              rfl
          · rename_i hle
            refine ⟨.refl, fun _ _ => hnf, fun q hq hqh k h hk => ?_⟩
            have e : demandPriority p.demand ≤ demandPriority q.demand := by
              by_contra hlt
              exact hh q hq (.inl (by omega))
            have : demandPriority h.prog.demand ≤ demandPriority g.prog.demand := by
              by_cases hkc : k = c
              · subst hkc
                rw [hvi.1] at hk
                cases hk
                exact le_rfl
              · rcases hvi.2 k h hkc hk with hlt | ⟨he, -⟩
                · exact hlt.le
                · exact he.le
            omega

/-- An arbitration pass (R122 to R124). -/
theorem arbitrationPass_arbitrated : arbitrated s (arbitrationPass s) :=
  arbitrate_arbitrated 32 (le_trans roomOf_le (by decide))

/-! ## The read port (R129) -/

/-- The block that the read-ahead of a channel wants next (R128, R129). -/
theorem nextRead_iff {b : Nat} : s.nextRead c = some b ↔ s.chr.channels[c].slots.length < s.areaSize (.channel c)
    ∧ (s.readOrder c (s.areaSize (.channel c)))[s.chr.channels[c].slots.length]? = some b := by
  unfold State.nextRead
  dsimp only
  split <;> rename_i h <;> simp [-Fin.getElem_fin, h]

/-- The turn of a channel after the last one served. -/
theorem portOrder_turns (l : Fin 4) :
    ((List.range 4).map fun i => (Fin.ofNat 4 (l.val + 1 + i))).Pairwise
        (fun a b => (a.val + 3 - l.val) % 4 < (b.val + 3 - l.val) % 4)
      ∧ ∀ c : Fin 4, c ∈ (List.range 4).map fun i => (Fin.ofNat 4 (l.val + 1 + i)) := by
  revert l
  decide

/-- The first hit in a list that an order runs through. -/
theorem findSome_first {α β : Type} {l : List α} {f : α → Option β} {a : α} {b : β} {R : α → α → Prop} (hl : l.Pairwise R)
    (ha : a ∈ l) (hb : f a = some b) (h : ∀ x, R x a → f x ≠ none → x = a) : l.findSome? f = some b := by
  induction l with
  | nil => cases ha
  | cons y l ih =>
    rw [List.pairwise_cons] at hl
    by_cases hya : y = a
    · subst hya
      simp [hb]
    · have ha := (List.mem_cons.1 ha).resolve_left (Ne.symm hya)
      have hy : f y = none := by_contra fun hn => hya (h y (hl.1 a ha) hn)
      rw [List.findSome?_cons, hy]
      exact ih hl.2 ha

/-- The read port at the end of an event (R129). -/
theorem kickPort_begins : portBegins s (kickPort s) := by
  unfold portBegins
  dsimp only
  obtain ⟨ht, hm⟩ := portOrder_turns s.chr.lastServed
  refine ⟨?_, ?_⟩
  · rintro (h | h)
    · unfold kickPort
      cases hr : s.chr.reading with
      | none => exact absurd hr h
      | some r => simp [hr]
    · have hn : ∀ c, s.nextRead c = none := by
        intro c
        cases hc : s.nextRead c with
        | none => rfl
        | some b => exact absurd (nextRead_iff.1 hc) (h c b)
      have : (s.portOrder.findSome? fun c => (s.nextRead c).map fun b => (c, b)) = none := by
        rw [List.findSome?_eq_none_iff]
        intro c _
        rw [hn c]
        rfl
      unfold kickPort
      rw [this]
      cases hr : s.chr.reading <;> simp [hr]
  · intro hr c b hd hmin
    have hc := nextRead_iff.2 hd
    have : (s.portOrder.findSome? fun c => (s.nextRead c).map fun b => (c, b)) = some (c, b) := by
      refine findSome_first ht (hm c) (by simp [hc]) fun x hx hn => ?_
      cases hx2 : s.nextRead x with
      | none => simp [hx2] at hn
      | some a => exact absurd hx (not_lt.2 (hmin x a (nextRead_iff.1 hx2)))
    unfold kickPort
    rw [this, hr]
    exact ⟨rfl, rfl, rfl⟩

/-- The read port changes slots, the read in progress and the last channel served alone. -/
theorem kickPort_frame : kickPort s = { s with chr := { s.chr with
    channels := (kickPort s).chr.channels, reading := (kickPort s).chr.reading
    lastServed := (kickPort s).chr.lastServed } } := by
  unfold kickPort
  split
  · rfl
  · split <;> rfl

/-- The read port leaves zone sets and free channels. -/
theorem kickPort_zoneSets (c : ChannelId) : (kickPort s).chr.channels[c].zoneSet = s.chr.channels[c].zoneSet
    ∧ (kickPort s).chr.channels[c].free = s.chr.channels[c].free := by
  unfold kickPort
  split
  · exact ⟨rfl, rfl⟩
  · split
    · exact ⟨rfl, rfl⟩
    · rename_i k b _
      by_cases h : c = k
      · subst h
        simp [State.mapChannel, State.setChannel, State.withChr, ChannelRec.free]
      · have : (s.chr.channels.set k.val { s.chr.channels[k] with slots := s.chr.channels[k].slots ++ [⟨b, .filling⟩] } k.isLt)[c]
            = s.chr.channels[c] := set_fin_other _ _ h
        exact ⟨congrArg ChannelRec.zoneSet this, congrArg ChannelRec.free this⟩

/-- The monitored channel that the selection names (R135). -/
theorem monitorTarget_follows (h : t.chr.monitored = t.monitorTarget) : monitorFollows t := by
  unfold State.monitorTarget at h
  unfold monitorFollows
  refine ⟨?_, ?_, ?_, ?_⟩
  · intro e; rw [h, e]
  · intro c e; rw [h, e]
  · intro e e2; rw [h, e]; simp [e2]
  · intro f rest e e2
    rw [e] at h
    simp only [e2, List.head?_cons] at h
    refine ⟨fun c hc => ?_, fun hn c z hz hzf => ?_⟩
    · have := (find_fin (h.symm.trans hc)).1
      simpa using this
    · have := find_fin_none (h.symm.trans hn) c
      rw [List.any_eq_false] at this
      exact this z hz (by simpa using hzf)

/-- Equal lists of zone sets. -/
theorem zoneSets_eq_iff : s.zoneSets = t.zoneSets ↔ ∀ c : ChannelId, t.chr.channels[c].zoneSet = s.chr.channels[c].zoneSet := by
  unfold State.zoneSets
  constructor
  · intro h c
    have := congrArg (fun l : List (List SpeakerId) => l[c.val]?) h
    simpa using this.symm
  · intro h
    apply List.ext_getElem
    · simp
    · intro i h1 h2
      simp at h1
      simpa using (h ⟨i, h1⟩).symm

/-- The read port leaves the waiting programmes and the selection. -/
theorem kickPort_waiting : (kickPort s).chr.waiting = s.chr.waiting ∧ (kickPort s).chr.selection = s.chr.selection := by
  rw [kickPort_frame]
  exact ⟨rfl, rfl⟩

/-- When a free channel is told to the Tenant Queue (R124). -/
theorem freedChannel_iff : freedChannel s (kickPort t) = true ↔ t.chr.waiting = []
    ∧ ∃ c : ChannelId, t.chr.channels[c].free = true ∧ s.chr.channels[c].free = false := by
  unfold freedChannel
  simp only [Bool.and_eq_true, List.isEmpty_iff, List.any_eq_true, List.mem_finRange, true_and, Bool.not_eq_true',
    (kickPort_zoneSets _).2, kickPort_waiting.1]

/-- What an event of CHR leaves (R46, R124, R129, R135). -/
theorem chrEvent_ends {f : State → State} (hf : chrOnly s (f s)) : chrEnds s (f s) (chrEvent f s) := by
  unfold chrEvent
  rw [event_other (by decide)]
  have hx : ∀ x, changed s (chrChange f s) = x → increaseOf .chr s ((chrChange f s).deliver
      (if x then [.changeCounterIncrease .chr] else [])) = if x then [.changeCounterIncrease .chr] else [] := by
    intro x hx
    unfold increaseOf
    rw [changed_deliver_right, hx]
  have hrge : (f s).rge = s.rge := by rw [hf]
  have hk : (kickPort (f s)).rge = s.rge := by rw [kickPort_frame]; exact hrge
  have hd : (kickPort (f s)).deliveries = (f s).deliveries := by rw [kickPort_frame]
  have hmon : (chrChange f s).chr = { (kickPort (f s)).chr with monitored := (chrChange f s).chr.monitored } := rfl
  refine ⟨?_, ?_, ?_, ?_, ?_⟩
  · show (kickPort (f s)).cue = (f s).cue
    rw [kickPort_frame]
  · exact kickPort_begins (s := f s)
  · show (chrChange f s).chr = _
    rw [hmon, kickPort_frame]
    rfl
  · dsimp only
    have hmv : (s.zoneSets == (kickPort (f s)).zoneSets && s.chr.selection == (kickPort (f s)).chr.selection) = true
        ↔ ¬ ((f s).chr.selection ≠ s.chr.selection
          ∨ ∃ c : ChannelId, (f s).chr.channels[c].zoneSet ≠ s.chr.channels[c].zoneSet) := by
      simp only [Bool.and_eq_true, beq_iff_eq, zoneSets_eq_iff, (kickPort_zoneSets _).1, kickPort_waiting.2, not_or, not_not,
        not_exists]
      exact ⟨fun h => ⟨h.2.symm, h.1⟩, fun h => ⟨h.2, h.1.symm⟩⟩
    refine ⟨fun hm => ?_, fun hm => ?_⟩
    · apply monitorTarget_follows
      have h2 : (s.zoneSets == (kickPort (f s)).zoneSets && s.chr.selection == (kickPort (f s)).chr.selection) = false := by
        rw [← Bool.not_eq_true, hmv]
        exact not_not.2 hm
      show (if _ then _ else _) = _
      rw [h2]
      rfl
    · show (if _ then _ else _) = _
      rw [hmv.2 hm, kickPort_frame]
      rfl
  · dsimp only
    refine ⟨fun hfr => ⟨?_, ?_⟩, fun hfr => ⟨?_, ?_⟩⟩
    · rw [hx _ rfl]
      show (kickPort (f s)).deliveries ++ _ ++ _ = _
      rw [hd, freedChannel_iff.2 hfr]
      rfl
    · show (kickPort (f s)).rge.changeCounter = _
      rw [hk]
      simp
    · rw [hx _ rfl]
      show (kickPort (f s)).deliveries ++ _ ++ _ = _
      rw [hd, show freedChannel s (kickPort (f s)) = false from by rw [← Bool.not_eq_true, freedChannel_iff]; exact hfr]
      rfl
    · show (kickPort (f s)).rge.changeCounter = _
      rw [hk]
      simp
end Sys2Proof.Machine
end

