-- ==== Sys2Proof/Laws/Image.lean ====
section
/-! SUPPORT. Configuration images as memories: every operation keeps the one form, and a byte put is the byte read. -/

namespace Sys2Proof.Machine

/-! ## The form, said over propositions -/

theorem Image.wf_iff {m : Image} : m.wf = true ↔
    (m.map Prod.fst).Pairwise (· < ·) ∧ ∀ c ∈ m, c.1 < imageSize ∧ c.2 ≠ unlistedByte := by
  simp [Image.wf]

@[simp] theorem Image.wf_nil : Image.wf [] = true := by decide

theorem Image.wf_cons {b : Nat} {v : Byte} {m : Image} : Image.wf ((b, v) :: m) = true ↔
    (∀ c ∈ m, b < c.1) ∧ b < imageSize ∧ v ≠ unlistedByte ∧ Image.wf m = true := by
  simp only [Image.wf_iff, List.map_cons, List.pairwise_cons, List.mem_map, List.mem_cons, forall_eq_or_imp,
    forall_exists_index, and_imp]
  constructor
  · rintro ⟨⟨h1, h2⟩, ⟨h3, h4⟩, h5⟩
    exact ⟨fun c hc => h1 _ c hc rfl, h3, h4, h2, h5⟩
  · rintro ⟨h1, h3, h4, h2, h5⟩
    exact ⟨⟨fun _ c hc e => e ▸ h1 c hc, h2⟩, ⟨h3, h4⟩, h5⟩

/-! ## Putting a byte -/

/-- The offsets that `put` lists are its own and those listed before. -/
theorem Image.mem_put {m : Image} {a : Nat} {v : Byte} {c : Host.Cell} (h : c ∈ m.put a v) :
    (c = (a, v) ∧ v ≠ unlistedByte) ∨ c ∈ m := by
  induction m with
  | nil => simp only [Image.put] at h; split at h <;> simp_all
  | cons d m ih =>
    obtain ⟨b, w⟩ := d
    simp only [Image.put] at h
    split at h
    · split at h <;> simp_all
    · split at h
      · split at h <;> simp_all
        rcases h with h | h <;> simp [h]
      · rcases List.mem_cons.mp h with h | h
        · exact .inr (by simp [h])
        · exact (ih h).imp id (fun k => by simp [k])

/-- Putting a byte within the image keeps the form. -/
theorem Image.put_wf {m : Image} {a : Nat} {v : Byte} (h : m.wf = true) (ha : a < imageSize) :
    (m.put a v).wf = true := by
  induction m with
  | nil =>
    simp only [Image.put]
    split
    · rfl
    · exact Image.wf_cons.mpr ⟨by simp, ha, by simp_all, rfl⟩
  | cons d m ih =>
    obtain ⟨b, w⟩ := d
    have h' := Image.wf_cons.mp h
    simp only [Image.put]
    split
    · rename_i lt
      split
      · exact h
      · rename_i hv
        refine Image.wf_cons.mpr ⟨?_, ha, by simpa using hv, h⟩
        intro c hc
        rcases List.mem_cons.mp hc with rfl | hc
        · exact lt
        · exact Nat.lt_trans lt (h'.1 c hc)
    · split
      · rename_i e
        split
        · exact h'.2.2.2
        · rename_i hv
          refine Image.wf_cons.mpr ⟨?_, ha, by simpa using hv, h'.2.2.2⟩
          intro c hc
          rw [beq_iff_eq.mp e]
          exact h'.1 c hc
      · rename_i hlt hne
        refine Image.wf_cons.mpr ⟨?_, h'.2.1, h'.2.2.1, ih h'.2.2.2⟩
        intro c hc
        rcases Image.mem_put hc with ⟨rfl, -⟩ | hc
        · have : a ≠ b := by simpa using hne
          show b < a
          omega
        · exact h'.1 c hc

/-- A byte read below every listed offset is the byte an unlisted offset reads as. -/
theorem Image.byteAt_low {m : Image} {a : Nat} (h : ∀ c ∈ m, a < c.1) : m.byteAt a = unlistedByte := by
  induction m with
  | nil => rfl
  | cons d m ih =>
    obtain ⟨b, w⟩ := d
    have : a ≠ b := Nat.ne_of_lt (h (b, w) (by simp))
    simp [Image.byteAt, this, ih (fun c hc => h c (by simp [hc]))]

/-- Read after write, at the offset written and at every other. -/
theorem Image.byteAt_put {m : Image} {a : Nat} {v : Byte} (h : m.wf = true) (b : Nat) :
    (m.put a v).byteAt b = if b = a then v else m.byteAt b := by
  induction m with
  | nil =>
    simp only [Image.put]
    by_cases hv : v = unlistedByte <;> by_cases e : b = a <;> simp [hv, e, Image.byteAt]
  | cons d m ih =>
    obtain ⟨c, w⟩ := d
    have h' := Image.wf_cons.mp h
    have ih := ih h'.2.2.2
    simp only [Image.put]
    split
    · rename_i lt
      split
      · rename_i hv
        by_cases e : b = a
        · subst e
          rw [if_pos rfl, beq_iff_eq.mp hv]
          refine Image.byteAt_low fun k hk => ?_
          rcases List.mem_cons.mp hk with rfl | hk
          · exact lt
          · exact Nat.lt_trans lt (h'.1 k hk)
        · rw [if_neg e]
      · by_cases e : b = a <;> simp [Image.byteAt, e]
    · split
      · rename_i e
        have e : a = c := beq_iff_eq.mp e
        subst e
        split
        · rename_i hv
          by_cases e : b = a
          · subst e
            rw [if_pos rfl, beq_iff_eq.mp hv, Image.byteAt_low h'.1]
          · simp [Image.byteAt, e]
        · by_cases e : b = a <;> simp [Image.byteAt, e]
      · rename_i hlt hne
        by_cases e : b = c
        · subst e
          have : b ≠ a := fun k => hne (by simp [k])
          simp [Image.byteAt, this]
        · simp [Image.byteAt, e, ih]

/-! ## Putting several bytes, and the image check -/

/-- Putting bytes within the image keeps the form (R176, WRITE). -/
theorem Image.putAll_wf {bs : List Byte} {m : Image} {a : Nat} (h : m.wf = true) (ha : a + bs.length ≤ imageSize) :
    (m.putAll a bs).wf = true := by
  induction bs generalizing m a with
  | nil => exact h
  | cons b bs ih =>
    simp only [List.length_cons] at ha
    exact ih (Image.put_wf h (by omega)) (by omega)

/-- Setting the image check keeps the form (R174). -/
theorem Image.withCheck_wf {m : Image} (h : m.wf = true) : m.withCheck.wf = true :=
  Image.put_wf (Image.put_wf h (by decide)) (by decide)

/-! ## An image placed from outside -/

theorem Image.mem_cellsOf {bs : List Byte} {a : Nat} {c : Host.Cell} (h : c ∈ Image.cellsOf a bs) : a ≤ c.1 := by
  induction bs generalizing a with
  | nil => simp [Image.cellsOf] at h
  | cons b bs ih =>
    simp only [Image.cellsOf] at h
    split at h
    · exact Nat.le_of_succ_le (ih h)
    · rcases List.mem_cons.mp h with rfl | h
      · exact Nat.le_refl _
      · exact Nat.le_of_succ_le (ih h)

/-- The cells of a row of bytes have the form. -/
theorem Image.cellsOf_wf {bs : List Byte} {a : Nat} (h : a + bs.length ≤ imageSize) :
    (Image.cellsOf a bs).wf = true := by
  induction bs generalizing a with
  | nil => rfl
  | cons b bs ih =>
    simp only [List.length_cons] at h
    simp only [Image.cellsOf]
    split
    · exact ih (by omega)
    · rename_i hv
      exact Image.wf_cons.mpr ⟨fun c hc => Nat.lt_of_succ_le (Image.mem_cellsOf hc), by omega, by simpa using hv,
        ih (by omega)⟩

/-- The reset state's image has the form. -/
theorem reset_eeprom_wf : ∀ m, State.reset.cfs.eeprom = some m → m.wf = true := by
  intro m h
  cases h
  rfl

end Sys2Proof.Machine
end

