-- ==== Sys2Proof/Laws/PerInstr.lean ====
section
/-! SUPPORT. A family of facts about the commands as syntax, one lemma for each. -/

namespace Sys2Proof.Laws.NoSelfDelivery

open Sys2Proof.Machine

/-- A well-formed delivered event goes from one block to another: no block delivers an event to itself. -/
def Statement (i : Instr) : Prop := i.wf = true → ∀ a b, route i = some (a, b) → a ≠ b

/-- A command that is no delivered event. -/
theorem of_none {i : Instr} (h : route i = none) : Statement i := fun _ _ _ k => by rw [h] at k; cases k

/-- A delivered event between two blocks. -/
theorem of_some {i : Instr} {c d : Agent} (h : route i = some (c, d)) (n : c ≠ d) : Statement i := fun _ a b k => by
  rw [h] at k; cases k; exact n

/-- A trouble goes from its owner to the Trouble List. -/
theorem owner_ne_trl (k : TroubleKind) (n : Nat) : troubleOwner k n ≠ .trl := by cases k <;> simp [troubleOwner]

theorem scanStart : Statement .scanStart := of_none rfl
theorem loopConversion (l : LoopId) (n : Fin 1024) : Statement (.loopConversion l n) := of_none rfl
theorem zoneConditionArrival (z : ZoneId) (c : Condition) : Statement (.zoneConditionArrival z c) := of_some rfl (by simp)
theorem zoneReport (p : PortId) (body : List Byte) : Statement (.zoneReport p body) := of_none rfl
theorem verificationTimerExpiry (z : ZoneId) : Statement (.verificationTimerExpiry z) := of_none rfl
theorem expansionTimerExpiry : Statement .expansionTimerExpiry := of_none rfl
theorem acknowledge (p : PortId) (args : List Byte) : Statement (.acknowledge p args) := of_none rfl
theorem silence (p : PortId) (args : List Byte) : Statement (.silence p args) := of_none rfl
theorem resound (p : PortId) (args : List Byte) : Statement (.resound p args) := of_none rfl
theorem evacuateAll (p : PortId) (args : List Byte) : Statement (.evacuateAll p args) := of_none rfl
theorem cancelEvacuateAll (p : PortId) (args : List Byte) : Statement (.cancelEvacuateAll p args) := of_none rfl
theorem holdExpansion (p : PortId) (args : List Byte) : Statement (.holdExpansion p args) := of_none rfl
theorem releaseExpansion (p : PortId) (args : List Byte) : Statement (.releaseExpansion p args) := of_none rfl
theorem takeManualControl (p : PortId) (args : List Byte) : Statement (.takeManualControl p args) := of_none rfl
theorem setFloorPhase (p : PortId) (args : List Byte) : Statement (.setFloorPhase p args) := of_none rfl
theorem returnToAutomatic (p : PortId) (args : List Byte) : Statement (.returnToAutomatic p args) := of_none rfl
theorem regimeReset (p : PortId) (args : List Byte) : Statement (.regimeReset p args) := of_none rfl
theorem isolateZone (p : PortId) (args : List Byte) : Statement (.isolateZone p args) := of_none rfl
theorem restoreZone (p : PortId) (args : List Byte) : Statement (.restoreZone p args) := of_none rfl
theorem unknownCommandCode (p : PortId) (code : Byte) (args : List Byte) : Statement (.unknownCommandCode p code args) := of_none rfl
theorem rgePanelLoss (p : PortId) : Statement (.rgePanelLoss p) := of_some rfl (by simp)
theorem rgeCommandStationLoss (p : PortId) : Statement (.rgeCommandStationLoss p) := of_some rfl (by simp)
theorem changeCounterIncrease (source : Agent) : Statement (.changeCounterIncrease source) := fun h x y k => by
  cases k; exact by simpa [Instr.wf] using h
theorem reentryImpairedWrite (f : FloorId) (value : Bool) : Statement (.reentryImpairedWrite f value) := of_some rfl (by simp)
theorem verifyBypassedRemoval (z : ZoneId) : Statement (.verifyBypassedRemoval z) := of_some rfl (by simp)
theorem carReport (p : PortId) (body : List Byte) : Statement (.carReport p body) := of_none rfl
theorem lfcZoneAlarm (z : ZoneId) : Statement (.lfcZoneAlarm z) := of_some rfl (by simp)
theorem lfcAlarmEntry : Statement .lfcAlarmEntry := of_some rfl (by simp)
theorem lfcRegimeReset : Statement .lfcRegimeReset := of_some rfl (by simp)
theorem lfcPresenceChange (p : PortId) (presence : Presence) : Statement (.lfcPresenceChange p presence) := of_some rfl (by simp)
theorem shutdownTimerExpiry (b : BankId) : Statement (.shutdownTimerExpiry b) := of_none rfl
theorem lampHalfCycle (b : BankId) : Statement (.lampHalfCycle b) := of_none rfl
theorem recallBank (p : PortId) (args : List Byte) : Statement (.recallBank p args) := of_none rfl
theorem cancelRecall (p : PortId) (args : List Byte) : Statement (.cancelRecall p args) := of_none rfl
theorem authorisePhaseII (p : PortId) (args : List Byte) : Statement (.authorisePhaseII p args) := of_none rfl
theorem withdrawPhaseII (p : PortId) (args : List Byte) : Statement (.withdrawPhaseII p args) := of_none rfl
theorem dsqPhaseChange (floors : List (FloorId × Phase)) : Statement (.dsqPhaseChange floors) := of_some rfl (by simp)
theorem dsqListAppend (f : FloorId) : Statement (.dsqListAppend f) := of_some rfl (by simp)
theorem dsqRegimeReset : Statement .dsqRegimeReset := of_some rfl (by simp)
theorem releaseAllDoors (p : PortId) (args : List Byte) : Statement (.releaseAllDoors p args) := of_none rfl
theorem pacingTimerExpiry (g : GroupId) : Statement (.pacingTimerExpiry g) := of_none rfl
theorem zeroGapAttempt (g : GroupId) : Statement (.zeroGapAttempt g) := of_none rfl
theorem rampEnd (d : DoorId) : Statement (.rampEnd d) := of_none rfl
theorem doorVerifyTimerExpiry (d : DoorId) : Statement (.doorVerifyTimerExpiry d) := of_none rfl
theorem dsqFeedbackBand (l : LoopId) (b : Band) : Statement (.dsqFeedbackBand l b) := of_some rfl (by simp)
theorem takeoverRequestAsserted (g : GroupId) : Statement (.takeoverRequestAsserted g) := of_none rfl
theorem takeoverRequestReleased (g : GroupId) : Statement (.takeoverRequestReleased g) := of_none rfl
theorem takeoverDriveChange (g : GroupId) (level : Bool) : Statement (.takeoverDriveChange g level) := of_none rfl
theorem cuePhaseChange (floors : List (FloorId × Phase)) : Statement (.cuePhaseChange floors) := of_some rfl (by simp)
theorem cueAlarmEntry : Statement .cueAlarmEntry := of_some rfl (by simp)
theorem cueSilenceChange : Statement .cueSilenceChange := of_some rfl (by simp)
theorem cueRegimeReset : Statement .cueRegimeReset := of_some rfl (by simp)
theorem liveSlotWrite (z : SpeakerId) (w : LiveWrite) : Statement (.liveSlotWrite z w) := of_some rfl (by simp)
theorem tenantSlotWrite (z : SpeakerId) (w : TenantWrite) : Statement (.tenantSlotWrite z w) := of_some rfl (by simp)
theorem programmeHanded (d : Demand) (news : ProgrammeNews) (instant : Nat) : Statement (.programmeHanded d news instant) := of_some rfl (by simp)
theorem tenantProgrammeHanded (ticket : Nat) (cue : Nat) (instant : Nat) : Statement (.tenantProgrammeHanded ticket cue instant) := of_some rfl (by simp)
theorem chrAlarmEntry : Statement .chrAlarmEntry := of_some rfl (by simp)
theorem chrRegimeReset : Statement .chrRegimeReset := of_some rfl (by simp)
theorem chrListAppend (f : FloorId) : Statement (.chrListAppend f) := of_some rfl (by simp)
theorem chrPortLoss (p : PortId) : Statement (.chrPortLoss p) := of_some rfl (by simp)
theorem warmUpExpiry (c : ChannelId) : Statement (.warmUpExpiry c) := of_none rfl
theorem idleTimerExpiry (c : ChannelId) : Statement (.idleTimerExpiry c) := of_none rfl
theorem blockBoundary (c : ChannelId) : Statement (.blockBoundary c) := of_none rfl
theorem memoryReadComplete : Statement .memoryReadComplete := of_none rfl
theorem memoryReadFailed : Statement .memoryReadFailed := of_none rfl
theorem liveBlockComplete (source : LiveSourceId) : Statement (.liveBlockComplete source) := of_none rfl
theorem liveStart (p : PortId) (args : List Byte) : Statement (.liveStart p args) := of_none rfl
theorem liveStop (p : PortId) (args : List Byte) : Statement (.liveStop p args) := of_none rfl
theorem monitorSelect (p : PortId) (args : List Byte) : Statement (.monitorSelect p args) := of_none rfl
theorem underrunRemoval (c : ChannelId) : Statement (.underrunRemoval c) := of_some rfl (by simp)
theorem announceTenant (p : PortId) (args : List Byte) : Statement (.announceTenant p args) := of_none rfl
theorem announceCancel (p : PortId) (args : List Byte) : Statement (.announceCancel p args) := of_none rfl
theorem unknownAnnounceSubkind (p : PortId) (sub : Byte) (args : List Byte) : Statement (.unknownAnnounceSubkind p sub args) := of_none rfl
theorem agingTimerExpiry (ticket : Nat) : Statement (.agingTimerExpiry ticket) := of_none rfl
theorem tnqChannelFree : Statement .tnqChannelFree := of_some rfl (by simp)
theorem tenantRefusal (ticket : Nat) : Statement (.tenantRefusal ticket) := of_some rfl (by simp)
theorem tenantCompletion (ticket : Nat) : Statement (.tenantCompletion ticket) := of_some rfl (by simp)
theorem tenantPreEmption (ticket : Nat) : Statement (.tenantPreEmption ticket) := of_some rfl (by simp)
theorem tenantProgrammeEmptied (ticket : Nat) : Statement (.tenantProgrammeEmptied ticket) := of_some rfl (by simp)
theorem tnqAlarmFlush : Statement .tnqAlarmFlush := of_some rfl (by simp)
theorem troubleRaise (k : TroubleKind) (subject : Nat) : Statement (.troubleRaise k subject) := of_some rfl (owner_ne_trl k subject)
theorem troubleClear (k : TroubleKind) (subject : Nat) : Statement (.troubleClear k subject) := of_some rfl (owner_ne_trl k subject)
theorem trlAcknowledge : Statement .trlAcknowledge := of_some rfl (by simp)
theorem supervisionTimerExpiry (p : PortId) : Statement (.supervisionTimerExpiry p) := of_none rfl
theorem startGraceEnd : Statement .startGraceEnd := of_none rfl
theorem poll (p : PortId) (body : List Byte) : Statement (.poll p body) := of_none rfl
theorem read (p : PortId) (body : List Byte) : Statement (.read p body) := of_none rfl
theorem unknownRequestKind (p : PortId) (kind : Byte) (body : List Byte) : Statement (.unknownRequestKind p kind body) := of_none rfl
theorem addressCharacter (p : PortId) (b : Heard) : Statement (.addressCharacter p b) := of_none rfl
theorem frameStart (p : PortId) (b : Heard) : Statement (.frameStart p b) := of_none rfl
theorem receiveError (p : PortId) (e : ReceiveErrorKind) (b : Heard) : Statement (.receiveError p e b) := of_none rfl
theorem answerBegin (p : AnswerEdge) : Statement (.answerBegin p) := of_none rfl
theorem answerSent (p : AnswerEdge) : Statement (.answerSent p) := of_none rfl
theorem configureWrite (p : PortId) (args : List Byte) : Statement (.configureWrite p args) := of_none rfl
theorem configureReadBack (p : PortId) (args : List Byte) : Statement (.configureReadBack p args) := of_none rfl
theorem configureCommit (p : PortId) (args : List Byte) : Statement (.configureCommit p args) := of_none rfl
theorem configureDiscard (p : PortId) (args : List Byte) : Statement (.configureDiscard p args) := of_none rfl
theorem unknownConfigureSubkind (p : PortId) (sub : Byte) (args : List Byte) : Statement (.unknownConfigureSubkind p sub args) := of_none rfl
theorem eepromWriteEnd (written : Bool) : Statement (.eepromWriteEnd written) := of_none rfl
theorem configurationKeyOn : Statement .configurationKeyOn := of_none rfl
theorem configurationKeyOff : Statement .configurationKeyOff := of_none rfl
theorem cfsRegimeDelivery (news : CfsNews) : Statement (.cfsRegimeDelivery news) := of_some rfl (by simp)
theorem coldStart (cause : StartCause) (eeprom : EepromRead) : Statement (.coldStart cause eeprom) := of_none rfl
theorem warmRestart : Statement .warmRestart := of_none rfl
theorem dataCharacter (p : PortId) (b : Heard) : Statement (.dataCharacter p b) := of_none rfl

end Sys2Proof.Laws.NoSelfDelivery
end

