-- ==== Sys2Proof/Laws/Requests.lean ====
section
/-! SUPPORT. What taking a request at a port comes to: abandoning an answer, presence, the deliveries taken before it, the
block that decides it, and the answer. -/

namespace Sys2Proof.Machine

variable {p : PortId} {home : Agent} {s : State}

/-! ## Abandoning and preparing -/

theorem startWrite_links : (startWrite p s).links = s.links := rfl

/-- A commit write is in progress exactly when it has begun at some instant (R174). -/
theorem committing_iff (s : State) :
    s.committing = true ↔ ∃ w since, s.cfs.write = some w ∧ w.stage = .writing since := by
  unfold State.committing
  rcases s.cfs.write with _ | ⟨m, _ | n⟩ <;> simp

/-- No commit write is in progress exactly when one that is there still waits for its answer (R174). -/
theorem not_committing_iff (s : State) :
    s.committing = false ↔ ∀ w, s.cfs.write = some w → ∃ p, w.stage = .awaiting p := by
  unfold State.committing
  rcases s.cfs.write with _ | ⟨m, _ | n⟩ <;> simp

/-- Abandoning an answer touches the port's answer and the start of an EEPROM write that waited for it (R162, R174). -/
theorem abandon_eq (p : PortId) (s : State) :
    abandon p s = { s with links := (abandon p s).links, cfs := (abandon p s).cfs } := by
  unfold abandon
  split <;> rfl

theorem abandon_cfs (p : PortId) (s : State) :
    (abandon p s).cfs = { s.cfs with write := (abandon p s).cfs.write } := by
  unfold abandon
  split <;> rfl

theorem abandon_grace : (abandon p s).links.grace = s.links.grace := by
  unfold abandon
  split <;> rfl

theorem abandon_ports (q : PortId) : (abandon p s).links.ports[q] =
    if q = p ∧ s.links.ports[p].rx = .preparing then { s.links.ports[p] with answer := none } else s.links.ports[q] := by
  unfold abandon
  by_cases h : s.links.ports[p].rx = .preparing
  · rw [if_pos (by rw [h]; rfl)]
    simp only [h, and_true]
    rw [startWrite_links]
    exact (set_fin s.links.ports p q _).trans (by rw [← h])
  · rw [if_neg (by simpa using h), if_neg (fun k => h k.2)]

@[simp] theorem abandon_pending : (abandon p s).pending = s.pending := by rw [abandon_eq]
@[simp] theorem abandon_deliveries : (abandon p s).deliveries = s.deliveries := by rw [abandon_eq]
@[simp] theorem abandon_now : (abandon p s).now = s.now := by rw [abandon_eq]
@[simp] theorem abandon_configFault : (abandon p s).configFault = s.configFault := by rw [abandon_eq]
@[simp] theorem abandon_cfg : (abandon p s).cfg = s.cfg := by rw [abandon_eq]
@[simp] theorem abandon_lsc : (abandon p s).lsc = s.lsc := by rw [abandon_eq]
@[simp] theorem abandon_rge : (abandon p s).rge = s.rge := by rw [abandon_eq]
@[simp] theorem abandon_lfc : (abandon p s).lfc = s.lfc := by rw [abandon_eq]
@[simp] theorem abandon_dsq : (abandon p s).dsq = s.dsq := by rw [abandon_eq]
@[simp] theorem abandon_cue : (abandon p s).cue = s.cue := by rw [abandon_eq]
@[simp] theorem abandon_chr : (abandon p s).chr = s.chr := by rw [abandon_eq]
@[simp] theorem abandon_tnq : (abandon p s).tnq = s.tnq := by rw [abandon_eq]
@[simp] theorem abandon_trl : (abandon p s).trl = s.trl := by rw [abandon_eq]
@[simp] theorem abandon_role (q : PortId) : (abandon p s).role q = s.role q := by simp [State.role]

/-- Abandoning leaves every readable record. -/
theorem readable_abandon : readable (abandon p s) = readable s := by
  unfold abandon
  split
  · have : (s.links.ports.set p.val { s.links.ports[p] with answer := none } p.isLt).toList.map
        (fun r => (r.presence, r.attach, r.errors)) = s.links.ports.toList.map fun r => (r.presence, r.attach, r.errors) := by
      apply List.ext_getElem
      · simp
      · intro i h1 h2
        simp only [List.getElem_map, Vector.getElem_toList, Vector.getElem_set]
        split
        · rename_i h
          subst h
          rfl
        · rfl
    simp only [readable, startWrite, State.mapPort, State.setPort]
    simp only [withCfs_links, withLinks_links, this]
    rfl
  · rfl

/-! ## Presence (R152) -/

/-- The presence record of a port after a valid frame outside CONFIG FAULT. -/
theorem presenceOnFrame_eq (h : s.configFault = false) :
    presenceOnFrame p s = (s.setPort p
      { s.links.ports[p] with
        presence := (match s.links.ports[p].presence with
          | .absent | .lost => .attaching
          | .attaching => if 3 ≤ s.links.ports[p].attach + 1 then .present else .attaching
          | .present => .present)
        attach := (match s.links.ports[p].presence with
          | .absent | .lost => 1
          | .attaching => if 3 ≤ s.links.ports[p].attach + 1 then 0 else s.links.ports[p].attach + 1
          | .present => s.links.ports[p].attach)
        supervision := s.supervisionEnd p }).deliver (frameDeliveries p s) := by
  unfold presenceOnFrame frameDeliveries presenceNews
  rw [h]
  generalize s.links.ports[p] = r
  obtain ⟨rx, buffer, presence, attach, supervision, errors, answer, idleFrom, takenAt, begunAt⟩ := r
  have hd : ∀ t : State, t.deliver [] = t := fun t => by simp [State.deliver]
  cases presence
  · cases hr : s.role p <;> rfl
  · by_cases h3 : 3 ≤ attach + 1
    · have h2 : 2 ≤ attach := by omega
      simp only [Bool.false_eq_true, h3, h2, ↓reduceIte, State.clear, State.deliver, List.append_assoc,
        List.singleton_append]
      cases hr : s.role p <;> rfl
    · have h2 : ¬ 2 ≤ attach := by omega
      simp only [Bool.false_eq_true, h3, h2, ↓reduceIte, hd]
  · simp only [Bool.false_eq_true, ↓reduceIte, hd]
  · cases hr : s.role p <;> rfl

theorem presenceOnFrame_fault (h : s.configFault = true) : presenceOnFrame p s = s := by simp [presenceOnFrame, h]

/-! ## Deliveries taken before a request -/

theorem takeEarlier_none (h : noneOnWay p home s) : takeEarlier p home s = s := by
  have : (s.deliveries.filter fun e => route e == some (.port p, home)) = [] := by
    rw [List.filter_eq_nil_iff]
    intro e he
    simpa using h e he
  simp [takeEarlier, this]

/-- No port delivers to itself. -/
theorem noneOnWay_port (q : PortId) : noneOnWay p (.port q) s := by
  intro e _ h
  cases e <;> simp [route] at h

theorem noneOnWay_abandon (h : noneOnWay p home s) : noneOnWay p home (abandon p s) := by
  intro e he
  exact h e (by simpa using he)

/-! ## Requests -/

/-- A request command is its frame at its port. -/
theorem exec_request {i : Instr} {kind : Byte} {body : List Byte} (h : frameOf i = some (p, kind, body)) :
    exec i s = .next (frameArrives p kind body s) := by
  cases i <;> simp only [frameOf] at h
  all_goals first
    | (cases h; done)
    | (cases h; rfl)
    | (split at h
       · cases h
       · rename_i hk
         cases h
         simp [exec, execUnknownCommandCode, execUnknownAnnounceSubkind, execUnknownConfigureSubkind,
           execUnknownRequestKind, hk])

/-- A whole frame at a port that hears its line is taken. -/
theorem frameArrives_taken {kind : Byte} {body : List Byte} (h : s.hears p = true) (hb : body.length ≤ 56) :
    frameArrives p kind body s = takeFrame p kind body (s.instantAt 0) (abandon p s) := by
  simp [frameArrives, h, bodyFits, hb]

theorem hears_role (h : s.hears p = true) (hc : s.configFault = false) : s.role p ≠ .unused := by
  intro hr
  simp [State.hears, State.portUsed, hc, hr] at h

/-- The checks of R164 see the port's role, the configuration fault and the request. -/
theorem requestCheck_abandon (kind : Byte) (body : List Byte) :
    (abandon p s).requestCheck p kind body = s.requestCheck p kind body := by
  simp [State.requestCheck]

theorem commandHome_abandon (code : Byte) : commandHome p code (abandon p s) = commandHome p code s := by
  simp [commandHome]

theorem serveHome_abandon (kind : Byte) (body : List Byte) :
    serveHome p kind body (abandon p s) = serveHome p kind body s := by
  simp [serveHome, requestCheck_abandon, commandHome_abandon]

/-- A request of at most 56 bytes that the block `home` decides, with nothing of the port on its way to that block: one event
of the block, which serves the frame and prepares the answer. -/
theorem request_next {i : Instr} {kind : Byte} {body : List Byte} (hf : frameOf i = some (p, kind, body))
    (h : s.hears p = true) (hb : body.length ≤ 56) (hh : serveHome p kind body s = home) (hn : noneOnWay p home s) :
    exec i s = .next (event home (blockChange home (serveFrame p home kind body (s.instantAt 0))) (abandon p s)) := by
  rw [exec_request hf, frameArrives_taken h hb, takeFrame, serveHome_abandon, hh, takeEarlier_none (noneOnWay_abandon hn)]

/-! ## The state in which a request is served -/

/-- The state in which a frame that a port takes is served: an answer in preparation abandoned, and presence as the frame leaves
it (R152, R162). -/
def asked (p : PortId) (s : State) : State := presenceOnFrame p (abandon p s)

theorem abandon_port_kept : (abandon p s).links.ports[p].errors = s.links.ports[p].errors
    ∧ (abandon p s).links.ports[p].presence = s.links.ports[p].presence
    ∧ (abandon p s).links.ports[p].attach = s.links.ports[p].attach
    ∧ (abandon p s).links.ports[p].supervision = s.links.ports[p].supervision := by
  rw [abandon_ports]
  split <;> exact ⟨rfl, rfl, rfl, rfl⟩

theorem frameDeliveries_abandon : frameDeliveries p (abandon p s) = frameDeliveries p s := by
  unfold frameDeliveries
  rw [(abandon_port_kept (p := p) (s := s)).2.1, (abandon_port_kept (p := p) (s := s)).2.2.1, abandon_role]

/-- The state in which a frame is served, outside CONFIG FAULT. -/
theorem asked_eq (h : s.configFault = false) : asked p s =
    { s with links := (asked p s).links, cfs := (abandon p s).cfs, deliveries := withFrame p s } := by
  have key : ∀ (u : State) (r : PortRec) (es : List Instr), (u.setPort p r).deliver es =
      { u with links := ((u.setPort p r).deliver es).links, deliveries := u.deliveries ++ es } := fun _ _ _ => rfl
  have h2 : asked p s = { abandon p s with links := (asked p s).links, deliveries := withFrame p s } := by
    unfold asked
    rw [presenceOnFrame_eq (by simpa using h), frameDeliveries_abandon, key]
    simp [withFrame]
  have h3 := abandon_eq p s
  generalize abandon p s = u at h2 h3
  generalize (asked p s).links = l at h2
  rw [h2, h3]

theorem asked_fault (h : s.configFault = true) : asked p s = abandon p s := presenceOnFrame_fault (by simpa using h)

section
variable (h : s.configFault = false)
include h
theorem asked_pending : (asked p s).pending = s.pending := by rw [asked_eq h]
theorem asked_deliveries : (asked p s).deliveries = withFrame p s := by rw [asked_eq h]
theorem asked_now : (asked p s).now = s.now := by rw [asked_eq h]
theorem asked_configFault : (asked p s).configFault = false := by rw [asked_eq h]; exact h
theorem asked_cfg : (asked p s).cfg = s.cfg := by rw [asked_eq h]
theorem asked_lsc : (asked p s).lsc = s.lsc := by rw [asked_eq h]
theorem asked_rge : (asked p s).rge = s.rge := by rw [asked_eq h]
theorem asked_lfc : (asked p s).lfc = s.lfc := by rw [asked_eq h]
theorem asked_dsq : (asked p s).dsq = s.dsq := by rw [asked_eq h]
theorem asked_cue : (asked p s).cue = s.cue := by rw [asked_eq h]
theorem asked_chr : (asked p s).chr = s.chr := by rw [asked_eq h]
theorem asked_tnq : (asked p s).tnq = s.tnq := by rw [asked_eq h]
theorem asked_trl : (asked p s).trl = s.trl := by rw [asked_eq h]
theorem asked_cfs : (asked p s).cfs = (abandon p s).cfs := by rw [asked_eq h]
theorem asked_grace : (asked p s).links.grace = s.links.grace := by
  unfold asked
  rw [presenceOnFrame_eq (by simpa using h)]
  exact abandon_grace
theorem asked_ports (q : PortId) (hq : q ≠ p) : (asked p s).links.ports[q] = s.links.ports[q] := by
  unfold asked
  rw [presenceOnFrame_eq (by simpa using h)]
  refine (set_fin_other _ _ hq).trans ?_
  rw [abandon_ports, if_neg (fun k => hq k.1)]
/-- The presence record of the port as the frame leaves it (R152). -/
theorem asked_port : (asked p s).links.ports[p].errors = s.links.ports[p].errors
    ∧ presenceAfter p s (asked p s).links.ports[p] := by
  obtain ⟨he, hp, ha, -⟩ := abandon_port_kept (p := p) (s := s)
  generalize hx : (abandon p s).links.ports[p] = x at he hp ha
  unfold asked
  rw [presenceOnFrame_eq (by simpa using h)]
  have key : ∀ r : PortRec, (((abandon p s).setPort p r).deliver (frameDeliveries p (abandon p s))).links.ports[p] = r :=
    fun r => set_fin_same _ _ _
  rw [key, hx]
  refine ⟨he, ?_⟩
  unfold presenceAfter
  simp only [hp, ha]
  refine ⟨by simp [State.supervisionEnd, State.after], ?_⟩
  generalize s.links.ports[p] = r
  clear key he hp ha hx
  obtain ⟨rx, buffer, presence, attach, supervision, errors, answer, idleFrom, takenAt, begunAt⟩ := r
  cases presence
  · simp
  · by_cases h3 : 2 ≤ attach
    · have h4 : 3 ≤ attach + 1 := by omega
      simp [h3]
    · have h4 : ¬ 3 ≤ attach + 1 := by omega
      simp [h3]
  · simp
  · simp
end

/-- A state whose ports are those of a prepared answer answers the request (R161). -/
theorem answers_of {a : Answer} {t : State} (h : s.configFault = false) (hl : t.links = (prepare p a (s.instantAt 0) (asked p s)).links) :
    answers p a s t := by
  have hp : t.links.ports[p] =
      { (asked p s).links.ports[p] with
        rx := .preparing, buffer := [], answer := some a, idleFrom := s.instantAt 0, takenAt := s.instantAt 0 } := by
    rw [hl]; exact set_fin_same _ _ _
  have hq : ∀ q : PortId, q ≠ p → t.links.ports[q] = s.links.ports[q] := by
    intro q hq
    rw [hl]
    exact (set_fin_other _ _ hq).trans (asked_ports h q hq)
  have hg : t.links.grace = s.links.grace := by rw [hl]; exact asked_grace h
  refine ⟨?_, ?_, ?_, ?_, ?_, ?_, hg, hq⟩ <;> rw [hp]
  · exact (asked_port h).1

/-- The presence record of a port whose answer is prepared. -/
theorem presenceAfter_of {a : Answer} {t : State} (h : s.configFault = false)
    (hl : t.links = (prepare p a (s.instantAt 0) (asked p s)).links) : presenceAfter p s t.links.ports[p] := by
  have hp : t.links.ports[p] =
      { (asked p s).links.ports[p] with
        rx := .preparing, buffer := [], answer := some a, idleFrom := s.instantAt 0, takenAt := s.instantAt 0 } := by
    rw [hl]; exact set_fin_same _ _ _
  rw [hp]
  exact (asked_port h).2

/-! ## What an event leaves -/

theorem changed_congr {s x : State} (h : readable x = readable s) (t : State) : changed x t = changed s t := by
  simp [changed, h]

/-- The deliveries and the change counter after an event of a block other than RGE. -/
theorem leaves_event_other {f : State → State} {x : State} {way news : List Instr} (hh : home ≠ .rge)
    (hx : readable x = readable s) (hd : (f x).deliveries = way ++ news)
    (hc : (f x).rge.changeCounter = s.rge.changeCounter) : leaves home way news s (event home f x) := by
  have hb : (home == Agent.rge) = false := by simpa using hh
  have hb2 : (home != Agent.rge) = true := by simpa using hh
  unfold leaves increaseOf
  rw [show changed s (event home f x) = changed s (f x) from rfl, ← changed_congr hx]
  refine ⟨?_, ?_⟩
  · simp only [hh, ↓reduceIte]
    show (f x).deliveries ++ _ = _
    rw [hd, hb2, Bool.true_and]
  · simp only [hh, false_and, ↓reduceIte]
    show (f x).rge.changeCounter + _ = _
    rw [hb, hc]
    rfl

/-- The deliveries and the change counter after an event of RGE. -/
theorem leaves_event_rge {f : State → State} {x : State} {way news : List Instr}
    (hx : readable x = readable s) (hd : (f x).deliveries = way ++ news)
    (hc : (f x).rge.changeCounter = s.rge.changeCounter) : leaves .rge way news s (event .rge f x) := by
  unfold leaves
  rw [show changed s (event .rge f x) = changed s (f x) from rfl, ← changed_congr hx]
  refine ⟨?_, ?_⟩
  · show (f x).deliveries ++ _ = _
    simp [hd]
  · show (f x).rge.changeCounter + _ = _
    simp [hc]

/-! ## Served requests -/

/-- A request that passes the checks of R164 is one event of the block that decides it. -/
theorem request_served {i : Instr} {kind : Byte} {body : List Byte} (hf : frameOf i = some (p, kind, body))
    (h : canAsk p home s) (hb : body.length ≤ 56) (hk : s.requestCheck p kind body = none)
    (hh : serveHome p kind body s = home) (hl : home ≠ .lfc ∨ s.role p ≠ .liftGroup) :
    exec i s = .next (event home (blockChange home fun x =>
      prepare p (serveKind p kind body (presenceOnFrame p x)).2 (s.instantAt 0)
        (serveKind p kind body (presenceOnFrame p x)).1)
      (abandon p s)) := by
  have hc : (home == Agent.lfc && s.role p == PortRole.liftGroup) = false := by
    rcases hl with hl | hl <;> simp [hl]
  have hu : ∀ x : State, x.configFault = s.configFault → x.cfg = s.cfg → serveFrame p home kind body (s.instantAt 0) x =
      prepare p (serveKind p kind body (presenceOnFrame p x)).2 (s.instantAt 0)
        (serveKind p kind body (presenceOnFrame p x)).1 := by
    intro x hx hx2
    have hc2 : (home == Agent.lfc && x.role p == PortRole.liftGroup) = false := by
      simpa [State.role, hx2] using hc
    have hcx : x.configFault = false := hx.trans h.2.1
    have e1 : (presenceOnFrame p x).configFault = false := by rw [presenceOnFrame_eq hcx]; exact hcx
    have e2 : (presenceOnFrame p x).cfg = s.cfg := by rw [presenceOnFrame_eq hcx]; exact hx2
    have hk2 : (presenceOnFrame p x).requestCheck p kind body = none := by
      rw [← hk]
      simp [State.requestCheck, State.role, e1, e2, h.2.1]
    simp only [serveFrame, beforeService, hc2, Bool.false_eq_true, ↓reduceIte, serve, hk2]
  rw [request_next hf h.1 hb hh h.2.2]
  congr 1
  unfold event
  congr 1
  cases home <;> simp only [blockChange, rgeChange, dsqChange, chrChange]
  all_goals rw [hu (abandon p s) abandon_configFault abandon_cfg]

theorem zonesIn_congr {s t : State} (hc : t.cfg = s.cfg) (hz : t.rge.zones = s.rge.zones) (st : ZoneState) (f : Nat) :
    t.zonesIn st f = s.zonesIn st f := by
  unfold State.zonesIn
  rw [hc, hz]

theorem anyPrealarm_congr {s t : State} (hc : t.cfg = s.cfg) (hz : t.rge.zones = s.rge.zones) :
    t.anyPrealarm = s.anyPrealarm := by
  unfold State.anyPrealarm
  rw [hc, hz]

theorem zonesCounted_congr {s t : State} (hc : t.cfg = s.cfg) (hr : t.rge = s.rge) (h : zonesCounted s) : zonesCounted t := by
  intro f
  rw [zonesIn_congr hc (by rw [hr]), zonesIn_congr hc (by rw [hr]), hr]
  exact h f

theorem regimeSettled_congr {s t : State} (hc : t.cfg = s.cfg) (hr : t.rge = s.rge) (h : regimeSettled s) :
    regimeSettled t := by
  unfold regimeSettled
  rw [anyPrealarm_congr hc (by rw [hr]), hr]
  exact h

theorem rgeNews_congr {s s' t t' : State} (h : s'.rge = s.rge) (k : t'.rge = t.rge) : rgeNews s' t' = rgeNews s t := by
  unfold rgeNews phaseNews State.inAlarm
  rw [h, k]

/-- The event of RGE that serves a request which leaves the Regime Engine at `R`, counted and settled, and delivers `D`. -/
theorem rge_served {a : Answer} {f : State → State} {R : Rge} {D : List Instr} (h : s.configFault = false)
    (hf : f (abandon p s) = prepare p a (s.instantAt 0) { asked p s with rge := R, deliveries := (asked p s).deliveries ++ D })
    (hz : zonesCounted { s with rge := R }) (hr : regimeSettled { s with rge := R })
    (hc : R.changeCounter = s.rge.changeCounter) :
    ∃ t, event .rge (rgeChange f) (abandon p s) = t ∧ rgeServed p s t ∧ answers p a s t
      ∧ leaves .rge (withFrame p s) (D ++ rgeNews s { s with rge := R }) s t
      ∧ t.rge = { R with changeCounter := t.rge.changeCounter } := by
  have hx : rgeChange f (abandon p s) =
      (prepare p a (s.instantAt 0) { asked p s with rge := R, deliveries := (asked p s).deliveries ++ D }).deliver
        (rgeNews s { s with rge := R }) := by
    unfold rgeChange
    rw [hf, recountFloors_same, settleRegime_same]
    · exact congrArg (State.deliver _) (rgeNews_congr abandon_rge rfl)
    · exact regimeSettled_congr (s := { s with rge := R }) (asked_cfg h) rfl hr
    · exact zonesCounted_congr (s := { s with rge := R }) (asked_cfg h) rfl hz
  refine ⟨_, rfl, ?_, ?_, ?_, ?_⟩
  · unfold rgeServed
    have h2 := asked_eq (p := p) h
    rw [event_rge, hx]
    generalize (if changed (abandon p s) _ = true then (1 : BitVec 16) else 0) = n
    generalize rgeNews _ _ = es
    generalize asked p s = u at h2 ⊢
    rw [h2]
    rfl
  · refine answers_of h ?_
    rw [event_links, hx]
    rfl
  · refine leaves_event_rge readable_abandon ?_ ?_
    · rw [hx]
      show ((asked p s).deliveries ++ D) ++ _ = _
      rw [asked_deliveries h, List.append_assoc]
    · rw [hx]
      exact hc
  · rw [event_rge, hx]
    rfl

/-- A state that differs only in the counts is counted and settled as before. -/
theorem counted_with {R : Rge} (h : zonesCounted s) (hz : R.zones = s.rge.zones)
    (hf : ∀ f : FloorId, R.floors[f].alarmed = s.rge.floors[f].alarmed
      ∧ R.floors[f].prealarmed = s.rge.floors[f].prealarmed) : zonesCounted { s with rge := R } := by
  intro f
  rw [zonesIn_congr (s := s) (t := { s with rge := R }) rfl hz, zonesIn_congr (s := s) (t := { s with rge := R }) rfl hz]
  show R.floors[f].alarmed = _ ∧ R.floors[f].prealarmed = _
  rw [(hf f).1, (hf f).2]
  exact h f

theorem settled_with {R : Rge} (h : regimeSettled s) (hz : R.zones = s.rge.zones)
    (hr : R.regime = .alarm ∨ R.regime = s.rge.regime) : regimeSettled { s with rge := R } := by
  unfold regimeSettled at *
  rw [anyPrealarm_congr (s := s) (t := { s with rge := R }) rfl hz]
  show R.regime = .alarm ∨ R.regime = _
  rcases hr with hr | hr
  · exact .inl hr
  · rw [hr]; exact h

end Sys2Proof.Machine
end

