-- ==== Sys2Proof/Tests/Slice0.lean ====
section
/-! SUPPORT. Tests: ill-formed commands that the checks refuse, single steps whose expected results are worked out from the
rules of spec/, and for every statement with hypotheses a named state and operands that meet them. -/

namespace Sys2Proof.Machine.Tests

set_option Elab.async false

open Sys2Proof

/-! ## Ill-formed commands -/

theorem test_wf_zoneReport_body : (Instr.zoneReport 1 (List.replicate 57 0)).wf = false := by decide
theorem test_wf_carReport_body : (Instr.carReport 2 (List.replicate 57 0)).wf = false := by decide
theorem test_wf_read_body : (Instr.read 0 (List.replicate 57 0)).wf = false := by decide
theorem test_wf_silence_args : (Instr.silence 0 (List.replicate 56 0)).wf = false := by decide
theorem test_wf_recallBank_args : (Instr.recallBank 0 (List.replicate 56 0)).wf = false := by decide
theorem test_wf_liveStart_args : (Instr.liveStart 0 (List.replicate 56 0)).wf = false := by decide
theorem test_wf_configureWrite_args : (Instr.configureWrite 0 (List.replicate 56 0)).wf = false := by decide
theorem test_wf_unknownCommandCode_known : (Instr.unknownCommandCode 0 19 []).wf = false := by decide
theorem test_wf_unknownAnnounceSubkind_known : (Instr.unknownAnnounceSubkind 0 4 []).wf = false := by decide
theorem test_wf_unknownConfigureSubkind_known : (Instr.unknownConfigureSubkind 0 1 []).wf = false := by decide
theorem test_wf_unknownRequestKind_known : (Instr.unknownRequestKind 0 7 []).wf = false := by decide
theorem test_wf_changeCounterIncrease_self : (Instr.changeCounterIncrease .rge).wf = false := by decide
theorem test_wf_dsqPhaseChange_order : (Instr.dsqPhaseChange [(3, .alert), (2, .alert)]).wf = false := by decide
theorem test_wf_cuePhaseChange_repeat : (Instr.cuePhaseChange [(3, .alert), (3, .evacuate)]).wf = false := by decide
theorem test_wf_tenantSlotWrite_ticket : (Instr.tenantSlotWrite 0 (.erase 256)).wf = false := by decide
theorem test_wf_tenantSlotWrite_cue : (Instr.tenantSlotWrite 0 (.put 0 96)).wf = false := by decide
theorem test_wf_programmeHanded_cue : (Instr.programmeHanded (.fire 96 .evac) .formed 0).wf = false := by decide
theorem test_wf_tenantProgrammeHanded_ticket : (Instr.tenantProgrammeHanded 256 0 0).wf = false := by decide
theorem test_wf_agingTimerExpiry_ticket : (Instr.agingTimerExpiry 256).wf = false := by decide
theorem test_wf_troubleRaise_loop : (Instr.troubleRaise .loopOpen 48).wf = false := by decide
theorem test_wf_troubleClear_port : (Instr.troubleClear .partyLost 6).wf = false := by decide
theorem test_wf_coldStart_image : (Instr.coldStart .powerUp (.placed (List.replicate 4097 0))).wf = false := by
  decide +kernel

/-! ## States -/

/-- A small building: five floors, five zones, one bank, three door points, four cues. -/
def cfg : Configuration :=
  { Configuration.blank with
    topFloor := 4
    alertSpan := 1
    memorySize := 64
    loops := (Configuration.blank.loops.set 0 ⟨.zoneInput, 0⟩).set 1 ⟨.doorFeedback, 0⟩
    zones :=
      ((((Configuration.blank.zones.set 0 ⟨true, .loop 0, 2, .detector, false, false, true⟩).set 1
        ⟨true, .link 1 5, 2, .callPoint, false, false, false⟩).set 2
        ⟨true, .link 1 6, 0, .lobbyDetector, true, false, false⟩).set 3
        ⟨true, .link 1 7, 4, .shaftDetector, true, false, false⟩).set 4
        ⟨true, .link 1 8, 4, .shaftSprinkler, true, false, false⟩
    floors := Vector.replicate 32 ⟨"", false, some 0, some 1⟩
    banks := Configuration.blank.banks.set 0 ⟨true, 2, 0, 4, 0, 1, true⟩
    doors :=
      ((Configuration.blank.doors.set 0 ⟨true, .strike, 2, some 0, 0, some 1, 4, 100⟩).set 1
        ⟨true, .strike, 3, some 0, 0, none, 8, 100⟩).set 2 ⟨true, .magnet, 2, none, 0, none, 1, 0⟩
    groups := Configuration.blank.groups.set 0 ⟨200, 0, 1000, some .max, 500⟩
    cues :=
      (((Configuration.blank.cues.set 0 ⟨true, 0, 2, 1, 0, .always, none, none, true⟩).set 1
        ⟨true, 8, 2, 0, 1, .always, none, none, false⟩).set 2
        ⟨true, 16, 1, 1, 0, .always, some 0, none, false⟩).set 3
        ⟨true, 17, 1, 2, 0, .notSilenced, some 0, some 1, true⟩
    stairs := Configuration.blank.stairs.set 0 ⟨true, some 1⟩
    areas := Vector.ofFn fun a =>
      if h : a.val < 4 then ⟨4, some (.channel ⟨a.val, h⟩)⟩
      else if a = 4 then ⟨4, some (.live .liveC)⟩ else if a = 5 then ⟨4, some (.live .liveP)⟩ else ⟨0, none⟩
    ports :=
      (((Configuration.blank.ports.set 0 ⟨.commandStation, .direct, 9600, 1, 3000, none⟩).set 1
        ⟨.firePanel, .addressed, 9600, 5, 3000, none⟩).set 2
        ⟨.liftGroup, .direct, 9600, 1, 3000, some 0⟩).set 3 ⟨.pagingConsole, .direct, 9600, 1, 3000, none⟩ }

/-- The part running under that configuration, quiet. -/
def quiet : State :=
  { State.reset with
    now := 1000
    configFault := false
    cfg := cfg
    dsq := { State.reset.dsq with
      doors := ((State.reset.dsq.doors.set 0 .secured).set 1 .secured).set 2 .holding }
    cfs := { State.reset.cfs with inUse := some [] }
    lsc := { State.reset.lsc with nextScan := 2000 } }

/-- Zone 1 in ALARM: floors 1 to 3 in EVACUATE, floors 0 and 4 in ALERT. -/
def ringing : State :=
  { quiet with
    rge := { quiet.rge with
      zones := quiet.rge.zones.set 1 ⟨.alarm, .alarm, 0, none⟩
      floors := ((((quiet.rge.floors.set 0 ⟨.alert, 0, 0, false, false, 0⟩).set 1 ⟨.evacuate, 0, 0, false, false, 0⟩).set 2
        ⟨.evacuate, 1, 0, true, false, 0⟩).set 3 ⟨.evacuate, 0, 0, false, false, 0⟩).set 4 ⟨.alert, 0, 0, false, false, 0⟩
      firstAlarms := [2]
      regime := .alarm
      elapsedFrom := 500
      expansionTimer := some 120500 } }

/-- Zone 0 in PREALARM. -/
def verifying : State :=
  { quiet with
    rge := { quiet.rge with
      zones := quiet.rge.zones.set 0 ⟨.prealarm, .alarm, 0, some 21000⟩
      floors := quiet.rge.floors.set 2 ⟨.quiet, 0, 1, false, false, 0⟩
      regime := .prealarm } }

/-- Deliveries on their way. -/
def on (s : State) (es : List Instr) : State := { s with deliveries := es }

/-- The Regime Engine's fields changed. -/
def rg (s : State) (f : Rge → Rge) : State := { s with rge := f s.rge }

/-! ## Soundness of the states used below -/

theorem levelFits_none : levelFits none := fun _ h => nomatch h

theorem levelFits_some {n : Nat} (h : n ≤ 3) : levelFits (some n) := fun _ e => Option.some.inj e ▸ h

theorem quiet_sound : regimeSound quiet := by
  refine ⟨?_, .inr ?_, ?_, ?_, ?_, ⟨levelFits_none, levelFits_none, levelFits_none, levelFits_none⟩, ?_, ?_, ?_, ?_⟩
  · unfold zonesCounted; decide +kernel
  · decide +kernel
  · unfold timersMatchZones; decide +kernel
  · unfold prealarmConfirmed; decide +kernel
  · unfold holdingsOnlyInAlarm; decide +kernel
  · unfold expansionAllowed; decide +kernel
  · unfold quietOutsideAlarm; decide +kernel
  · unfold quietOutOfRange; decide +kernel
  · unfold originsEvacuated; decide +kernel

theorem ringing_sound : regimeSound ringing := by
  refine ⟨?_, .inl rfl, ?_, ?_, ?_, ⟨levelFits_none, levelFits_none, levelFits_none, levelFits_none⟩, ?_, ?_, ?_, ?_⟩
  · unfold zonesCounted; decide +kernel
  · unfold timersMatchZones; decide +kernel
  · unfold prealarmConfirmed; decide +kernel
  · unfold holdingsOnlyInAlarm; decide +kernel
  · unfold expansionAllowed; decide +kernel
  · unfold quietOutsideAlarm; decide +kernel
  · unfold quietOutOfRange; decide +kernel
  · unfold originsEvacuated; decide +kernel

theorem verifying_sound : regimeSound verifying := by
  refine ⟨?_, .inr ?_, ?_, ?_, ?_, ⟨levelFits_none, levelFits_none, levelFits_none, levelFits_none⟩, ?_, ?_, ?_, ?_⟩
  · unfold zonesCounted; decide +kernel
  · decide +kernel
  · unfold timersMatchZones; decide +kernel
  · unfold prealarmConfirmed; decide +kernel
  · unfold holdingsOnlyInAlarm; decide +kernel
  · unfold expansionAllowed; decide +kernel
  · unfold quietOutsideAlarm; decide +kernel
  · unfold quietOutOfRange; decide +kernel
  · unfold originsEvacuated; decide +kernel

/-- A sound state in ALARM stays sound whatever its holdings, when its expansion timer is stopped. -/
theorem held_sound {s : State} (h : regimeSound s) (ha : s.rge.regime = .alarm) {ack : Bool} {si ev ho ma : Option Nat}
    (hl : levelFits si ∧ levelFits ev ∧ levelFits ho ∧ levelFits ma) :
    regimeSound { s with rge := { s.rge with
      acknowledged := ack, silence := si, evacuateAll := ev, expansionHold := ho, manual := ma, expansionTimer := none } } := by
  obtain ⟨h1, -, h3, h4, -, -, -, -, h9, h10⟩ := h
  exact ⟨h1, .inl ha, h3, h4, fun k => absurd ha k, hl, fun k => absurd rfl k, fun k => absurd ha k, h9, h10⟩

/-- The state with the holdings of RGE given and the expansion timer stopped. -/
def held (s : State) (ack : Bool) (si ev ho ma : Option Nat) : State :=
  { s with rge := { s.rge with
    acknowledged := ack, silence := si, evacuateAll := ev, expansionHold := ho, manual := ma, expansionTimer := none } }

theorem levels {a b c d : Nat} (h : a ≤ 3 ∧ b ≤ 3 ∧ c ≤ 3 ∧ d ≤ 3) :
    levelFits (some a) ∧ levelFits (some b) ∧ levelFits (some c) ∧ levelFits (some d) :=
  ⟨levelFits_some h.1, levelFits_some h.2.1, levelFits_some h.2.2.1, levelFits_some h.2.2.2⟩

/-- Every holding stands. -/
def allHeld : State := held ringing true (some 2) (some 3) (some 2) (some 3)

theorem allHeld_sound : regimeSound allHeld := held_sound ringing_sound rfl (levels (by decide))

/-- ALARM, acknowledged, nothing held. -/
def acked : State := held ringing true none none none none

theorem acked_sound : regimeSound acked :=
  held_sound ringing_sound rfl ⟨levelFits_none, levelFits_none, levelFits_none, levelFits_none⟩

theorem on_sound {s : State} (h : regimeSound s) (es : List Instr) : regimeSound (on s es) := h

theorem can_ask {p : PortId} {a : Agent} {s : State} (h : s.hears p = true) (hf : s.configFault = false)
    (hd : s.deliveries = []) : canAsk p a s := ⟨h, hf, fun e he => by rw [hd] at he; cases he⟩

/-! ## The hypotheses of the statements are met -/

theorem witness_IdleStep :
    (on quiet [.trlAcknowledge]).pending = [] ∧ (on quiet [.trlAcknowledge]).deliveries = .trlAcknowledge :: []
      ∧ quiet.deliveries = [] ∧ dueEvents quiet = []
      ∧ dueEvents { quiet with now := 2000 } = .scanStart :: [] := by decide +kernel

theorem witness_StoreSound : imagesCanonical ringing ∧ storeAgrees ringing
    ∧ ∃ t, step { ringing with pending := [.configurationKeyOn] } = .next t := by
  refine ⟨⟨?_, ?_, ?_, ?_⟩, ?_, ⟨_, rfl⟩⟩
  · intro m h; cases h; rfl
  · intro m h; cases h; rfl
  · intro m h; cases h
  · intro m h; cases h
  · exact ⟨⟨nofun, nofun⟩, ⟨nofun, fun h => absurd rfl h⟩, nofun, nofun⟩

theorem witness_RegimeSound : regimeSound ringing
    ∧ ∃ t, step { ringing with pending := [.evacuateAll 0 []] } = .next t := ⟨ringing_sound, _, rfl⟩

/-- Strike `d` of group 0 in the state `r`, the group as `f` leaves it. -/
def door (r : DoorState) (f : GroupRec → GroupRec) (s : State) : State :=
  { s with dsq := { doors := s.dsq.doors.set 0 r, groups := s.dsq.groups.set 0 (f s.dsq.groups[(0 : Fin 4)]) } }

/-- Strike 0 waits for its release. -/
def waiting : State :=
  door .queued (fun g => { g with queue := [⟨0, 1⟩], pacing := some 1000, zeroGap := true }) ringing

theorem waiting_queues : queuesInOrder waiting := by unfold queuesInOrder; decide +kernel

theorem ringing_queues : queuesInOrder ringing := by unfold queuesInOrder; decide +kernel

theorem quiet_queues : queuesInOrder quiet := by unfold queuesInOrder; decide +kernel

theorem witness_ListsInOrder : troublesFit waiting ∧ tenantsFit waiting ∧ queuesInOrder waiting
    ∧ ∃ t, step { waiting with pending := [.announceTenant 0 [0, 255, 0, 0, 0, 0]] } = .next t := by
  refine ⟨?_, ?_, waiting_queues, _, rfl⟩
  · unfold troublesFit; decide +kernel
  · unfold tenantsFit; decide +kernel

theorem witness_FaultValues : State.reset.configFault = true ∧ faultValues State.reset := by
  refine ⟨rfl, ?_⟩
  unfold faultValues
  decide +kernel

theorem witness_PhasesNeverFall : ringing.inAlarm = true
    ∧ ∃ t, step { ringing with now := 120500, pending := [.expansionTimerExpiry] } = .next t ∧ t.inAlarm = true :=
  ⟨rfl, _, rfl, by decide +kernel⟩

theorem witness_Images : Image.wf [(4095, 1)] = true ∧ 4094 + [(7 : Byte), 8].length ≤ imageSize
    ∧ Image.wf [(0, 0), (1, 2)] = true ∧ Image.version [(0, 0), (1, 2)] = 2 := by decide +kernel

/-- A scan is under way at loop `l`. -/
def scanning (l : Nat) (s : State) : State := { s with lsc := { s.lsc with position := l } }

theorem witness_Scans :
    (quiet.configFault = false ∧ { quiet with now := 2000 }.lsc.nextScan ≤ 2000 ∧ quiet.lsc.position = 48)
      ∧ (scanning 0 quiet).lsc.position = (0 : LoopId).val ∧ (scanning 47 quiet).lsc.position = (47 : LoopId).val
      ∧ quiet.cfg.sets.toList[quiet.cfg.loops[(0 : LoopId)].set]? = some ⟨120, 380, 760, 12⟩
      ∧ quiet.cfg.sets.toList[quiet.cfg.loops[(47 : LoopId)].set]? = some ⟨120, 380, 760, 12⟩ := by decide +kernel

theorem witness_ConditionArrival :
    (let e := Instr.zoneConditionArrival 0 .clear
     (on verifying [e]).takes e = true ∧ verifying.cfg.zones[(0 : ZoneId)].configured = true ∧ regimeSound (on verifying [e])
       ∧ verifying.rge.zones[(0 : ZoneId)].condition ≠ .clear ∧ quiet.rge.zones[(0 : ZoneId)].condition = .clear)
      ∧ (let e := Instr.zoneConditionArrival 0 .alarm
         (on quiet [e]).takes e = true ∧ regimeSound (on quiet [e]) ∧ quiet.rge.zones[(0 : ZoneId)].state = .normal
           ∧ quiet.rge.zones[(0 : ZoneId)].condition ≠ .alarm
           ∧ quiet.cfg.zones[(0 : ZoneId)].kind = .detector ∧ quiet.cfg.zones[(0 : ZoneId)].verify = true
           ∧ 0 < quiet.cfg.tVerify ∧ quiet.rge.zones[(0 : ZoneId)].unconfirmed < 4
           ∧ ∀ y : ZoneId, quiet.rge.zones[y].state ≠ .prealarm) :=
  ⟨⟨by decide +kernel, by decide +kernel, on_sound verifying_sound _, by decide +kernel, by decide +kernel⟩,
    by decide +kernel, on_sound quiet_sound _, by decide +kernel, by decide +kernel, by decide +kernel, by decide +kernel,
    by decide +kernel, by decide +kernel, by decide +kernel⟩

theorem witness_NewAlarm :
    (regimeSound { verifying with now := 21000 } ∧ verifying.configFault = false
        ∧ verifying.cfg.zones[(0 : ZoneId)].configured = true ∧ verifying.cfg.zones[(0 : ZoneId)].floor = (2 : FloorId).val
        ∧ { verifying with now := 21000 }.due verifying.rge.zones[(0 : ZoneId)].timer = true)
      ∧ (let e := Instr.zoneConditionArrival 1 .alarm
         regimeSound (on quiet [e]) ∧ (on quiet [e]).takes e = true ∧ quiet.cfg.zones[(1 : ZoneId)].configured = true
           ∧ quiet.cfg.zones[(1 : ZoneId)].floor = (2 : FloorId).val ∧ quiet.rge.zones[(1 : ZoneId)].condition ≠ .alarm
           ∧ quiet.rge.zones[(1 : ZoneId)].state = .normal ∧ quiet.cfg.zones[(1 : ZoneId)].kind ≠ .detector) :=
  ⟨⟨verifying_sound, by decide +kernel⟩, on_sound quiet_sound _, by decide +kernel⟩

theorem witness_ZoneReport : canAsk 1 .rge quiet ∧ quiet.role 1 = .firePanel
    ∧ [(5 : Byte), 1, 9, 1].length % 2 = 0 ∧ [(5 : Byte), 1, 9, 1].length ≤ 56 :=
  ⟨can_ask (by decide +kernel) rfl rfl, by decide +kernel⟩

theorem witness_PanelLoss : (on ringing [.rgePanelLoss 1]).takes (.rgePanelLoss 1) = true
    ∧ regimeSound (on ringing [.rgePanelLoss 1]) := ⟨by decide +kernel, on_sound ringing_sound _⟩

/-- Zone 0 ISOLATED with condition `c`. -/
def isolated (c : Condition) : State := rg quiet fun r => { r with zones := r.zones.set 0 ⟨.isolated, c, 0, none⟩ }

theorem isolated_sound : regimeSound (isolated .alarm) := by
  refine ⟨?_, .inr ?_, ?_, ?_, ?_, ⟨levelFits_none, levelFits_none, levelFits_none, levelFits_none⟩, ?_, ?_, ?_, ?_⟩
  · unfold zonesCounted; decide +kernel
  · decide +kernel
  · unfold timersMatchZones; decide +kernel
  · unfold prealarmConfirmed; decide +kernel
  · unfold holdingsOnlyInAlarm; decide +kernel
  · unfold expansionAllowed; decide +kernel
  · unfold quietOutsideAlarm; decide +kernel
  · unfold quietOutOfRange; decide +kernel
  · unfold originsEvacuated; decide +kernel

theorem witness_Isolate : canAsk 0 .rge verifying ∧ canAsk 0 .rge ringing ∧ canAsk 1 .rge (isolated .alarm)
    ∧ regimeSound verifying ∧ regimeSound ringing ∧ regimeSound (isolated .alarm)
    ∧ quiet.role 0 = .commandStation ∧ quiet.role 1 = .firePanel
    ∧ (0 : ZoneId).val = (0 : Byte).toNat ∧ (1 : ZoneId).val = (1 : Byte).toNat
    ∧ quiet.cfg.zones[(0 : ZoneId)].configured = true ∧ quiet.cfg.zones[(1 : ZoneId)].configured = true
    ∧ quiet.cfg.zones[(63 : ZoneId)].configured = false ∧ ringing.rge.zones[(1 : ZoneId)].state = .alarm
    ∧ (isolated .alarm).rge.zones[(0 : ZoneId)].state = .isolated ∧ verifying.rge.zones[(0 : ZoneId)].state = .prealarm :=
  ⟨can_ask (by decide +kernel) rfl rfl, can_ask (by decide +kernel) rfl rfl, can_ask (by decide +kernel) rfl rfl,
    verifying_sound, ringing_sound, isolated_sound, by decide +kernel⟩

theorem witness_RgeStores : regimeSound (on ringing [.verifyBypassedRemoval 63])
    ∧ (on ringing [.verifyBypassedRemoval 63]).takes (.verifyBypassedRemoval 63) = true
    ∧ regimeSound (on ringing [.reentryImpairedWrite 31 true])
    ∧ (on ringing [.reentryImpairedWrite 31 true]).takes (.reentryImpairedWrite 31 true) = true
    ∧ regimeSound (on ringing [.changeCounterIncrease (.port 5)])
    ∧ (on ringing [.changeCounterIncrease (.port 5)]).takes (.changeCounterIncrease (.port 5)) = true :=
  ⟨on_sound ringing_sound _, by decide +kernel, on_sound ringing_sound _, by decide +kernel, on_sound ringing_sound _,
    by decide +kernel⟩

theorem witness_AcknowledgeSilence : canAsk 0 .rge ringing ∧ regimeSound ringing ∧ canAsk 1 .rge acked ∧ regimeSound acked
    ∧ ringing.role 0 = .commandStation ∧ acked.role 1 = .firePanel
    ∧ ringing.rge.acknowledged = false ∧ acked.inAlarm = true ∧ acked.rge.acknowledged = true :=
  ⟨can_ask (by decide +kernel) rfl rfl, ringing_sound, can_ask (by decide +kernel) rfl rfl, acked_sound, by decide +kernel⟩

/-- Holdings set by the command station. -/
theorem witness_Resound : canAsk 1 .rge allHeld ∧ regimeSound allHeld ∧ allHeld.role 1 = .firePanel
    ∧ allHeld.rge.silence = some 2 ∧ (held ringing true (some 3) none none none).rge.silence = some 3
    ∧ regimeSound (held ringing true (some 3) none none none) ∧ canAsk 1 .rge (held ringing true (some 3) none none none)
    ∧ ringing.rge.silence = none ∧ canAsk 1 .rge ringing ∧ regimeSound ringing :=
  ⟨can_ask (by decide +kernel) rfl rfl, allHeld_sound, by decide +kernel, rfl, rfl,
    held_sound ringing_sound rfl ⟨levelFits_some (by decide), levelFits_none, levelFits_none, levelFits_none⟩,
    can_ask (by decide +kernel) rfl rfl, rfl, can_ask (by decide +kernel) rfl rfl, ringing_sound⟩

theorem witness_EvacuateAll : canAsk 0 .rge quiet ∧ regimeSound quiet ∧ quiet.role 0 = .commandStation
    ∧ canAsk 1 .rge allHeld ∧ regimeSound allHeld ∧ allHeld.role 1 = .firePanel :=
  ⟨can_ask (by decide +kernel) rfl rfl, quiet_sound, by decide +kernel, can_ask (by decide +kernel) rfl rfl, allHeld_sound,
    by decide +kernel⟩

theorem witness_Holdings : canAsk 0 .rge allHeld ∧ canAsk 1 .rge allHeld ∧ regimeSound allHeld
    ∧ allHeld.role 0 = .commandStation ∧ allHeld.role 1 = .firePanel
    ∧ allHeld.rge.evacuateAll = some 3 ∧ allHeld.rge.expansionHold = some 2
    ∧ canAsk 0 .rge quiet ∧ regimeSound quiet ∧ quiet.rge.evacuateAll = none ∧ quiet.inAlarm = false
    ∧ allHeld.inAlarm = true ∧ allHeld.rge.manual ≠ none ∧ acked.rge.manual = none ∧ regimeSound acked :=
  ⟨can_ask (by decide +kernel) rfl rfl, can_ask (by decide +kernel) rfl rfl, allHeld_sound, by decide +kernel,
    by decide +kernel, rfl, rfl, can_ask (by decide +kernel) rfl rfl, quiet_sound, rfl, rfl, rfl, by decide +kernel, rfl,
    acked_sound⟩

theorem witness_ManualControl : regimeSound allHeld ∧ canAsk 0 .rge allHeld ∧ allHeld.role 0 = .commandStation
    ∧ allHeld.rge.manual ≠ none ∧ regimeSound acked ∧ acked.rge.manual = none
    ∧ regimeSound (on allHeld [.rgeCommandStationLoss 0])
    ∧ (on allHeld [.rgeCommandStationLoss 0]).takes (.rgeCommandStationLoss 0) = true
    ∧ regimeSound (on acked [.rgeCommandStationLoss 0])
    ∧ (on acked [.rgeCommandStationLoss 0]).takes (.rgeCommandStationLoss 0) = true :=
  ⟨allHeld_sound, can_ask (by decide +kernel) rfl rfl, by decide +kernel, by decide +kernel, acked_sound, rfl,
    on_sound allHeld_sound _, by decide +kernel, on_sound acked_sound _, by decide +kernel⟩

theorem witness_SetFloorPhase : canAsk 0 .rge allHeld ∧ regimeSound allHeld ∧ allHeld.role 0 = .commandStation
    ∧ (4 : FloorId).val = (4 : Byte).toNat ∧ (4 : Byte).toNat ≤ allHeld.cfg.topFloor
    ∧ phaseRank .evacuate = (2 : Byte).toNat ∧ allHeld.rge.manual ≠ none
    ∧ phaseRank allHeld.rge.floors[(4 : FloorId)].phase < phaseRank .evacuate
    ∧ .evacuate = allHeld.rge.floors[(3 : FloorId)].phase
    ∧ allHeld.cfg.topFloor < (5 : Byte).toNat ∧ 2 < (3 : Byte).toNat :=
  ⟨can_ask (by decide +kernel) rfl rfl, allHeld_sound, by decide +kernel⟩

/-- ALARM held by EVACUATE ALL alone, its zones clear. -/
def cleared : State := rg allHeld fun r => { r with zones := r.zones.set 1 ⟨.alarm, .clear, 0, none⟩ }

theorem cleared_sound : regimeSound cleared := by
  refine ⟨?_, .inl rfl, ?_, ?_, ?_, levels (by decide), ?_, ?_, ?_, ?_⟩
  · unfold zonesCounted; decide +kernel
  · unfold timersMatchZones; decide +kernel
  · unfold prealarmConfirmed; decide +kernel
  · unfold holdingsOnlyInAlarm; decide +kernel
  · unfold expansionAllowed; decide +kernel
  · unfold quietOutsideAlarm; decide +kernel
  · unfold quietOutOfRange; decide +kernel
  · unfold originsEvacuated; decide +kernel

/-- The accepted reset by the command station, the refusal by level from a fire panel, and the two refusals by state. -/
theorem witness_RegimeReset : canAsk 0 .rge cleared ∧ canAsk 1 .rge cleared ∧ regimeSound cleared
    ∧ cleared.role 0 = .commandStation ∧ cleared.role 1 = .firePanel ∧ cleared.rge.regime ≠ .normal
    ∧ (¬ ∃ z : ZoneId, cleared.cfg.zones[z].configured = true ∧ cleared.rge.zones[z].state ≠ .isolated
        ∧ cleared.rge.zones[z].condition = .alarm)
    ∧ (∀ h ∈ [cleared.rge.silence, cleared.rge.evacuateAll, cleared.rge.expansionHold, cleared.rge.manual],
        ∀ l ∈ h, l ≤ 3)
    ∧ cleared.rge.evacuateAll = some 3
    ∧ canAsk 0 .rge verifying ∧ regimeSound verifying ∧ verifying.rge.regime = .prealarm
    ∧ canAsk 0 .rge quiet ∧ regimeSound quiet ∧ quiet.rge.regime = .normal :=
  ⟨can_ask (by decide +kernel) rfl rfl, can_ask (by decide +kernel) rfl rfl, cleared_sound, by decide +kernel,
    by decide +kernel, by decide +kernel, by decide +kernel, by decide +kernel, rfl, can_ask (by decide +kernel) rfl rfl,
    verifying_sound, rfl, can_ask (by decide +kernel) rfl rfl, quiet_sound, rfl⟩

theorem witness_Expansion : regimeSound { ringing with now := 120500 }
    ∧ { ringing with now := 120500 }.due ringing.rge.expansionTimer = true := ⟨ringing_sound, by decide +kernel⟩

/-- The oldest delivery of its route can be taken. -/
def takesIt (s : State) (e : Instr) : Prop := (on s [e]).takes e = true

theorem takes_only (s : State) (e : Instr) : takesIt s e := by simp [takesIt, on, State.takes]

/-! ### Lifts -/

/-- Zone 2 (lobby), zone 3 (shaft) and zone 4 (sprinkler) in ALARM; both cars fresh and parked. -/
def lifted : State :=
  { ringing with
    rge := { ringing.rge with
      zones := ((ringing.rge.zones.set 2 ⟨.alarm, .alarm, 0, none⟩).set 3 ⟨.alarm, .alarm, 0, none⟩).set 4
        ⟨.alarm, .alarm, 0, none⟩ }
    lfc := { ringing.lfc with
      cars := (ringing.lfc.cars.set 0 ⟨1, .stopped, .openDoors, .atRecallLanding, false⟩).set
        1 ⟨4, .stopped, .closed, .outOfService, false⟩ } }

theorem witness_ZoneAlarm : takesIt lifted (.lfcZoneAlarm 2) ∧ takesIt lifted (.lfcZoneAlarm 3)
    ∧ takesIt lifted (.lfcZoneAlarm 4) ∧ takesIt lifted (.lfcZoneAlarm 1)
    ∧ lifted.cfg.banks[(0 : BankId)].configured = true ∧ lifted.cfg.zones[(2 : ZoneId)].flagA = true
    ∧ lifted.cfg.zones[(2 : ZoneId)].kind = .lobbyDetector ∧ lifted.cfg.zones[(3 : ZoneId)].kind = .shaftDetector
    ∧ lifted.cfg.zones[(4 : ZoneId)].kind = .shaftSprinkler ∧ lifted.bankParked 0 = true ∧ lifted.inAlarm = true :=
  ⟨takes_only _ _, takes_only _ _, takes_only _ _, takes_only _ _, by decide +kernel⟩

theorem witness_AlarmEntryRecalls : takesIt ringing .lfcAlarmEntry ∧ ringing.cfg.banks[(0 : BankId)].configured = true
    ∧ ringing.cfg.banks[(0 : BankId)].recallOnGeneral = true ∧ ringing.cfg.banks[(1 : BankId)].configured = false :=
  ⟨takes_only _ _, by decide +kernel⟩

/-- Bank A in SHUTDOWN with its lamp flashing, its timer at the present. -/
def shutting (s : State) : State :=
  { s with lfc := { s.lfc with
    banks := s.lfc.banks.set 0 ⟨.shutdown, .alternate, true, true, ⟨true, false, true, false, false⟩, some s.now, .present,
      true, some s.now⟩ } }

theorem witness_Banks : takesIt (shutting quiet) .lfcRegimeReset ∧ takesIt (shutting lifted) (.lfcPresenceChange 2 .lost)
    ∧ (shutting lifted).role 2 = .liftGroup ∧ (shutting lifted).cfg.ports[(2 : PortId)].bank = some 0
    ∧ (shutting lifted).cfg.banks[(0 : BankId)].configured = true
    ∧ (shutting lifted).due (shutting lifted).lfc.banks[(0 : BankId)].timer = true
    ∧ (shutting quiet).due (shutting quiet).lfc.banks[(0 : BankId)].timer = true
    ∧ (shutting lifted).lfc.banks[(0 : BankId)].lampNext = some 1000 ∧ (1000 : Nat) ≤ (shutting lifted).now :=
  ⟨takes_only _ _, takes_only _ _, by decide +kernel⟩

theorem witness_CarReport : canAsk 2 .lfc (shutting lifted) ∧ (shutting lifted).role 2 = .liftGroup
    ∧ (shutting lifted).cfg.ports[(2 : PortId)].bank = some 0 ∧ (shutting lifted).cfg.banks[(0 : BankId)].configured = true
    ∧ (shutting lifted).cfg.banks[(0 : BankId)].cars ≤ 6
    ∧ (shutting lifted).cfg.banks[(0 : BankId)].lowest ≤ (shutting lifted).cfg.banks[(0 : BankId)].highest
    ∧ ([] : List Byte).length % 5 = 0 ∧ (List.replicate 55 (0 : Byte)).length % 5 = 0
    ∧ (List.replicate 55 (0 : Byte)).length ≤ 55 :=
  ⟨can_ask (by decide +kernel) rfl rfl, by decide +kernel⟩

theorem witness_LiftCommands : canAsk 0 .lfc (shutting lifted) ∧ (shutting lifted).role 0 = .commandStation
    ∧ (0 : BankId).val = (0 : Byte).toNat ∧ (shutting lifted).cfg.banks[(0 : BankId)].configured = true
    ∧ (1 : BankId).val = (1 : Byte).toNat ∧ (shutting lifted).cfg.banks[(1 : BankId)].configured = false :=
  ⟨can_ask (by decide +kernel) rfl rfl, by decide +kernel⟩

/-! ### Doors -/

theorem witness_Phases : takesIt ringing (.dsqPhaseChange [(2, .evacuate), (3, .evacuate)]) ∧ ringing.inAlarm = true
    ∧ takesIt quiet (.dsqPhaseChange [(2, .evacuate)]) ∧ quiet.inAlarm = false
    ∧ takesIt ringing (.dsqListAppend 31) ∧ takesIt quiet (.dsqListAppend 0) ∧ queuesInOrder ringing ∧ queuesInOrder quiet :=
  ⟨takes_only _ _, rfl, takes_only _ _, rfl, takes_only _ _, takes_only _ _, ringing_queues, quiet_queues⟩

theorem witness_ReleaseAll : canAsk 0 .dsq ringing ∧ ringing.role 0 = .commandStation ∧ ringing.inAlarm = true
    ∧ canAsk 0 .dsq quiet ∧ quiet.role 0 = .commandStation ∧ quiet.inAlarm = false
    ∧ queuesInOrder ringing ∧ queuesInOrder quiet :=
  ⟨can_ask (by decide +kernel) rfl rfl, by decide +kernel, rfl, can_ask (by decide +kernel) rfl rfl, by decide +kernel, rfl,
    ringing_queues, quiet_queues⟩

theorem witness_Pacing : waiting.due waiting.dsq.groups[(0 : GroupId)].pacing = true
    ∧ waiting.dsq.groups[(0 : GroupId)].zeroGap = true ∧ waiting.dsq.groups[(0 : GroupId)].takeover = .owned
    ∧ waiting.dsq.groups[(0 : GroupId)].queue ≠ [] ∧ waiting.inAlarm = true ∧ queuesInOrder waiting := by
  refine ⟨by decide +kernel, by decide +kernel, by decide +kernel, by decide +kernel, by decide +kernel, waiting_queues⟩

theorem witness_Strikes :
    ((door (.ramp 1000) id ringing).dsq.doors[(0 : DoorId)] = .ramp 1000 ∧ 1000 ≤ (door (.ramp 1000) id ringing).now
        ∧ ringing.cfg.doors[(0 : DoorId)].group = (0 : GroupId).val
        ∧ ringing.cfg.doors[(0 : DoorId)].feedback = some (1 : LoopId).val)
      ∧ ((door (.ramp 1000) (fun g => { g with takeover := .handingOver, request := true }) ringing).dsq.groups[
          (0 : GroupId)].takeover = .handingOver)
      ∧ ((door (.verify 1000) id ringing).dsq.doors[(0 : DoorId)] = .verify 1000 ∧ 1000 ≤ ringing.now
        ∧ ringing.isStrike 0 = true ∧ ringing.cfg.doors[(0 : DoorId)].floor = (2 : FloorId).val) := by decide +kernel

theorem witness_Feedback : takesIt (door .failed id ringing) (.dsqFeedbackBand 1 .normal)
    ∧ takesIt (door .released id ringing) (.dsqFeedbackBand 1 .alarm) ∧ ringing.isStrike 0 = true
    ∧ ringing.cfg.doors[(0 : DoorId)].feedback = some (1 : LoopId).val :=
  ⟨takes_only _ _, takes_only _ _, by decide +kernel⟩

theorem witness_DoorsReset :
    takesIt (door .failed (fun g => { g with takeover := .handingOver, limited := true }) quiet) .dsqRegimeReset
      ∧ quiet.isStrike 0 = true ∧ quiet.cfg.doors[(0 : DoorId)].floor = (2 : FloorId).val :=
  ⟨takes_only _ _, by decide +kernel⟩

theorem witness_Takeover : quiet.configFault = false ∧ quiet.dsq.groups[(0 : GroupId)].request = false
    ∧ quiet.dsq.groups[(0 : GroupId)].takeover = .owned ∧ quiet.anyRamp 0 = false
    ∧ (door (.ramp 1050) id ringing).anyRamp 0 = true
    ∧ (door .queued (fun g => { g with takeover := .taken, request := true }) ringing).dsq.groups[(0 : GroupId)].request = true
    := by decide +kernel

/-! ### Cues and channels -/

theorem witness_FireSlots : takesIt ringing .cueAlarmEntry ∧ takesIt quiet .cueRegimeReset ∧ takesIt ringing .cueSilenceChange
    ∧ takesIt ringing (.cuePhaseChange [(2, .evacuate)]) ∧ ringing.speakerConfigured 2 = true
    ∧ ringing.speakerConfigured 32 = true ∧ ringing.speakerConfigured 5 = false
    ∧ ringing.rge.floors[(2 : FloorId)].phase = .evacuate ∧ ringing.cfg.floors[(2 : FloorId)].evacuateCue = some 1
    ∧ ringing.rge.floors[(4 : FloorId)].phase = .alert ∧ ringing.cfg.floors[(4 : FloorId)].alertCue = some 0 :=
  ⟨takes_only _ _, takes_only _ _, takes_only _ _, takes_only _ _, by decide +kernel⟩

theorem witness_SlotWrites : takesIt quiet (.liveSlotWrite 0 (.put .liveC)) ∧ takesIt quiet (.liveSlotWrite 0 (.put .liveP))
    ∧ takesIt quiet (.liveSlotWrite 35 (.erase .liveP)) ∧ takesIt quiet (.tenantSlotWrite 0 (.put 255 95))
    ∧ takesIt quiet (.tenantSlotWrite 35 (.erase 0)) :=
  ⟨takes_only _ _, takes_only _ _, takes_only _ _, takes_only _ _, takes_only _ _⟩

/-- Zones 1 to 3 demand cue 1 as an evacuation message. -/
def calling : State :=
  { ringing with cue := { ringing.cue with
    zones := ((ringing.cue.zones.set 1 ⟨some ⟨1, .evac, 900, false⟩, none, none⟩).set
      2 ⟨some ⟨1, .evac, 900, false⟩, none, none⟩).set 3 ⟨some ⟨1, .evac, 900, false⟩, none, none⟩ } }

/-- A channel as `f` leaves it. -/
def channel (c : ChannelId) (f : ChannelRec → ChannelRec) (s : State) : State :=
  { s with chr := { s.chr with channels := modifyRow s.chr.channels c f } }

/-- Every channel plays a message of the ticket of its number. -/
def busy : State :=
  { calling with chr := { calling.chr with
    channels := Vector.ofFn fun c : Fin 4 =>
      ⟨.playing, some ⟨⟨.tenant c.val 0, 0⟩, 500 + c.val⟩, true, none, none, [], [], false, [], false, some 1000, [],
        .silence⟩ } }

/-- Channel 0 plays cue 1 to zone 1, zones 2 and 3 demand it too, and another programme waits. -/
def joining : State :=
  channel 0 (fun r => { r with
    state := .playing, grant := some ⟨⟨.fire 1 .evac, 900⟩, 950⟩, begun := true, zoneSet := [1], boundary := some 1050 })
    { calling with chr := { calling.chr with waiting := [⟨.fire 0 .alert, 700⟩] } }

theorem witness_Changed : takesIt joining (.programmeHanded (.fire 1 .evac) .changed 900)
    ∧ joining.chr.channels[(0 : ChannelId)].grant = some ⟨⟨.fire 1 .evac, 900⟩, 950⟩
    ∧ joining.holder (.fire 1 .evac) = some 0 ∧ joining.demandSet (.fire 1 .evac) = [1, 2, 3]
    ∧ earliestInstant joining (.fire 1 .evac) 900
    ∧ takesIt joining (.programmeHanded (.fire 0 .alert) .changed 650) ∧ joining.holder (.fire 0 .alert) = none
    ∧ joining.demandSet (.fire 0 .alert) = [] := by
  have h : ∀ z, (zoneHears joining z).all (fun x => x.1 != .fire 1 .evac || x.2 == 900) = true := by decide +kernel
  refine ⟨takes_only _ _, by decide +kernel, by decide +kernel, by decide +kernel, ⟨⟨1, by decide +kernel⟩, fun z j hj => ?_⟩,
    takes_only _ _, by decide +kernel, by decide +kernel⟩
  have := h z
  simp_all

/-- STANDBY channels only; a READY one; a WAKING one; and all taken by tenants, the last granted being the victim. -/
theorem witness_Granted :
    takesIt calling (.programmeHanded (.fire 1 .evac) .formed 900) ∧ calling.chr.waiting = []
      ∧ calling.holder (.fire 1 .evac) = none ∧ (∀ k q, Demand.fire 1 .evac ≠ .tenant k q)
      ∧ (∀ src, Demand.fire 1 .evac = .live src → (calling.source src).live = true)
      ∧ calling.chr.channels[(0 : ChannelId)].state = .standby
      ∧ (channel 3 (fun r => { r with state := .ready }) calling).chr.channels[(3 : ChannelId)].state = .ready
      ∧ (channel 3 (fun r => { r with state := .waking, warmUp := some 1100 }) calling).chr.channels[(3 : ChannelId)].grant
          = none
      ∧ takesIt busy (.programmeHanded (.fire 1 .evac) .formed 900) ∧ busy.holder (.fire 1 .evac) = none
      ∧ isVictim busy 3 ⟨⟨.tenant 3 0, 0⟩, 503⟩ ∧ demandPriority (.fire 1 .evac) < demandPriority (.tenant 3 0) := by
  refine ⟨takes_only _ _, rfl, by decide +kernel, nofun, nofun, by decide +kernel,
    by decide +kernel, by decide +kernel, takes_only _ _, by decide +kernel, ⟨by decide +kernel, ?_⟩, by decide +kernel⟩
  intro k h hk hg
  revert k
  intro k
  match k with
  | 0 => intro _ hg; cases (show some _ = some h from hg); decide
  | 1 => intro _ hg; cases (show some _ = some h from hg); decide
  | 2 => intro _ hg; cases (show some _ = some h from hg); decide
  | 3 => intro hk; exact absurd rfl hk

theorem witness_ProgrammesEnd : takesIt busy (.programmeHanded (.tenant 0 0) .ended 900)
    ∧ (∀ p ∈ busy.chr.waiting, p.demand = .tenant 0 0) ∧ busy.holder (.tenant 0 0) = some 0
    ∧ takesIt busy (.programmeHanded (.fire 0 .alert) .ended 900) ∧ busy.holder (.fire 0 .alert) = none
    ∧ (∀ c : ChannelId, calling.chr.channels[c].state = .standby) ∧ takesIt busy (.tenantProgrammeHanded 9 0 900) ∧ (∀ c : ChannelId, busy.chr.channels[c].free = false)
    ∧ takesIt calling (.tenantProgrammeHanded 9 0 900) ∧ calling.chr.channels[(0 : ChannelId)].free = true :=
  ⟨takes_only _ _, nofun, by decide +kernel, takes_only _ _, by decide +kernel, by decide +kernel, takes_only _ _,
    by decide +kernel, takes_only _ _, by decide +kernel⟩

theorem witness_IdlingMonitor : takesIt ringing .chrAlarmEntry ∧ takesIt quiet .chrRegimeReset ∧ takesIt ringing (.chrListAppend 2)
    ∧ canAsk 0 .chr ringing ∧ ringing.role 0 = .commandStation ∧ 2 < (3 : Byte).toNat ∧ 3 < (4 : Byte).toNat
    ∧ (3 : ChannelId).val = (3 : Byte).toNat :=
  ⟨takes_only _ _, takes_only _ _, takes_only _ _, can_ask (by decide +kernel) rfl rfl, by decide +kernel⟩

/-- Channel 0 WAKING for a programme, channel 1 WAKING without one, channel 2 idling, all at the end of their timers. -/
def warm : State :=
  channel 0 (fun r => { r with state := .waking, grant := some ⟨⟨.fire 1 .evac, 900⟩, 950⟩, warmUp := some 1000 })
    (channel 1 (fun r => { r with state := .waking, warmUp := some 1000 })
      (channel 2 (fun r => { r with state := .ready, idle := some 1000 }) calling))

theorem witness_ChannelTimers : warm.due warm.chr.channels[(0 : ChannelId)].warmUp = true
    ∧ warm.chr.channels[(0 : ChannelId)].grant = some ⟨⟨.fire 1 .evac, 900⟩, 950⟩
    ∧ warm.due warm.chr.channels[(1 : ChannelId)].warmUp = true ∧ warm.chr.channels[(1 : ChannelId)].grant = none
    ∧ warm.chr.waiting = [] ∧ warm.due warm.chr.channels[(2 : ChannelId)].idle = true
    ∧ takesIt warm (.underrunRemoval 3) :=
  ⟨by decide +kernel, by decide +kernel, by decide +kernel, by decide +kernel, rfl, by decide +kernel, takes_only _ _⟩

/-- Channel 0 at a block boundary of a chain at `k`, with slots `xs`. -/
def atBoundary (d : Demand) (k : Option Chain) (xs : List Slot) : State :=
  let s := channel 0 (fun r => { r with
    state := .playing, grant := some ⟨⟨d, 900⟩, 950⟩, begun := true, zoneSet := [1, 2, 3], slots := xs, headInPlay := true
    boundary := some 1000 }) calling
  { s with cue := { s.cue with chains := s.cue.chains.set 0 k } }

/-- The parts of `areasSound` for a channel while nothing is being read, to be evaluated. -/
def areaFine (s : State) (c : ChannelId) : Bool :=
  let r := s.chr.channels[c]
  decide (r.slots.length ≤ s.areaSize (.channel c)) && (r.grant.isSome || (r.slots.isEmpty && !r.begun))
    && (r.grant.all fun g => (r.state == .waking || r.state == .playing) && ((startCue g.prog.demand).isSome || r.slots.isEmpty))
    && (!r.begun || r.state == .playing) && (r.begun || (!r.headInPlay && s.cue.chains[c].isNone))
    && ((r.begun && s.cue.chains[c].isNone)
      || (r.slots.map (·.block)).isPrefixOf (s.readOrder c (s.areaSize (.channel c))))
    && (!r.headInPlay || (r.slots.head?.any fun x => x.status != .filling))
    && (!r.headInPlay || s.cue.chains[c].all fun k => match k.pos with
        | .segment _ => true
        | .gap _ => false)
    && (r.slots.all fun x => x.status != .filling) && (r.idle.isNone || r.state == .ready)
    && (r.warmUp.isNone || r.state == .waking)

theorem areas_fine {s : State} (hr : s.chr.reading = none) (h : ∀ c, areaFine s c = true) : areasSound s := by
  intro c
  have h := h c
  simp only [areaFine, Bool.and_eq_true, decide_eq_true_eq] at h
  obtain ⟨⟨⟨⟨⟨⟨⟨⟨⟨⟨h1, h2⟩, h3⟩, h4⟩, h5⟩, h6⟩, h7⟩, h8⟩, h9⟩, h10⟩, h11⟩ := h
  dsimp only
  generalize s.chr.channels[c] = r at *
  generalize s.cue.chains[c] = chain at *
  refine ⟨h1, fun h => ?_, fun g h => ?_, fun h => ?_, fun h => ?_, fun h => ?_, fun h => ?_, fun k h e => ?_, fun x hx e => ?_,
    fun f e => ?_, fun h => ?_, fun h => ?_⟩
  · simpa [h] using h2
  · have h3 := (Option.all_eq_true _ _).1 h3 g h
    simp only [Bool.and_eq_true, Bool.or_eq_true, beq_iff_eq, List.isEmpty_iff] at h3
    exact ⟨h3.1, fun e => h3.2.resolve_left (by simp [e])⟩
  · simpa [h] using h4
  · simpa [h] using h5
  · rw [Bool.or_eq_true] at h6
    refine List.isPrefixOf_iff_prefix.1 (h6.resolve_left fun k => ?_)
    simp only [Bool.and_eq_true, Option.isNone_iff_eq_none] at k
    rcases h with h | h
    · simp [h] at k
    · exact h k.2
  · simp only [h, Bool.not_true, Bool.false_or] at h7
    cases hs : r.slots with
    | nil => simp [hs] at h7
    | cons x rest => exact ⟨x, rest, rfl, by simpa [hs] using h7⟩
  · simp only [h, e, Bool.not_true, Bool.false_or, Option.all_some] at h8
    cases hk : k.pos with
    | segment i => exact ⟨i, rfl⟩
    | gap j => simp [hk] at h8
  · have := List.all_eq_true.1 h9 x hx
    simp [e] at this
  · rw [hr] at e; cases e
  · exact (Bool.or_eq_true _ _ ▸ h10).elim (fun k => absurd (Option.isNone_iff_eq_none.1 k) h) beq_iff_eq.1
  · exact (Bool.or_eq_true _ _ ▸ h11).elim (fun k => absurd (Option.isNone_iff_eq_none.1 k) h) beq_iff_eq.1

/-- Channel 0 in the second block of cue 1 (its last), with `xs` behind it. -/
def inSegment (xs : List Slot) : State :=
  atBoundary (.fire 1 .evac) (some ⟨1, none, .segment 0, 936⟩) (⟨8, .complete⟩ :: xs)

/-- The second block of the segment, complete, failed and not there; then the gap; then the next repetition. -/
theorem witness_Boundary :
    (∀ xs ∈ [[], [⟨9, .complete⟩], [⟨9, .faulted⟩]],
      areasSound (inSegment xs) ∧ (inSegment xs).chr.channels[(0 : ChannelId)].boundary = some 1000 ∧ 1000 ≤ (inSegment xs).now
        ∧ (inSegment xs).chr.channels[(0 : ChannelId)].grant = some ⟨⟨.fire 1 .evac, 900⟩, 950⟩
        ∧ (inSegment xs).cue.chains[(0 : ChannelId)] = some ⟨1, none, .segment 0, 936⟩)
      ∧ (∀ src, Demand.fire 1 .evac ≠ .live src)
      ∧ movesWithin quiet ⟨1, none, .segment 0, 936⟩ ⟨1, none, .segment 1, 936⟩
      ∧ (let s := atBoundary (.fire 1 .evac) (some ⟨1, none, .segment 1, 936⟩) [⟨9, .complete⟩, ⟨8, .complete⟩]
         areasSound s ∧ s.cue.chains[(0 : ChannelId)] = some ⟨1, none, .segment 1, 936⟩
           ∧ movesWithin s ⟨1, none, .segment 1, 936⟩ ⟨1, none, .gap 0, 936⟩
           ∧ movesWithin s ⟨1, none, .gap 0, 936⟩ ⟨1, none, .segment 0, 936⟩) := by
  refine ⟨fun xs hx => ⟨areas_fine rfl ?_, ?_⟩, nofun, .inl ⟨0, rfl, by decide +kernel, rfl⟩, areas_fine rfl (by decide +kernel),
    by decide +kernel, .inr (.inl ⟨1, rfl, by decide +kernel, by decide +kernel, rfl⟩),
    .inr (.inr (.inr (.inl ⟨?_, rfl, rfl⟩)))⟩
  · revert xs
    decide +kernel
  · revert xs
    decide +kernel
  · unfold repetitionEnds
    decide +kernel

/-- Cue 3 ends in its second of two repetitions, with both candidates of its link read. -/
def linking : State :=
  atBoundary (.fire 3 .evac) (some ⟨3, some 1, .segment 0, 936⟩) [⟨17, .complete⟩, ⟨0, .complete⟩, ⟨8, .complete⟩]

theorem cue3_over : cueIsOver quiet ⟨3, some 1, .segment 0, 936⟩ := by
  refine ⟨?_, 1, rfl, by decide⟩
  unfold repetitionEnds
  decide +kernel

/-- A link by a condition: silence is absent, so cue 0 is next. -/
theorem witness_Link : areasSound linking ∧ linking.chr.channels[(0 : ChannelId)].boundary = some 1000 ∧ 1000 ≤ linking.now
    ∧ linking.chr.channels[(0 : ChannelId)].grant = some ⟨⟨.fire 3 .evac, 900⟩, 950⟩
    ∧ linking.cue.chains[(0 : ChannelId)] = some ⟨3, some 1, .segment 0, 936⟩
    ∧ cueIsOver linking ⟨3, some 1, .segment 0, 936⟩ ∧ linking.linkTrue 0 (linking.cueAt 3).condition = true
    ∧ (linking.cueAt 3).nextTrue = some 0 ∧ (linking.cueAt 3).condition ≠ .always
    ∧ startOf linking 0 936 = ⟨0, some 1, .segment 0, 936⟩ :=
  ⟨areas_fine rfl (by decide +kernel), by decide +kernel, by decide +kernel, by decide +kernel, by decide +kernel, cue3_over,
    by decide +kernel, by decide +kernel, by decide +kernel, by decide +kernel⟩

/-- The read-ahead order: within a segment, over a gap, at an end without and with a link, by ALWAYS and by a condition, and of a
programme that has begun and one that has not. -/
theorem witness_ReadAhead :
    movesWithin quiet ⟨1, none, .segment 1, 936⟩ ⟨1, none, .gap 0, 936⟩
      ∧ movesWithin quiet ⟨1, none, .segment 0, 936⟩ ⟨1, none, .segment 1, 936⟩
      ∧ cueIsOver quiet ⟨0, some 1, .segment 1, 936⟩ ∧ (quiet.cueAt 0).condition = .always ∧ (quiet.cueAt 0).nextTrue = none
      ∧ cueIsOver quiet ⟨2, some 1, .segment 0, 936⟩ ∧ (quiet.cueAt 2).condition = .always ∧ (quiet.cueAt 2).nextTrue = some 0
      ∧ cueIsOver quiet ⟨3, some 1, .segment 0, 936⟩ ∧ (quiet.cueAt 3).condition ≠ .always
      ∧ linking.chr.channels[(0 : ChannelId)].begun = true ∧ linking.cue.chains[(0 : ChannelId)] = some ⟨3, some 1, .segment 0, 936⟩
      ∧ linking.chr.channels[(0 : ChannelId)].headInPlay = true ∧ linking.readOrder 0 4 = [17, 0, 8]
      ∧ warm.chr.channels[(0 : ChannelId)].begun = false ∧ startCue (.fire 1 .evac) = some 1 := by
  refine ⟨.inr (.inl ⟨1, rfl, by decide +kernel, by decide +kernel, rfl⟩), .inl ⟨0, rfl, by decide +kernel, rfl⟩, ⟨?_, 1, rfl, by decide⟩,
    by decide +kernel, by decide +kernel, ⟨?_, 1, rfl, by decide⟩, by decide +kernel, by decide +kernel, cue3_over, by decide +kernel⟩
  · unfold repetitionEnds
    decide +kernel
  · unfold repetitionEnds
    decide +kernel

theorem witness_StepKeepsReadAhead : areasSound linking ∧ ∃ t, step { linking with pending := [.blockBoundary 0] } = .next t :=
  ⟨areas_fine rfl (by decide +kernel), _, rfl⟩

/-- The end of the message of cue 0, which is played once without a gap and links to nothing: a fire programme with a zone left in
its demand, and a tenant's. -/
theorem witness_ChainEnd :
    (let s := atBoundary (.fire 0 .evac) (some ⟨0, some 1, .segment 1, 936⟩) [⟨1, .complete⟩]
     s.chr.channels[(0 : ChannelId)].boundary = some 1000 ∧ 1000 ≤ s.now
       ∧ s.chr.channels[(0 : ChannelId)].grant = some ⟨⟨.fire 0 .evac, 900⟩, 950⟩
       ∧ s.cue.chains[(0 : ChannelId)] = some ⟨0, some 1, .segment 1, 936⟩
       ∧ cueIsOver s ⟨0, some 1, .segment 1, 936⟩
       ∧ (if s.linkTrue 0 (s.cueAt 0).condition then (s.cueAt 0).nextTrue else (s.cueAt 0).nextFalse) = none)
      ∧ (let s := atBoundary (.tenant 7 0) (some ⟨0, some 1, .segment 1, 936⟩) [⟨1, .complete⟩]
         s.chr.channels[(0 : ChannelId)].boundary = some 1000 ∧ 1000 ≤ s.now
           ∧ s.chr.channels[(0 : ChannelId)].grant = some ⟨⟨.tenant 7 0, 900⟩, 950⟩
           ∧ s.cue.chains[(0 : ChannelId)] = some ⟨0, some 1, .segment 1, 936⟩)
      ∧ (∀ src, Demand.fire 0 .evac ≠ .live src) ∧ ∀ src, Demand.tenant 7 0 ≠ .live src := by
  refine ⟨⟨by decide +kernel, by decide +kernel, by decide +kernel, by decide +kernel, ⟨?_, 1, rfl, by decide⟩, by decide +kernel⟩,
    by decide +kernel, nofun, nofun⟩
  unfold repetitionEnds
  decide +kernel

/-- A read for channel 0 is in progress. -/
def reading (discarded : Bool) : State :=
  let s := channel 0 (fun r => { r with
    state := .playing, grant := some ⟨⟨.fire 1 .evac, 900⟩, 950⟩, slots := [⟨8, .filling⟩] }) calling
  { s with chr := { s.chr with reading := some ⟨0, 996, discarded⟩ } }

/-- LIVE-C is LIVE and has channel 1. -/
def talking : State :=
  let s := channel 1 (fun r => { r with
    state := .playing, grant := some ⟨⟨.live .liveC, 900⟩, 950⟩, begun := true, boundary := some 1000 }) quiet
  { s with chr := { s.chr with liveC := ⟨true, [0, 4], 900, 1, 1000⟩ } }

theorem witness_Blocks : (reading false).chr.reading = some ⟨0, 996, false⟩ ∧ (reading true).chr.reading = some ⟨0, 996, true⟩
    ∧ (reading false).now ≤ 996 + 8 ∧ { reading false with now := 1004 }.now ≤ 996 + 8
    ∧ (talking.source .liveC).live = true ∧ (talking.source .liveC).nextBlock ≤ talking.now
    ∧ talking.chr.channels[(1 : ChannelId)].boundary = some 1000 ∧ 1000 ≤ talking.now
    ∧ talking.chr.channels[(1 : ChannelId)].grant = some ⟨⟨.live .liveC, 900⟩, 950⟩
    ∧ talking.chr.channels[(1 : ChannelId)].livePlayed = [] ∧ (talking.source .liveC).blocks = 1 := by decide +kernel

theorem witness_LiveSources : canAsk 0 .chr quiet ∧ [(1 : Byte), 0, 0, 0, 0].length = 5 ∧ quiet.role 0 = .commandStation
    ∧ canAsk 3 .chr quiet ∧ quiet.role 3 = .pagingConsole ∧ canAsk 0 .chr talking ∧ talking.role 0 = .commandStation
    ∧ (talking.source .liveC).live = true ∧ takesIt talking (.chrPortLoss 0) ∧ talking.chr.waiting = []
    ∧ talking.holder (.live .liveC) = some 1 ∧ quiet.chr.liveP.live = false ∧ takesIt quiet (.chrPortLoss 3)
    ∧ quiet.holder (.live .liveP) = none :=
  ⟨can_ask (by decide +kernel) rfl rfl, rfl, by decide +kernel, can_ask (by decide +kernel) rfl rfl, by decide +kernel,
    can_ask (by decide +kernel) rfl rfl, by decide +kernel, rfl, takes_only _ _, rfl, by decide +kernel, rfl, takes_only _ _,
    by decide +kernel⟩

/-! ### Tenants, troubles, ports -/

/-- Entry 7 waits with its aging timer at its end, entry 8 plays. -/
def tenants (s : State) : State :=
  { s with tnq := ⟨[⟨7, 0, [4], 500, some 1000, none⟩], [⟨8, 0, [0], 600, none, some 700⟩], 0, 0, 9⟩ }

/-- A full queue, none of it due to age, beside entry 12, which plays. -/
def fullQueue (s : State) : State :=
  { s with tnq := ⟨(List.range 12).map fun n => ⟨n, 0, [4], 500, some 90000, none⟩, [⟨12, 0, [0], 400, none, some 700⟩], 0, 0, 13⟩ }

theorem witness_FullQueue : canAsk 0 .tnq (fullQueue quiet) ∧ (fullQueue quiet).role 0 = .commandStation
    ∧ (fullQueue quiet).tnq.queue.length + (fullQueue quiet).tnq.playing.length < 256
    ∧ 12 ≤ (fullQueue quiet).tnq.queue.length ∧ (fullQueue quiet).inAlarm = false
    ∧ (∃ k : Fin 96, k.val = (0 : Byte).toNat ∧ (fullQueue quiet).cfg.cues[k].configured = true)
    ∧ takesIt (fullQueue quiet) (.tenantRefusal 12) ∧ (∀ x ∈ (fullQueue quiet).tnq.queue, x.ticket ≠ 12)
    ∧ ((fullQueue quiet).tnq.playing.find? fun x => decide (x.ticket = 12)) = some ⟨12, 0, [0], 400, none, some 700⟩
    ∧ 400 + (fullQueue { quiet with now := 900000 }).cfg.tAge * 1000 ≤ 900000 ∧ quiet.now < 600 + quiet.cfg.tAge * 1000 :=
  ⟨can_ask (by decide +kernel) rfl rfl, by decide +kernel, by decide +kernel, by decide +kernel, rfl, ⟨0, by decide +kernel⟩,
    takes_only _ _, by decide +kernel⟩

theorem witness_TenantRequests : canAsk 0 .tnq (tenants quiet) ∧ (tenants quiet).role 0 = .commandStation
    ∧ canAsk 3 .tnq (tenants ringing) ∧ (tenants ringing).role 3 = .pagingConsole
    ∧ (tenants quiet).tnq.queue.length + (tenants quiet).tnq.playing.length < 256 ∧ [(1 : Byte), 0, 0, 0, 0].length = 5
    ∧ (∃ e ∈ (tenants quiet).tnq.queue, e.ticket = (7 : Byte).toNat)
    ∧ ((tenants quiet).tnq.playing.find? fun x => decide (x.ticket = (8 : Byte).toNat)) = some ⟨8, 0, [0], 600, none, some 700⟩
    ∧ (∀ x ∈ (tenants quiet).tnq.queue, x.ticket ≠ (8 : Byte).toNat) :=
  ⟨can_ask (by decide +kernel) rfl rfl, by decide +kernel, can_ask (by decide +kernel) rfl rfl, by decide +kernel⟩

theorem witness_TenantEnds : takesIt (tenants quiet) (.tenantCompletion 8) ∧ takesIt (tenants quiet) (.tenantPreEmption 8)
    ∧ takesIt (tenants quiet) (.tenantProgrammeEmptied 9) ∧ takesIt (tenants quiet) (.tenantRefusal 8)
    ∧ ((tenants quiet).tnq.playing.find? fun x => decide (x.ticket = 8)) = some ⟨8, 0, [0], 600, none, some 700⟩
    ∧ (∀ x ∈ (tenants quiet).tnq.queue, x.ticket ≠ 8) ∧ (∀ e ∈ (tenants quiet).tnq.playing, e.ticket ≠ 9)
    ∧ ((tenants quiet).tnq.queue.find? fun x => decide (x.ticket = 7)) = some ⟨7, 0, [4], 500, some 1000, none⟩
    ∧ 1000 ≤ (tenants quiet).now ∧ takesIt (tenants ringing) .tnqAlarmFlush ∧ takesIt (tenants quiet) .tnqChannelFree :=
  ⟨takes_only _ _, takes_only _ _, takes_only _ _, takes_only _ _, by decide +kernel, by decide +kernel, by decide +kernel,
    by decide +kernel, by decide +kernel, takes_only _ _, takes_only _ _⟩

/-- Two troubles: a cleared latching one and a standing one. -/
def troubled : State :=
  { quiet with trl := ⟨[⟨.channelUnderrun, 3, 800, false, false⟩, ⟨.zoneFault, 0, 900, true, false⟩], 2⟩ }

theorem witness_Raises : troublesFit troubled ∧ takesIt troubled (.troubleRaise .zoneFault 63)
    ∧ takesIt troubled (.troubleClear .channelUnderrun 3) ∧ takesIt troubled (.troubleClear .zoneFault 0)
    ∧ takesIt troubled .trlAcknowledge :=
  ⟨by unfold troublesFit; decide +kernel, takes_only _ _, takes_only _ _, takes_only _ _, takes_only _ _⟩

/-- A port as `f` leaves it. -/
def port (p : PortId) (f : PortRec → PortRec) (s : State) : State :=
  { s with links := { s.links with ports := modifyRow s.links.ports p f } }

theorem witness_SilentParties :
    (let s := port 1 (fun r => { r with presence := .present, supervision := some 1000 }) quiet
     s.due s.links.ports[(1 : PortId)].supervision = true)
      ∧ (let s := { quiet with links := { quiet.links with grace := some 1000 } }
         s.due s.links.grace = true ∧ s.role 0 ≠ .unused ∧ s.links.ports[(0 : PortId)].presence = .absent
           ∧ s.role 5 = .unused) := by decide +kernel

theorem witness_PollRead : State.reset.hears 5 = true ∧ State.reset.configFault = true ∧ quiet.hears 0 = true
    ∧ quiet.configFault = false ∧ (0 : Byte).toNat = 0 ∧ 11 < (12 : Byte).toNat := by decide +kernel

theorem witness_Checks : frameOf (.poll 0 [1]) = some (0, 1, [1]) ∧ frameOf (.silence 0 []) = some (0, 3, [2]) ∧ quiet.hears 0 = true ∧ quiet.hears 5 = false
    ∧ State.reset.hears 0 = true ∧ frameOf (.unknownRequestKind 0 8 []) = some (0, 8, []) ∧ ¬ mayAsk 3 (quiet.role 2)
    ∧ mayAsk 3 (quiet.role 0) ∧ ¬ wellFormedBody 5 [1, 2] ∧ 56 < (List.replicate 57 (0 : Byte)).length
    ∧ frameOf (.takeManualControl 1 []) = some (1, 3, [11]) ∧ quiet.role 1 = .firePanel
    ∧ frameOf (.monitorSelect 1 [0, 0]) = some (1, 3, [19, 0, 0]) ∧ [(0 : Byte), 0].length = argumentCount 19 := by
  refine ⟨rfl, rfl, by decide +kernel, by decide +kernel, by decide +kernel, rfl, ?_, ?_, ?_, by decide, rfl, by decide +kernel, rfl,
    by decide⟩
  · unfold mayAsk; decide +kernel
  · unfold mayAsk; decide +kernel
  · exact fun h => absurd (h.2.2.2.1 rfl) (by decide)

/-- A port that collects a frame of which it has the bytes `bs`, the last of them ended at the µs `idle`. -/
def collecting (p : PortId) (bs : List Byte) (idle : Nat) : State :=
  port p (fun r => { r with rx := .receiving, buffer := bs, idleFrom := idle }) quiet

/-- Selections; a start bit 2 character times and 1 character behind the last stop bit, and 1 µs less. -/
theorem witness_Selection :
    quiet.hears 1 = true ∧ quiet.portMode 1 = .addressed ∧ framingError (addressChar 5) = false ∧ ninthBit (addressChar 5) = true
      ∧ quiet.hears 0 = true ∧ quiet.portMode 0 = .direct ∧ framingError (dataChar .direct 1) = false
      ∧ parityError (dataChar .direct 1) = false
      ∧ 33 * 1000000 ≤ (quiet.instantAt 438 - 997000) * quiet.cfg.ports[(0 : PortId)].baud
      ∧ (quiet.instantAt 437 - 997000) * quiet.cfg.ports[(0 : PortId)].baud < 33 * 1000000 := by decide +kernel

/-- A POLL whose last check byte comes; a COMMAND without a body; a length byte of 57; a port that is PREPARING, and one that
listens. -/
theorem witness_Frames :
    ((collecting 0 [1, 0, 0] 999000).hears 0 = true ∧ (collecting 0 [1, 0, 0] 999000).portMode 0 = .direct
        ∧ (quiet.instantAt 0 - 999000) * quiet.cfg.ports[(0 : PortId)].baud < 33 * 1000000
        ∧ (collecting 0 [1, 0, 0] 999000).links.ports[(0 : PortId)].buffer ++ [dataOf (dataChar .direct 1)]
            = 1 :: 0 :: [] ++ [0, 1] ∧ frameOf (.poll 0 []) = some (0, 1, []) ∧ 0 * 256 + 1 = ([1, 0].sum : Nat) % 65536)
      ∧ (collecting 0 [3, 0, 0] 999000).links.ports[(0 : PortId)].buffer ++ [dataOf (dataChar .direct 3)] = 3 :: 0 :: [] ++ [0, 3]
      ∧ ((collecting 1 [2] 0).hears 1 = true ∧ (collecting 1 [2] 0).portMode 1 = .addressed
        ∧ ninthBit (dataChar .addressed 57) = false ∧ framingError (dataChar .addressed 57) = false
        ∧ (collecting 1 [2] 0).links.ports[(1 : PortId)].buffer ++ [dataOf (dataChar .addressed 57)] = 2 :: 57 :: []
        ∧ 56 < (57 : Byte).toNat)
      ∧ (port 1 (fun r => { r with rx := .preparing }) quiet).links.ports[(1 : PortId)].rx = .preparing
      ∧ quiet.links.ports[(1 : PortId)].rx = .listening := by decide +kernel

/-- One character for each row of the table of R163. -/
theorem witness_ReceiveErrors :
    framingError ⟨0, 4⟩ = true ∧ framingError ⟨0, 6⟩ = false ∧ framingError ⟨256, 0⟩ = true ∧ ninthBit ⟨256, 0⟩ = true
      ∧ parityError ⟨1, 7⟩ = true ∧ framingError ⟨1, 7⟩ = false ∧ quiet.links.ports[(0 : PortId)].rx = .listening
      ∧ (let s := port 0 (fun r => { r with rx := .preparing, idleFrom := 999000 }) quiet
         s.hears 0 = true ∧ s.links.ports[(0 : PortId)].rx = .preparing ∧ s.portMode 0 = .direct
           ∧ (s.instantAt 0 - 999000) * s.cfg.ports[(0 : PortId)].baud < 33 * 1000000)
      ∧ (let s := port 1 (fun r => { r with rx := .preparing }) quiet
         s.hears 1 = true ∧ s.links.ports[(1 : PortId)].rx = .preparing ∧ s.portMode 1 = .addressed)
      ∧ (collecting 0 [1, 0, 0] 999000).links.ports[(0 : PortId)].buffer ++ [dataOf (dataChar .direct 2)] = 1 :: 0 :: [] ++ [0, 2]
      ∧ 0 * 256 + 2 ≠ ([1, 0].sum : Nat) % 65536 := by decide +kernel

/-- An answer at 9600 baud begins 2292 µs after its request, and not 2291 µs; its 6 characters last 6875 µs. -/
theorem witness_Answers :
    (let s := port 0 (fun r => { r with rx := .preparing, answer := some ⟨0x83, [1, 0]⟩, takenAt := 997708 }) quiet
     s.links.ports[(0 : PortId)].answer = some ⟨0x83, [1, 0]⟩ ∧ s.links.ports[(0 : PortId)].rx = .preparing
       ∧ 22 * 1000000 ≤ (s.instantAt 0 - 997708) * s.cfg.ports[(0 : PortId)].baud
       ∧ max 10000 ((22 * 1000000 + (s.cfg.ports[(0 : PortId)].baud - 1)) / s.cfg.ports[(0 : PortId)].baud) = 10000
       ∧ s.instantAt 0 ≤ 990000 + 10000 ∧ ¬ s.instantAt 0 ≤ 989999 + 10000
       ∧ (s.instantAt 0 - 997709) * s.cfg.ports[(0 : PortId)].baud < 22 * 1000000)
      ∧ (let s := port 0 (fun r => { r with rx := .preparing, answer := some ⟨0x83, [1, 0]⟩, takenAt := 990500 }) quiet
         s.links.ports[(0 : PortId)].rx = .preparing ∧ 0 < s.cfg.ports[(0 : PortId)].baud
           ∧ (990500 + 10000) / 1000 = s.now)
      ∧ (let s := port 0 (fun r => { r with rx := .answering, answer := some ⟨0x83, [1, 0]⟩, begunAt := 993125 }) quiet
         s.links.ports[(0 : PortId)].rx = .answering ∧ s.links.ports[(0 : PortId)].answer = some ⟨0x83, [1, 0]⟩
           ∧ 11 * (2 + 4 + 0) * 1000000 ≤ (s.instantAt 0 - 993125) * s.cfg.ports[(0 : PortId)].baud
           ∧ (s.instantAt 0 - 993126) * s.cfg.ports[(0 : PortId)].baud < 11 * (2 + 4 + 0) * 1000000
           ∧ 0 < s.cfg.ports[(0 : PortId)].baud) := by decide +kernel

/-- The first and the last µs of the second bit of an answer, at 9600 baud (104 and 1/6 µs a bit). -/
theorem witness_LineOutput :
    (let s := port 0 (fun r => { r with rx := .answering, answer := some ⟨0x83, [1, 0]⟩, begunAt := 1000000 }) quiet
     s.links.ports[(0 : PortId)].rx = .answering ∧ s.links.ports[(0 : PortId)].answer = some ⟨0x83, [1, 0]⟩
       ∧ 1 * 1000000 ≤ (1000105 - s.links.ports[(0 : PortId)].begunAt) * s.portBaud 0
       ∧ (1000208 - s.links.ports[(0 : PortId)].begunAt) * s.portBaud 0 < (1 + 1) * 1000000)
      ∧ (List.replicate 56 (0 : Byte)).length ≤ 56 ∧ quiet.links.ports[(0 : PortId)].rx ≠ .answering := by decide +kernel

/-- Rows of each kind. -/
theorem witness_Rows : quiet.tableNamed 1 ≠ none ∧ quiet.isStrike 0 = true ∧ quiet.cfg.doors[(0 : DoorId)].group = (0 : GroupId).val
    ∧ quiet.dsq.doors[(0 : DoorId)] = .secured ∧ quiet.isMagnet 2 = true ∧ quiet.dsq.doors[(2 : DoorId)] = .holding
    ∧ quiet.cfg.doors[(127 : DoorId)].configured = false ∧ (11 : CarId).val / 6 = (1 : BankId).val
    ∧ (tenants quiet).tnq.playing[0]? = some ⟨8, 0, [0], 600, none, some 700⟩ := by decide +kernel

/-- Outputs of each kind. -/
theorem witness_Outputs : quiet.configFault = false ∧ quiet.isMagnet 2 = true ∧ quiet.isStrike 0 = true
    ∧ quiet.cfg.doors[(0 : DoorId)].group = (0 : GroupId).val
    ∧ (door .queued (fun g => { g with takeover := .taken }) quiet).dsq.groups[(0 : GroupId)].takeover = .taken
    ∧ 1 ∈ joining.chr.channels[(0 : ChannelId)].zoneSet ∧ (∀ c : ChannelId, 5 ∉ joining.chr.channels[c].zoneSet)
    ∧ ({ quiet with chr := { quiet.chr with monitored := some 3 } } : State).chr.monitored = some 3 := by decide +kernel

/-! ### Configuration and starts -/

/-- In configuration mode with the working image `m`. -/
def configuring (m : Image) : State := { quiet with cfs := { quiet.cfs with mode := true, working := some m, key := true } }

theorem configuring_agrees (m : Image) : storeAgrees (configuring m) := by
  refine ⟨⟨nofun, nofun⟩, ⟨fun _ => nofun, fun _ => rfl⟩, nofun, nofun⟩

theorem witness_ConfigurationMode : canAsk 0 .cfs (configuring [(5, 1)]) ∧ (configuring []).role 0 = .commandStation
    ∧ storeAgrees (configuring [(5, 1)]) ∧ (configuring [(5, 1)]).cfs.mode = true
    ∧ (configuring [(5, 1)]).cfs.working = some [(5, 1)]
    ∧ canAsk 0 .cfs quiet ∧ storeAgrees quiet ∧ quiet.cfs.mode = false ∧ quiet.cfs.key = false
    ∧ (configuring []).cfs.key = true ∧ takesIt (configuring []) (.cfsRegimeDelivery .prealarm) :=
  ⟨can_ask (by decide +kernel) rfl rfl, by decide +kernel, configuring_agrees _, rfl, rfl, can_ask (by decide +kernel) rfl rfl,
    ⟨⟨nofun, nofun⟩, ⟨nofun, fun h => absurd rfl h⟩, nofun, nofun⟩, rfl, rfl, rfl, takes_only _ _⟩

/-- An image that is not of format version 2 fails the checks of a commit. -/
theorem witness_Commit : canAsk 0 .cfs (configuring []) ∧ (configuring []).role 0 = .commandStation
    ∧ storeAgrees (configuring []) ∧ (configuring []).cfs.mode = true ∧ (configuring []).rge.regime = .normal
    ∧ (configuring []).cfs.working = some [] ∧ imagesCanonical (configuring []) ∧ Image.failures [] ≠ [] := by
  refine ⟨can_ask (by decide +kernel) rfl rfl, by decide +kernel, configuring_agrees _, rfl, rfl, rfl, ⟨?_, ?_, ?_, ?_⟩, ?_⟩
  · intro m h; cases h; rfl
  · intro m h; cases h; rfl
  · intro m h; cases h; rfl
  · intro m h; cases h
  simp [Image.failures, Image.version, Image.byteAt, unlistedByte]

/-- A sound image: format version 2 and its check. -/
def soundImage : Image := Image.withCheck [(0, 0), (1, 2)]

theorem soundImage_sound : soundImage.sound = true ∧ Image.sound [] = false := by decide +kernel

theorem witness_ColdStart :
    (let s := { State.reset with cfs := { State.reset.cfs with eeprom := some soundImage } }
     s.cfs.write = none ∧ s.configFault = true ∧ s.cfs.eeprom = some soundImage ∧ soundImage.sound = true)
      ∧ State.reset.cfs.write = none ∧ State.reset.cfs.eeprom = some [] ∧ Image.sound [] = false
      ∧ quiet.configFault = false
      ∧ (let s := { quiet with cfs := { quiet.cfs with write := some ⟨soundImage, .writing 0⟩ } }
         s.cfs.write = some ⟨soundImage, .writing 0⟩ ∧ s.now ≤ 0 + 2000 ∧ 0 + 2000 < 2001 ∧ 0 + 2000 ≤ 2000)
      ∧ (let s := { quiet with cfs := { quiet.cfs with write := some ⟨soundImage, .awaiting 0⟩ } }
         s.cfs.write = some ⟨soundImage, .awaiting 0⟩) :=
  ⟨⟨rfl, rfl, rfl, soundImage_sound.1⟩, rfl, rfl, soundImage_sound.2, rfl, ⟨rfl, by decide +kernel, by decide, by decide⟩, rfl⟩

theorem witness_WarmRestart : State.reset.configFault = true ∧ ringing.configFault = false ∧ ringing.cfs.write = none
    ∧ (let s := { quiet with cfs := { quiet.cfs with write := some ⟨[], .writing 500⟩ } }
       s.configFault = false ∧ s.cfs.write = some ⟨[], .writing 500⟩)
    ∧ quiet.configFault = false := by decide +kernel

/-! ## Single steps, with results worked out from the rules -/

/-- The state that a command answers. -/
def run (i : Instr) (s : State) : State :=
  match exec i s with
  | .next t => t
  | _ => s

/-- A delivery, taken. -/
def take (i : Instr) (s : State) : State := run i (on s [i])

/-- Loop `l` as it stands. -/
def loop (r : LoopRec) (s : State) : State := { s with lsc := { s.lsc with loops := s.lsc.loops.set 0 r } }

/-- R2: F := (3 F + N + 2) div 4, here (3 · 600 + 603 + 2) div 4 = 601. -/
theorem test_loop_smooths :
    (run (.loopConversion 0 603) (loop ⟨600, 600, true, .normal, .normal, 0⟩ (scanning 0 quiet))).lsc.loops[
      (0 : LoopId)].filtered = 601 := by decide +kernel

/-- R4: at a filtered count of 771 a NORMAL loop is held below T3 + H = 772; at 772 the plain band is OPEN. -/
theorem test_loop_holds_its_band :
    (run (.loopConversion 0 771) (scanning 0 quiet)).lsc.loops[(0 : LoopId)].pendingCount = 0
      ∧ (run (.loopConversion 0 772) (scanning 0 quiet)).lsc.loops[(0 : LoopId)] = ⟨772, 772, true, .normal, .openLine, 1⟩ := by
  decide +kernel

/-- R5 to R7: the third conversion in SHORT changes the band; its zone takes FAULT and LOOP SHORT is raised. -/
theorem test_loop_band_change_is_delivered :
    (run (.loopConversion 0 0) (loop ⟨0, 0, true, .normal, .short, 2⟩ (scanning 0 quiet))).deliveries
      = [.zoneConditionArrival 0 .fault, .troubleRaise .loopShort 0, .changeCounterIncrease .lsc] := by decide +kernel

/-- R1: the next scan starts 10 ms after this one. -/
theorem test_scan_start : (run .scanStart { quiet with now := 2003 }).lsc.nextScan = 2010 := by decide +kernel

/-- R14: a detector to be verified enters PREALARM for T_v = 20 s. -/
theorem test_detector_is_verified :
    (take (.zoneConditionArrival 0 .alarm) quiet).rge.zones[(0 : ZoneId)] = ⟨.prealarm, .alarm, 0, some 21000⟩ := by
  decide +kernel

/-- R25, R31, R30: a call point on floor 2 sends floors 1 to 3 to EVACUATE and, with an alert span of 1, 0 and 4 to ALERT. -/
theorem test_call_point_alarms :
    ((take (.zoneConditionArrival 1 .alarm) quiet).rge.floors.toList.take 6).map (·.phase)
      = [.alert, .evacuate, .evacuate, .evacuate, .alert, .quiet] := by decide +kernel

/-- R15: at the expiry of the verification timer the zone is in ALARM and its floor heads the list. -/
theorem test_verification_expires :
    (run (.verificationTimerExpiry 0) { verifying with now := 21000 }).rge.firstAlarms = [2] := by decide +kernel

/-- R16: the fourth unconfirmed return raises and clears VERIFY BYPASSED. -/
theorem test_fourth_unconfirmed_return :
    (take (.zoneConditionArrival 0 .clear)
      (rg verifying fun r => { r with zones := r.zones.set 0 ⟨.prealarm, .alarm, 3, some 21000⟩ })).deliveries.take 2
      = [.troubleRaise .verifyBypassed 0, .troubleClear .verifyBypassed 0] := by decide +kernel

/-- R11: one entry is accepted; a point that no zone has and a condition above 2 are ignored. -/
theorem test_zone_report_counts :
    (run (.zoneReport 1 [5, 1, 9, 1, 6, 3]) quiet).links.ports[(1 : PortId)].answer = some ⟨0x82, [1, 2]⟩ := by decide +kernel

/-- R12: the loss of its panel faults a zone and raises ZONE FAULT. -/
theorem test_panel_loss : (take (.rgePanelLoss 1) quiet).rge.zones[(1 : ZoneId)].state = .fault := by decide +kernel

/-- R18, R19: a zone in ALARM is not isolated; an isolated zone with a standing alarm alarms anew. -/
theorem test_isolate_refused_in_alarm :
    (run (.isolateZone 0 [1]) ringing).links.ports[(0 : PortId)].answer = some ⟨0x83, [9, 4]⟩ := by decide +kernel
theorem test_restore_takes_the_condition :
    (run (.restoreZone 0 [0]) (isolated .alarm)).rge.zones[(0 : ZoneId)].state = .prealarm := by decide +kernel

/-- R35, R36: silence needs an acknowledged alarm. -/
theorem test_silence_needs_acknowledge :
    (run (.silence 0 []) ringing).links.ports[(0 : PortId)].answer = some ⟨0x83, [2, 4]⟩
      ∧ (run (.silence 0 []) acked).rge.silence = some 3 := by decide +kernel

/-- R37: a fire panel does not end a silence of the command station. -/
theorem test_resound_needs_authority :
    (run (.resound 1 []) (held ringing true (some 3) none none none)).links.ports[(1 : PortId)].answer
      = some ⟨0x83, [3, 3]⟩ := by decide +kernel

/-- R38: outside ALARM the command takes the regime to ALARM with every floor of the range in EVACUATE. -/
theorem test_evacuate_all :
    ((run (.evacuateAll 1 []) quiet).rge.floors.toList.take 6).map (·.phase)
      = [.evacuate, .evacuate, .evacuate, .evacuate, .evacuate, .quiet] := by decide +kernel

/-- R34: the expansion spreads from floors 1 to 3 to every floor, and the timer stops. -/
theorem test_expansion :
    (run .expansionTimerExpiry { ringing with now := 120500 }).rge.expansionTimer = none
      ∧ (run .expansionTimerExpiry { ringing with now := 120500 }).rge.stepCount = 1 := by decide +kernel

/-- R41: under manual control a floor is raised, and not lowered. -/
theorem test_set_floor_phase :
    (run (.setFloorPhase 0 [4, 2]) allHeld).rge.floors[(4 : FloorId)].phase = .evacuate
      ∧ (run (.setFloorPhase 0 [3, 1]) allHeld).links.ports[(0 : PortId)].answer = some ⟨0x83, [12, 4]⟩ := by decide +kernel

/-- R43, R44: the reset is refused a fire panel below the command station's holdings, and taken from the command station. -/
theorem test_regime_reset :
    (run (.regimeReset 1 []) cleared).links.ports[(1 : PortId)].answer = some ⟨0x83, [4, 3]⟩
      ∧ (run (.regimeReset 0 []) cleared).rge.regime = .normal := by decide +kernel

/-- R46: the change counter wraps. -/
theorem test_change_counter_wraps :
    (take (.changeCounterIncrease .cue) (rg quiet fun r => { r with changeCounter := 0xFFFF })).rge.changeCounter = 0 := by
  decide +kernel

/-- R52, R53: the lobby detector of the designated floor sends the bank to its alternate landing. -/
theorem test_lobby_alarm :
    (take (.lfcZoneAlarm 2) lifted).lfc.banks[(0 : BankId)].landing = .alternate
      ∧ (take (.lfcZoneAlarm 2) lifted).lfc.banks[(0 : BankId)].order = .recall := by decide +kernel

/-- R60, R61: a sprinkler shuts the bank down for T_sd = 60 s, and trips it at once when its cars are parked. -/
theorem test_sprinkler :
    (take (.lfcZoneAlarm 4) ringing).lfc.banks[(0 : BankId)].timer = some 61000
      ∧ (take (.lfcZoneAlarm 4) lifted).lfc.banks[(0 : BankId)].order = .tripped := by decide +kernel

/-- R49: a position above the served range is held at its top; the report makes the car fresh. -/
theorem test_car_report_clamps :
    (run (.carReport 2 [1, 9, 0, 1, 0]) quiet).lfc.cars[(1 : CarId)] = ⟨4, .up, .closed, .normal, false⟩ := by decide +kernel

/-- R56: a recall by command alone is cancelled; one with another reason is not. -/
theorem test_cancel_recall :
    (run (.cancelRecall 0 [0]) (run (.recallBank 0 [0]) quiet)).lfc.banks[(0 : BankId)].order = .none
      ∧ (run (.cancelRecall 0 [0]) (shutting quiet)).links.ports[(0 : PortId)].answer = some ⟨0x83, [15, 4]⟩ := by
  decide +kernel

/-- R62: an expired shutdown timer trips the bank, whatever its cars. -/
theorem test_shutdown_expires :
    (run (.shutdownTimerExpiry 0) (shutting ringing)).lfc.banks[(0 : BankId)].order = .tripped := by decide +kernel

/-- R73, R74, R89: the magnet of a raised floor drops; its strike is released at once by an OWNED group. -/
theorem test_doors_of_a_raised_floor :
    ((take (.dsqPhaseChange [(2, .evacuate)]) ringing).dsq.doors.toList.take 3) = [.ramp 1050, .secured, .dropped] := by
  decide +kernel

/-- R91: W = 4, scale 0, R = 1000: I = 4 · 65536 div 1000 = 262, so the gap is MAX(200, 262 div 256 = 1) and the carry 6. -/
theorem test_release_gap_and_carry :
    (run (.pacingTimerExpiry 0) waiting).dsq.groups[(0 : GroupId)].carry = 6
      ∧ (run (.pacingTimerExpiry 0) waiting).dsq.groups[(0 : GroupId)].nextRelease = 1200
      ∧ (run (.pacingTimerExpiry 0) waiting).dsq.groups[(0 : GroupId)].holdSum = 100 := by decide +kernel

/-- The feedback loop of strike 0 in the band `b`. -/
def feedback (b : Band) (s : State) : State :=
  { s with lsc := { s.lsc with loops := s.lsc.loops.set 1 ⟨0, 0, true, b, b, 0⟩ } }

/-- R78: at the end of its ramp a strike with NORMAL feedback is RELEASED, another waits T_dv = 2000 ms in VERIFY. -/
theorem test_ramp_end :
    (run (.rampEnd 0) (feedback .normal (door (.ramp 1000) id ringing))).dsq.doors[(0 : DoorId)] = .released
      ∧ (run (.rampEnd 0) (feedback .alarm (door (.ramp 1000) id ringing))).dsq.doors[(0 : DoorId)] = .verify 3000 := by
  decide +kernel

/-- R79, R82: at the expiry it has FAILED and its floor is impaired. -/
theorem test_verify_fails :
    (run (.doorVerifyTimerExpiry 0) (door (.verify 1000) id ringing)).deliveries
      = [.troubleRaise .doorFailed 0, .reentryImpairedWrite 2 true, .changeCounterIncrease .dsq] := by decide +kernel

/-- R93: a request while a strike is in RAMP hands the group over; without one it is taken at once. -/
theorem test_takeover :
    (run (.takeoverRequestAsserted 0) (door (.ramp 1050) id ringing)).dsq.groups[(0 : GroupId)].takeover = .handingOver
      ∧ (run (.takeoverRequestAsserted 0) quiet).dsq.groups[(0 : GroupId)].takeover = .taken := by decide +kernel

/-- R107, R110: the zones of floors 1 to 3 and the stair take cue 1, those of 0 and 4 cue 0; two programmes form, in
the order of R122 (log entry 19). -/
theorem test_alarm_messages :
    (take .cueAlarmEntry ringing).deliveries.take 2
      = [.programmeHanded (.fire 1 .evac) .formed 1000, .programmeHanded (.fire 0 .alert) .formed 1000] := by decide +kernel

/-- R133: LIVE-P does not take the slot of LIVE-C. -/
theorem test_live_slot_of_the_command_station :
    (take (.liveSlotWrite 0 (.put .liveP)) (take (.liveSlotWrite 0 (.put .liveC)) quiet)).cue.zones[(0 : SpeakerId)].live
      = some ⟨.liveC, 1000⟩ := by decide +kernel

/-- R119, R122: a programme wakes the lowest-numbered STANDBY channel for T_w = 400 ms. -/
theorem test_programme_wakes_a_channel :
    ((take (.programmeHanded (.fire 1 .evac) .formed 900) calling).chr.channels.toList.map (·.warmUp))
      = [some 1400, none, none, none] := by decide +kernel

/-- R110: an instant that was handed over earlier than any slot's, 900, does not come back. -/
theorem test_stale_instant :
    (take (.programmeHanded (.fire 1 .evac) .changed 650) joining).chr.channels[(0 : ChannelId)].grant
      = some ⟨⟨.fire 1 .evac, 900⟩, 950⟩ := by decide +kernel

/-- R113, R126: the second block of the segment, then the gap of 1 block. -/
theorem test_block_boundary :
    (run (.blockBoundary 0) (atBoundary (.fire 1 .evac) (some ⟨1, none, .segment 0, 936⟩)
        [⟨8, .complete⟩, ⟨9, .complete⟩])).chr.channels[(0 : ChannelId)].audio = .flashBlock 9
      ∧ (run (.blockBoundary 0) (atBoundary (.fire 1 .evac) (some ⟨1, none, .segment 1, 936⟩)
        [⟨9, .complete⟩])).cue.chains[(0 : ChannelId)] = some ⟨1, none, .gap 0, 936⟩ := by decide +kernel

/-- R130: a boundary whose block is not there is silence with the sticky flag. -/
theorem test_underrun :
    (run (.blockBoundary 0) (atBoundary (.fire 1 .evac) (some ⟨1, none, .segment 0, 936⟩)
      [⟨8, .complete⟩, ⟨9, .filling⟩])).chr.channels[(0 : ChannelId)].underrun = true := by decide +kernel

/-- R131: a read that fails makes its slot faulted and raises a momentary MEMORY READ FAULT. -/
theorem test_read_fails :
    (run .memoryReadFailed (reading false)).deliveries.take 2
      = [.troubleRaise .memoryReadFault 0, .troubleClear .memoryReadFault 0] := by decide +kernel

/-- R132: bits 0 and 4 of the first mask byte name zones 0 and 4; bit 5 names a floor above the range. -/
theorem test_live_start :
    (run (.liveStart 3 [0x31, 0, 0, 0, 0]) quiet).chr.liveP.claimed = [0, 4] := by decide +kernel

/-- R139 to R141: the entry takes ticket 9 and is started at once on a free zone; in ALARM it is refused. -/
theorem test_announce :
    (run (.announceTenant 0 [0, 2, 0, 0, 0, 0]) (tenants quiet)).links.ports[(0 : PortId)].answer = some ⟨0x86, [1, 0, 9]⟩
      ∧ (run (.announceTenant 0 [0, 2, 0, 0, 0, 0]) (tenants ringing)).links.ports[(0 : PortId)].answer
        = some ⟨0x86, [1, 4, 0]⟩ := by decide +kernel

/-- R144: the aged entry leaves the queue; R145: the flush counts both entries as cut. -/
theorem test_aging_and_flush :
    (run (.agingTimerExpiry 7) (tenants quiet)).tnq.aged = 1 ∧ (take .tnqAlarmFlush (tenants ringing)).tnq.cut = 2 := by
  decide +kernel

/-- R150: the acknowledge removes the cleared latching entry, marks the other, and clears the overflow count. -/
theorem test_trl_acknowledge :
    (take .trlAcknowledge troubled).trl = ⟨[⟨.zoneFault, 0, 900, true, true⟩], 0⟩
      ∧ (take .trlAcknowledge troubled).deliveries.take 1 = [.underrunRemoval 3] := by decide +kernel

/-- R153, R154: a lost command station is delivered to RGE and CHR. -/
theorem test_supervision_expires :
    (run (.supervisionTimerExpiry 0) (port 0 (fun r => { r with presence := .present, supervision := some 1000 }) quiet)).deliveries.take 3
      = [.troubleRaise .partyLost 0, .rgeCommandStationLoss 0, .chrPortLoss 0] := by decide +kernel

/-- R152: the third valid frame in a row makes the party PRESENT. -/
theorem test_third_frame :
    (run (.poll 0 []) (port 0 (fun r => { r with presence := .attaching, attach := 2 }) quiet)).links.ports[(0 : PortId)].presence
      = .present := by decide +kernel

/-- R166: 49 rows of 10 bytes: of 20 requested from row 47, 2 are there. -/
theorem test_read_counts :
    ((run (.read 0 [7, 47, 20]) quiet).links.ports[(0 : PortId)].answer.map fun a => (a.kind, a.body.take 3, a.body.length))
      = some (0x85, [7, 47, 2], 23) := by decide +kernel

/-- R164: a COMMAND from a LIFT GROUP is refused ROLE; in CONFIG FAULT it is refused CONFIG (R171). -/
theorem test_request_refused :
    (run (.silence 2 []) quiet).links.ports[(2 : PortId)].answer = some ⟨0xFF, [3, 2]⟩
      ∧ (run (.silence 2 []) State.reset).links.ports[(2 : PortId)].answer = some ⟨0xFF, [3, 7]⟩ := by decide +kernel

/-- R158: the byte 1 has one 1, so its parity bit is 1; the address 5 has the mark bit 1. Bits in the order of the line. -/
theorem test_character_bits :
    wireBits (dataChar .direct 1) = [false, true, false, false, false, false, false, false, false, true, true]
      ∧ wireBits (addressChar 5) = [false, true, false, true, false, false, false, false, false, true, true] := by decide

/-- R159, R161: a POLL refused ROLE, FF 02 01 02 and its check 0104, in ADDRESSED mode behind the address 127. -/
theorem test_answer_line :
    (answerLine .addressed ⟨0xFF, [1, 2]⟩).map (·.bits) = [0x17F, 0x0FF, 2, 1, 2, 1, 4] := by decide

/-- R159, R160: address 5 selects port 1; the kind starts the frame at port 0 after an idle line, and leads to DISCARDING right
after another character. -/
theorem test_selection :
    (run (.addressCharacter 1 ⟨addressChar 5, 0⟩) quiet).links.ports[(1 : PortId)].rx = .receiving
      ∧ (run (.frameStart 0 ⟨dataChar .direct 1, 0⟩) quiet).links.ports[(0 : PortId)].buffer = [1]
      ∧ (run (.frameStart 0 ⟨dataChar .direct 1, 0⟩) (port 0 (fun r => { r with idleFrom := 999000 }) quiet)).links.ports[
          (0 : PortId)].rx = .discarding := by decide +kernel

/-- R161: the frame 01 00 00 01 is a POLL; with the check 00 02 it is a check error. -/
theorem test_frame_check :
    (run (.dataCharacter 0 ⟨dataChar .direct 1, 0⟩) (collecting 0 [1, 0, 0] 999000)).links.ports[(0 : PortId)].rx = .preparing
      ∧ (run (.dataCharacter 0 ⟨dataChar .direct 2, 0⟩) (collecting 0 [1, 0, 0] 999000)).links.ports[
        (0 : PortId)].errors.check = 1 := by decide +kernel

/-- R158, R163: two of three stop samples at 0 are a framing error. -/
theorem test_framing_error :
    (run (.receiveError 0 .framing ⟨⟨1, 1⟩, 0⟩) quiet).links.ports[(0 : PortId)].errors.framing = 1
      ∧ run (.receiveError 0 .framing ⟨⟨1, 5⟩, 0⟩) quiet = quiet := by decide +kernel

/-- R163: a framing error in PREPARING is an overrun too in DIRECT mode, and a length error too in ADDRESSED mode at a data character. -/
theorem test_two_errors_at_once :
    (let r := (run (.receiveError 0 .overrun ⟨⟨1, 1⟩, 0⟩) (port 0 (fun r => { r with rx := .preparing }) quiet)).links.ports[
        (0 : PortId)]
     (r.errors, r.rx) = (⟨1, 0, 1, 0, 0⟩, .discarding))
      ∧ (let r := (run (.dataCharacter 1 ⟨⟨1, 1⟩, 0⟩) (port 1 (fun r => { r with rx := .preparing }) quiet)).links.ports[
          (1 : PortId)]
         (r.errors, r.rx) = (⟨1, 0, 0, 0, 1⟩, .discarding)) := by decide +kernel

/-- R162: the port listens with its line idle from the end of the answer, 6 characters of 11 bits at 9600 baud. -/
theorem test_answer_sent :
    (run (.answerSent ⟨0, 0⟩) (port 0 (fun r => { r with rx := .answering, answer := some ⟨0x83, [1, 0]⟩, begunAt := 990000 })
      quiet)).links.ports[(0 : PortId)].idleFrom = 996875 := by decide +kernel

/-- R131: a read that is 8 ms old has failed. -/
theorem test_read_times_out : dueEvents { reading false with now := 1004 } = [.memoryReadFailed] := by decide +kernel

/-- R134: with block 5 played, block 4 is the newest that has not been. -/
theorem test_live_block :
    (run (.blockBoundary 1) (channel 1 (fun r => { r with livePlayed := [5] })
      { talking with chr := { talking.chr with liveC := ⟨true, [0, 4], 900, 5, 1000⟩ } })).chr.channels[(1 : ChannelId)].audio
      = .liveBlock .liveC 4 := by decide +kernel

/-- R173: a WRITE outside configuration mode is refused STATE; in it the byte is written at offset 0x0102. -/
theorem test_configure_write :
    ((run (.configureWrite 0 [1, 2, 7]) quiet).links.ports[(0 : PortId)].answer.map fun a => a.body.take 2) = some [1, 4]
      ∧ (run (.configureWrite 0 [1, 2, 7]) (configuring [])).cfs.working = some [(0x102, 7)] := by decide +kernel

/-- R172: the key enters configuration mode in NORMAL and not in ALARM. -/
theorem test_key : (run .configurationKeyOn quiet).cfs.mode = true ∧ (run .configurationKeyOn ringing).cfs.mode = false := by
  decide +kernel

/-- R175: after a warm restart the time base is 0 and a door timer in flight runs at full length. -/
theorem test_warm_restart :
    (run .warmRestart (door (.verify 1500) id ringing)).dsq.doors[(0 : DoorId)] = .verify 2000
      ∧ (run .warmRestart ringing).now = 0 := by decide +kernel

/-- R174, R175: the restart input acts while the answer to a COMMIT is still to be sent, and not during its write; the write begins
at the restart (log entry 41). -/
theorem test_warm_restart_and_commit :
    (let s := { quiet with cfs := { quiet.cfs with write := some ⟨[], .awaiting 0⟩ } }
     (run .warmRestart s).now = 0 ∧ (run .warmRestart s).cfs.write = some ⟨[], .writing 0⟩
       ∧ (run .configurationKeyOn s).cfs.mode = true)
      ∧ (let s := { quiet with cfs := { quiet.cfs with write := some ⟨[], .writing 500⟩ } }
         run .warmRestart s = s ∧ (run .configurationKeyOn s).cfs.mode = false) := by decide +kernel

/-- R171: a cold start that finds no sound image makes CONFIG FAULT. -/
theorem test_cold_start_without_an_image : (run (.coldStart .powerUp .held) quiet).configFault = true := by decide +kernel

/-- R170: a magnet that is energised is not while the image is loaded at a power-up, and holds while it is loaded after a commit. -/
theorem test_outputs_during_a_load :
    (run (.coldStart .powerUp .held) quiet).startOutputs.doors[2] = false
      ∧ (run (.eepromWriteEnd false)
          { quiet with cfs := { quiet.cfs with write := some ⟨[], .writing 0⟩ } }).startOutputs.doors[2] = true := by
  decide +kernel

end Sys2Proof.Machine.Tests
end

section
/-! SUPPORT. What the operations of the Regime Engine do to its fields (chapters 1.4 to 2.5). -/

namespace Sys2Proof.Machine

/-! ## The fields that an operation replaces -/

section
variable (s : State)

@[simp] theorem raiseFloors_rge (target : FloorId → Phase) : (raiseFloors target s).rge = { s.rge with
    floors := tab fun f =>
      if s.inRange f.val && decide (phaseRank s.rge.floors[f].phase < phaseRank (target f)) then
        { s.rge.floors[f] with phase := target f, entryTime := s.elapsed }
      else s.rge.floors[f] } := rfl
@[simp] theorem startExpansion_rge : (startExpansion s).rge =
    { s.rge with expansionTimer := if s.mayExpand then some (s.after (s.cfg.tPhase * 1000)) else none } := rfl
@[simp] theorem stopExpansion_rge : (stopExpansion s).rge = { s.rge with expansionTimer := none } := rfl
@[simp] theorem stopIfAllEvacuated_rge : (stopIfAllEvacuated s).rge =
    { s.rge with expansionTimer := if s.allEvacuated then none else s.rge.expansionTimer } := rfl
@[simp] theorem enterAlarm_rge : (enterAlarm s).rge =
    { s.rge with regime := .alarm, acknowledged := false, stepCount := 0, elapsedBase := 0, elapsedFrom := s.now } := rfl
@[simp] theorem appendFloor_rge (f : FloorId) : (appendFloor f s).rge =
    { s.rge with
      firstAlarms := s.rge.firstAlarms ++ [f]
      floors := modifyRow s.rge.floors f fun r => { r with origin := true } } := rfl
@[simp] theorem alarmZones_rge (zs : List ZoneId) : (alarmZones zs s).rge =
    { s.rge with
      zones := tab fun z =>
        if zs.contains z then { s.rge.zones[z] with state := .alarm, timer := none } else s.rge.zones[z] } := rfl
@[simp] theorem recountFloors_rge : (recountFloors s).rge =
    { s.rge with
      floors := tab fun f =>
        { s.rge.floors[f] with
          alarmed := (s.zonesIn .alarm f.val).length
          prealarmed := (s.zonesIn .prealarm f.val).length } } := rfl
@[simp] theorem settleRegime_rge : (settleRegime s).rge =
    { s.rge with regime := if s.inAlarm then .alarm else if s.anyPrealarm then .prealarm else .normal } := rfl

end

/-! ## What the operations leave -/

section
variable {s t : State}
theorem rgeOnly.cfg (h : rgeOnly s t) : t.cfg = s.cfg := by rw [rgeOnly] at h; rw [h]
theorem rgeOnly.now (h : rgeOnly s t) : t.now = s.now := by rw [rgeOnly] at h; rw [h]
theorem rgeOnly.configFault (h : rgeOnly s t) : t.configFault = s.configFault := by rw [rgeOnly] at h; rw [h]
end

/-! ## Phases that rise (R22) -/

/-- What the record of a floor becomes when its phase is raised to a target. -/
def raisedFloor (target : FloorId → Phase) (s : State) (f : FloorId) : FloorRec :=
  if s.inRange f.val && decide (phaseRank s.rge.floors[f].phase < phaseRank (target f)) then
    { s.rge.floors[f] with phase := target f, entryTime := s.elapsed }
  else s.rge.floors[f]

theorem raiseFloors_eq (target : FloorId → Phase) (s : State) :
    ∃ v : Vector FloorRec 32, raiseFloors target s = s.withRge { s.rge with floors := v }
      ∧ ∀ f : FloorId, v[f] = raisedFloor target s f :=
  ⟨_, rfl, fun f => tab_fin _ f⟩

theorem appendFloor_eq (f : FloorId) (s : State) :
    ∃ v : Vector FloorRec 32,
      appendFloor f s = s.withRge { s.rge with firstAlarms := s.rge.firstAlarms ++ [f], floors := v }
        ∧ ∀ g : FloorId, v[g] = { s.rge.floors[g] with origin := s.rge.floors[g].origin || decide (g = f) } := by
  refine ⟨_, rfl, fun g => ?_⟩
  rw [modifyRow_fin]
  split
  · rename_i h; subst h; simp
  · rename_i h; simp [h]

theorem raisedFloor_outOfRange {target : FloorId → Phase} {s : State} {f : FloorId} (h : s.inRange f.val = false) :
    raisedFloor target s f = s.rge.floors[f] := by
  unfold raisedFloor; rw [h]; rfl

/-- A floor in EVACUATE stays in it, and a floor of the range with target EVACUATE enters it. -/
theorem raisedFloor_evacuate {target : FloorId → Phase} {s : State} {f : FloorId}
    (h : s.rge.floors[f].phase = .evacuate ∨ s.inRange f.val = true ∧ target f = .evacuate) :
    (raisedFloor target s f).phase = .evacuate := by
  unfold raisedFloor
  generalize s.rge.floors[f] = r at h
  rcases h with h | ⟨hr, ht⟩
  · have hlow : ¬ phaseRank r.phase < phaseRank (target f) := by
      rw [h]; cases target f <;> decide
    rw [if_neg (by simp [hlow])]
    exact h
  · by_cases he : r.phase = .evacuate
    · rw [he, ht, if_neg (by simp)]
      exact he
    · have hlow : phaseRank r.phase < phaseRank (target f) := by
        rw [ht]; revert he; cases r.phase <;> decide
      rw [if_pos (by simp [hr, hlow])]
      exact ht

/-- Only the phase and its entry time may differ. -/
def phaseOnly (r q : FloorRec) : Prop := q = { r with phase := q.phase, entryTime := q.entryTime }

theorem phaseOnly.trans {r q p : FloorRec} (h : phaseOnly r q) (k : phaseOnly q p) : phaseOnly r p := by
  unfold phaseOnly at *; rw [k, h]

theorem raisedFloor_phaseOnly (target : FloorId → Phase) (s : State) (f : FloorId) :
    phaseOnly s.rge.floors[f] (raisedFloor target s f) := by
  unfold raisedFloor; split <;> rfl

theorem rank_below_evacuate (p : Phase) (b : Bool) :
    phaseRank p < phaseRank (if b then .evacuate else .quiet) ↔ b = true ∧ p ≠ .evacuate := by
  cases b <;> cases p <;> decide

theorem rank_below_alert (p : Phase) (b : Bool) :
    phaseRank p < phaseRank (if b then .alert else .quiet) ↔ b = true ∧ p = .quiet := by
  cases b <;> cases p <;> decide

/-- Raising floors to EVACUATE, the others left. -/
theorem raisedFloor_toEvacuate (T : FloorId → Bool) (s : State) (f : FloorId) :
    raisedFloor (fun f => if T f then .evacuate else .quiet) s f =
      if s.inRange f.val = true ∧ T f = true ∧ s.rge.floors[f].phase ≠ .evacuate then
        { s.rge.floors[f] with phase := .evacuate, entryTime := s.elapsed }
      else s.rge.floors[f] := by
  simp only [raisedFloor, rank_below_evacuate, Bool.and_eq_true, decide_eq_true_eq]
  split
  · rename_i h; rw [if_pos h.2.1]
  · rfl

/-- Raising floors to ALERT, the others left. -/
theorem raisedFloor_toAlert (B : FloorId → Bool) (s : State) (f : FloorId) :
    raisedFloor (fun f => if B f then .alert else .quiet) s f =
      if s.inRange f.val = true ∧ B f = true ∧ s.rge.floors[f].phase = .quiet then
        { s.rge.floors[f] with phase := .alert, entryTime := s.elapsed }
      else s.rge.floors[f] := by
  simp only [raisedFloor, rank_below_alert, Bool.and_eq_true, decide_eq_true_eq]
  split
  · rename_i h; rw [if_pos h.2.1]
  · rfl

theorem dilated_iff (s : State) (k : Nat) (f : FloorId) : s.dilated k f = true ↔ s.inRange f.val = true
    ∧ ∃ g : FloorId, s.inRange g.val = true ∧ evacuating s g ∧ near k f g = true := by
  simp [State.dilated, State.evacuated, evacuating, and_assoc]

theorem evacuated_iff (s : State) (f : FloorId) : s.evacuated f = true ↔ s.inRange f.val = true ∧ evacuating s f := by
  simp [State.evacuated, evacuating]

/-- The floors that `T` names are put into EVACUATE and the alert set is recomputed around the evacuate set that results. -/
def spreadEvacuation (T : FloorId → Bool) (s : State) : State :=
  recomputeAlert (raiseFloors (fun f => if T f then .evacuate else .quiet) s)

/-- Two raises in a row, to EVACUATE and then to ALERT around the evacuate set that results, change the phases as R22 and R30
say. -/
theorem spreads_of_raises {T : FloorId → Prop} {s t : State} {v : Vector FloorRec 32} [DecidablePred T]
    {near' : FloorId → Prop} [DecidablePred near']
    (hv : ∀ f : FloorId, v[f] = if s.inRange f.val = true ∧ T f ∧ s.rge.floors[f].phase ≠ .evacuate then
        { s.rge.floors[f] with phase := .evacuate, entryTime := s.elapsed }
      else s.rge.floors[f])
    (ht : ∀ f : FloorId, t.rge.floors[f] = if s.inRange f.val = true ∧ near' f ∧ v[f].phase = .quiet then
        { v[f] with phase := .alert, entryTime := s.elapsed }
      else v[f])
    (hn : ∀ f : FloorId, s.inRange f.val = true → v[f].phase = .quiet → (near' f ↔
      ∃ g : FloorId, s.inRange g.val = true ∧ v[g].phase = .evacuate
      ∧ near s.cfg.alertSpan f g = true))
    (he : t.elapsed = s.elapsed) : spreads T s t := by
  have hev : ∀ f : FloorId, evacuating t f ↔ v[f].phase = .evacuate := by
    intro f
    unfold evacuating
    rw [ht]
    split
    · rename_i h
      exact iff_of_false (by simp) fun k => by rw [h.2.2] at k; cases k
    · rfl
  intro f
  rw [he]
  simp only [hev]
  have hnf := hn f
  have htf := ht f
  have hvf := hv f
  unfold evacuating
  generalize (∃ g : FloorId, s.inRange g.val = true ∧ v[g].phase = .evacuate ∧ near s.cfg.alertSpan f g = true) = N at hnf ⊢
  generalize s.rge.floors[f] = r at hvf ⊢
  generalize v[f] = q at hnf htf hvf ⊢
  generalize t.rge.floors[f] = p at htf ⊢
  subst htf
  by_cases h1 : s.inRange f.val = true ∧ T f ∧ r.phase ≠ .evacuate
  · rw [if_pos h1] at hvf
    subst hvf
    simp [h1, Ne.symm h1.2.2]
  · rw [if_neg h1] at hvf
    subst hvf
    by_cases h2 : s.inRange f.val = true ∧ near' f ∧ q.phase = .quiet
    · have h3 := (hnf h2.1 h2.2.2).1 h2.2.1
      have h4 : ¬ T f := fun k => h1 ⟨h2.1, k, by simp [h2.2.2]⟩
      simp [h2, h3, h4]
    · rw [if_neg h2]
      cases hq : q.phase <;> simp_all

/-- Only phases and entry times change, and they change as R22 and R30 say. -/
theorem spreadEvacuation_eq (T : FloorId → Bool) (s : State) :
    ∃ v : Vector FloorRec 32, spreadEvacuation T s = s.withRge { s.rge with floors := v }
      ∧ (∀ f : FloorId, phaseOnly s.rge.floors[f] v[f])
      ∧ spreads (fun f => T f = true) s (s.withRge { s.rge with floors := v }) := by
  obtain ⟨v, hv, hvf⟩ := raiseFloors_eq (fun f => if T f then .evacuate else .quiet) s
  obtain ⟨u, hu⟩ : ∃ u, u = s.withRge { s.rge with floors := v } := ⟨_, rfl⟩
  obtain ⟨w, hw, hwf⟩ := raiseFloors_eq
    (fun f => if u.dilated u.cfg.alertSpan f && !u.evacuated f then .alert else .quiet) u
  have huf : ∀ f : FloorId, u.rge.floors[f] = v[f] := fun f => by rw [hu]; rfl
  have hur : ∀ n, u.inRange n = s.inRange n := fun n => by rw [hu]; rfl
  have huc : u.cfg = s.cfg := by rw [hu]; rfl
  have hue : u.elapsed = s.elapsed := by rw [hu]; rfl
  refine ⟨w, ?_, fun f => ?_, ?_⟩
  · unfold spreadEvacuation recomputeAlert
    rw [hv, ← hu, hw, hu]
    rfl
  · rw [hwf]
    have h1 := raisedFloor_phaseOnly (fun f => if T f then .evacuate else .quiet) s f
    rw [← hvf, ← huf] at h1
    exact h1.trans (raisedFloor_phaseOnly _ u f)
  · refine spreads_of_raises (v := v) (near' := fun f => (u.dilated u.cfg.alertSpan f && !u.evacuated f) = true)
      (fun f => by rw [hvf, raisedFloor_toEvacuate]) (fun f => ?_) (fun f hr hq => ?_) rfl
    · show w[f] = _
      rw [hwf, raisedFloor_toAlert, huf, hur, hue]
    · rw [Bool.and_eq_true, dilated_iff, Bool.not_eq_true', ← Bool.not_eq_true, evacuated_iff]
      simp only [evacuating, huf, hur, huc, hq, hr, reduceCtorEq, and_false, not_false_eq_true, and_true, true_and]

theorem phasesAtEntry_eq (s : State) : phasesAtEntry s =
    startExpansion (spreadEvacuation (fun f => aroundFloors s.rge.firstAlarms f || s.cfg.floors[f].alwaysEvacuate) s) := rfl

theorem phasesAtOrigin_eq (f : FloorId) (s : State) :
    phasesAtOrigin f s = stopIfAllEvacuated (spreadEvacuation (fun g => near 1 g f) s) := rfl

theorem aroundFloors_iff (fs : List FloorId) (g : FloorId) : aroundFloors fs g = true ↔ ∃ h ∈ fs, near 1 g h = true := by
  simp [aroundFloors]

@[simp] theorem near_self (k : Nat) (f : FloorId) : near k f f = true := by simp [near]

theorem inRange_iff (s : State) (n : Nat) : s.inRange n = true ↔ n ≤ s.cfg.topFloor := by simp [State.inRange]

/-! ## What newly alarmed zones leave of the rest of the Regime Engine -/

/-- The zones, the floor counts, the change counter and the deliveries are as they were. -/
structure PhasesMove (s t : State) : Prop where
  zones : t.rge.zones = s.rge.zones
  counts : ∀ g : FloorId, t.rge.floors[g].alarmed = s.rge.floors[g].alarmed
    ∧ t.rge.floors[g].prealarmed = s.rge.floors[g].prealarmed
  counter : t.rge.changeCounter = s.rge.changeCounter
  deliveries : t.deliveries = s.deliveries

section
variable {s t u : State}

theorem PhasesMove.trans (h : PhasesMove s t) (k : PhasesMove t u) : PhasesMove s u :=
  ⟨k.zones.trans h.zones, fun g => ⟨(k.counts g).1.trans (h.counts g).1, (k.counts g).2.trans (h.counts g).2⟩,
    k.counter.trans h.counter, k.deliveries.trans h.deliveries⟩

theorem appendFloor_move (f : FloorId) (s : State) : PhasesMove s (appendFloor f s) := by
  obtain ⟨v, hv, hf⟩ := appendFloor_eq f s
  rw [hv]
  exact ⟨rfl, fun g => by rw [withRge_rge]; dsimp only; rw [hf]; exact ⟨rfl, rfl⟩, rfl, rfl⟩

theorem spreadEvacuation_move (T : FloorId → Bool) (s : State) : PhasesMove s (spreadEvacuation T s) := by
  obtain ⟨v, hv, hf, -⟩ := spreadEvacuation_eq T s
  rw [hv]
  exact ⟨rfl, fun g => by rw [withRge_rge]; dsimp only; rw [hf g]; exact ⟨rfl, rfl⟩, rfl, rfl⟩

theorem startExpansion_move (s : State) : PhasesMove s (startExpansion s) := ⟨rfl, fun _ => ⟨rfl, rfl⟩, rfl, rfl⟩
theorem stopIfAllEvacuated_move (s : State) : PhasesMove s (stopIfAllEvacuated s) := ⟨rfl, fun _ => ⟨rfl, rfl⟩, rfl, rfl⟩

theorem phasesAtEntry_move (s : State) : PhasesMove s (phasesAtEntry s) := by
  rw [phasesAtEntry_eq]
  exact (spreadEvacuation_move _ s).trans (startExpansion_move _)

theorem phasesAtOrigin_move (f : FloorId) (s : State) : PhasesMove s (phasesAtOrigin f s) := by
  rw [phasesAtOrigin_eq]
  exact (spreadEvacuation_move _ s).trans (stopIfAllEvacuated_move _)

theorem enterAlarm_move (s : State) : PhasesMove s (enterAlarm s) := ⟨rfl, fun _ => ⟨rfl, rfl⟩, rfl, rfl⟩

theorem regimeAlarmed_move (floor : Nat) (s : State) : PhasesMove s (regimeAlarmed floor s) := by
  have hw : PhasesMove s (s.withRge { s.rge with acknowledged := false, silence := none }) :=
    ⟨rfl, fun _ => ⟨rfl, rfl⟩, rfl, rfl⟩
  unfold regimeAlarmed
  split
  · split
    · exact hw
    · exact (hw.trans (enterAlarm_move _)).trans (phasesAtEntry_move _)
  · rename_i f _
    have ha := hw.trans (appendFloor_move f _)
    dsimp only
    split
    · split
      · exact ha.trans (phasesAtOrigin_move f _)
      · exact hw
    · split
      · exact (ha.trans (enterAlarm_move _)).trans (phasesAtEntry_move _)
      · exact (hw.trans (enterAlarm_move _)).trans (phasesAtEntry_move _)
end

end Sys2Proof.Machine
end

section
/-! PROOF. Every step keeps the Regime Engine sound: the invariant of one event (`RegimeKept`), which the end of an event of RGE
completes with the floor counts and the regime state, and what every other block leaves of the regime (`sameRegime`). -/

namespace Sys2Proof.Machine

/-! ## The invariant within an event -/

/-- The timer of a zone runs exactly in PREALARM, and a zone in PREALARM has condition ALARM (1.4, R13). -/
def ZoneRec.sound (r : ZoneRec) : Prop := (r.timer ≠ none ↔ r.state = .prealarm) ∧ (r.state = .prealarm → r.condition = .alarm)

/-- Every zone record is sound. -/
def zonesSound (r : Rge) : Prop := ∀ z : ZoneId, r.zones[z].sound

/-- What holds of levels, phases and origin floors in every regime state (R22, R23, R29), under a top floor index. -/
structure PhasesSound (top : Nat) (r : Rge) : Prop where
  silence : levelFits r.silence
  evacuateAll : levelFits r.evacuateAll
  expansionHold : levelFits r.expansionHold
  manual : levelFits r.manual
  outOfRange : ∀ f : FloorId, top < f.val → r.floors[f].phase = .quiet
  nodup : r.firstAlarms.Nodup
  origins : ∀ f ∈ r.firstAlarms, f.val ≤ top → r.floors[f].phase = .evacuate

/-- Nothing of an alarm stands: the state of the regime outside ALARM (R23, R25, R29, R33). -/
structure AtRest (r : Rge) : Prop where
  silence : r.silence = none
  evacuateAll : r.evacuateAll = none
  expansionHold : r.expansionHold = none
  manual : r.manual = none
  expansionTimer : r.expansionTimer = none
  firstAlarms : r.firstAlarms = []
  acknowledged : r.acknowledged = false
  phases : ∀ f : FloorId, r.floors[f].phase = .quiet

/-- The expansion timer runs only without a hold and manual control, and while some floor can still be raised (R33). -/
def expansionFree (top : Nat) (r : Rge) : Prop :=
  r.expansionTimer ≠ none → r.expansionHold = none ∧ r.manual = none ∧ ∃ f : FloorId, f.val ≤ top ∧ r.floors[f].phase ≠ .evacuate

/-- The Regime Engine but for its zones, its counts and the regime states NORMAL and PREALARM. -/
structure AlarmSound (top : Nat) (r : Rge) : Prop extends PhasesSound top r where
  rest : r.regime ≠ .alarm → AtRest r
  expansion : expansionFree top r

/-- The part of the invariant that holds all through an event of RGE: counts and the regime state outside ALARM are made anew at its
end (R21, R24). -/
def RegimeKept (s : State) : Prop := zonesSound s.rge ∧ AlarmSound s.cfg.topFloor s.rge

theorem allEvacuated_eq_false (s : State) :
    s.allEvacuated = false ↔ ∃ f : FloorId, f.val ≤ s.cfg.topFloor ∧ s.rge.floors[f].phase ≠ .evacuate := by
  simp [State.allEvacuated, State.inRange, List.all_eq_false]

theorem mayExpand_iff (s : State) : s.mayExpand = true ↔ s.rge.regime = .alarm ∧ s.rge.expansionHold = none
    ∧ s.rge.manual = none ∧ ∃ f : FloorId, f.val ≤ s.cfg.topFloor ∧ s.rge.floors[f].phase ≠ .evacuate := by
  rw [← allEvacuated_eq_false]
  simp [State.mayExpand, State.inAlarm, and_assoc]

theorem regimeSound_iff (s : State) : regimeSound s ↔ zonesCounted s ∧ regimeSettled s ∧ RegimeKept s := by
  constructor
  · rintro ⟨hc, hs, ht, hp, hh, ⟨l1, l2, l3, l4⟩, he, hq, ho, hn, hf⟩
    have hrest : s.rge.expansionTimer ≠ none → _ := fun h => (mayExpand_iff s).1 (he h)
    refine ⟨hc, hs, fun z => ⟨ht z, hp z⟩, ⟨⟨l1, l2, l3, l4, fun f k => ho f (by simpa [State.inRange] using k), hn,
      fun f hm k => hf f hm (by simpa [State.inRange] using k)⟩, fun ha => ?_, fun h => (hrest h).2⟩⟩
    obtain ⟨h1, h2, h3, h4⟩ := hh ha
    obtain ⟨q1, q2, q3⟩ := hq ha
    exact ⟨h1, h2, h3, h4, by_contra fun h => ha (hrest h).1, q1, q2, q3⟩
  · rintro ⟨hc, hs, hz, ha⟩
    refine ⟨hc, hs, fun z => (hz z).1, fun z => (hz z).2, fun k => ?_,
      ⟨ha.silence, ha.evacuateAll, ha.expansionHold, ha.manual⟩, fun k => ?_, fun k => ?_,
      fun f k => ha.outOfRange f (by simpa [State.inRange] using k), ha.nodup,
      fun f hm k => ha.origins f hm (by simpa [State.inRange] using k)⟩
    · exact ⟨(ha.rest k).silence, (ha.rest k).evacuateAll, (ha.rest k).expansionHold, (ha.rest k).manual⟩
    · exact (mayExpand_iff s).2 ⟨by_contra fun h => k (ha.rest h).expansionTimer, ha.expansion k⟩
    · exact ⟨(ha.rest k).firstAlarms, (ha.rest k).acknowledged, (ha.rest k).phases⟩

/-! ## Changes that the invariant does not see -/

section
variable {top : Nat} {r : Rge}

theorem AtRest.withFloors {v : Vector FloorRec 32} (h : AtRest r) (hv : ∀ f : FloorId, v[f].phase = r.floors[f].phase) :
    AtRest { r with floors := v } :=
  ⟨h.silence, h.evacuateAll, h.expansionHold, h.manual, h.expansionTimer, h.firstAlarms, h.acknowledged,
    fun f => (hv f).trans (h.phases f)⟩

/-- Phases alone count of the floor records. -/
theorem AlarmSound.withFloors {v : Vector FloorRec 32} (h : AlarmSound top r)
    (hv : ∀ f : FloorId, v[f].phase = r.floors[f].phase) : AlarmSound top { r with floors := v } where
  silence := h.silence
  evacuateAll := h.evacuateAll
  expansionHold := h.expansionHold
  manual := h.manual
  outOfRange f k := (hv f).trans (h.outOfRange f k)
  nodup := h.nodup
  origins f hm k := (hv f).trans (h.origins f hm k)
  rest k := (h.rest k).withFloors hv
  expansion k := by
    obtain ⟨h1, h2, f, hf, hp⟩ := h.expansion k
    exact ⟨h1, h2, f, hf, fun e => hp ((hv f).symm.trans e)⟩

/-- The zone records, the change counter and the elapsed time do not count. -/
theorem AlarmSound.withOthers {v : Vector ZoneRec 64} {k : BitVec 16} {n e i : Nat} (h : AlarmSound top r) :
    AlarmSound top { r with zones := v, changeCounter := k, stepCount := n, elapsedBase := e, elapsedFrom := i } :=
  { h with rest := fun q => { h.rest q with }, expansion := h.expansion }

/-- The regime state may change outside ALARM. -/
theorem AlarmSound.withRegime {q : RegimeState} (h : AlarmSound top r) (hq : r.regime = .alarm ↔ q = .alarm) :
    AlarmSound top { r with regime := q } :=
  { h with rest := fun k => { h.rest (fun e => k (hq.1 e)) with }, expansion := h.expansion }
end

/-! ## The regime's operations -/

section
variable {top : Nat} {s : State}

theorem PhasesSound.noList {r : Rge} (h : PhasesSound top r) : PhasesSound top { r with firstAlarms := [] } :=
  { h with nodup := List.nodup_nil, origins := fun _ hm => absurd hm List.not_mem_nil }

/-- Raising phases keeps them sound. -/
theorem PhasesSound.raise (target : FloorId → Phase) (h : PhasesSound top s.rge) (ht : s.cfg.topFloor = top) :
    PhasesSound top (raiseFloors target s).rge := by
  obtain ⟨v, hv, hf⟩ := raiseFloors_eq target s
  rw [hv]
  refine { h with outOfRange := fun f k => ?_, origins := fun f hm k => ?_ }
  · show v[f].phase = _
    rw [hf, raisedFloor_outOfRange (by simpa [State.inRange, ht] using k)]
    exact h.outOfRange f k
  · show v[f].phase = _
    rw [hf]
    exact raisedFloor_evacuate (.inl (h.origins f hm k))

/-- Spreading the evacuation around the origin floors makes the phases sound that were so but for these floors. -/
theorem PhasesSound.spread {T : FloorId → Bool} (h : PhasesSound top { s.rge with firstAlarms := [] })
    (ht : s.cfg.topFloor = top) (hn : s.rge.firstAlarms.Nodup)
    (ho : ∀ f ∈ s.rge.firstAlarms, f.val ≤ top → s.rge.floors[f].phase = .evacuate ∨ T f = true) :
    PhasesSound top (spreadEvacuation T s).rge := by
  obtain ⟨v, hv, -, hs⟩ := spreadEvacuation_eq T s
  rw [hv]
  have hev : ∀ f : FloorId, v[f].phase = .evacuate ↔ _ := fun f => (hs f).1
  have hal : ∀ f : FloorId, v[f].phase = .alert ↔ _ := fun f => (hs f).2.1
  refine { h with outOfRange := fun f k => ?_, nodup := hn, origins := fun f hm k => ?_ }
  · have hr : s.inRange f.val = false := by simpa [State.inRange, ht] using k
    have hq : s.rge.floors[f].phase = .quiet := h.outOfRange f k
    have h1 : v[f].phase ≠ .evacuate := fun e => by
      rcases (hev f).1 e with e | ⟨e, -⟩
      · exact absurd (hq.symm.trans e) (by decide)
      · exact absurd (hr.symm.trans e) (by decide)
    have h2 : v[f].phase ≠ .alert := fun e => by
      rcases ((hal f).1 e).2 with e | ⟨e, -⟩
      · exact absurd (hq.symm.trans e) (by decide)
      · exact absurd (hr.symm.trans e) (by decide)
    show v[f].phase = .quiet
    revert h1 h2
    cases v[f].phase <;> simp
  · exact (hev f).2 ((ho f hm k).imp id fun e => ⟨(inRange_iff s f.val).2 (ht ▸ k), e⟩)

theorem AlarmSound.ofAlarm {r : Rge} (h : PhasesSound top r) (ha : r.regime = .alarm) (he : expansionFree top r) :
    AlarmSound top r := { h with rest := fun k => absurd ha k, expansion := he }

theorem PhasesSound.start (h : PhasesSound top s.rge) (ht : s.cfg.topFloor = top) (ha : s.rge.regime = .alarm) :
    AlarmSound top (startExpansion s).rge := by
  subst ht
  rw [startExpansion_rge]
  refine .ofAlarm { h with } ha fun k => ?_
  have hm : s.mayExpand = true := by
    by_contra hm
    exact k (if_neg hm)
  exact ((mayExpand_iff s).1 hm).2

theorem PhasesSound.stop (h : PhasesSound top s.rge) (ha : s.rge.regime = .alarm) :
    AlarmSound top (stopExpansion s).rge := by
  rw [stopExpansion_rge]
  exact .ofAlarm { h with } ha fun k => absurd rfl k

theorem PhasesSound.stopIfAll (h : PhasesSound top s.rge) (ht : s.cfg.topFloor = top) (ha : s.rge.regime = .alarm)
    (hf : s.rge.expansionTimer ≠ none → s.rge.expansionHold = none ∧ s.rge.manual = none) :
    AlarmSound top (stopIfAllEvacuated s).rge := by
  subst ht
  rw [stopIfAllEvacuated_rge]
  refine .ofAlarm { h with } ha fun k => ?_
  have he : ¬ s.allEvacuated = true := fun he => k (if_pos he)
  obtain ⟨h1, h2⟩ := hf fun e => k ((if_neg he).trans e)
  exact ⟨h1, h2, (allEvacuated_eq_false s).1 (by simpa using he)⟩

/-- The phases of an entry to ALARM put the origin floors into EVACUATE (R31). -/
theorem phasesAtEntry_alarmSound (ht : s.cfg.topFloor = top) (h : PhasesSound top { s.rge with firstAlarms := [] })
    (hn : s.rge.firstAlarms.Nodup) (ha : s.rge.regime = .alarm) : AlarmSound top (phasesAtEntry s).rge := by
  have hp := h.spread (T := fun f => aroundFloors s.rge.firstAlarms f || s.cfg.floors[f].alwaysEvacuate) ht hn
    fun f hm _ => .inr (by simp [(aroundFloors_iff s.rge.firstAlarms f).2 ⟨f, hm, near_self 1 f⟩])
  rw [phasesAtEntry_eq]
  obtain ⟨v, hv, -⟩ := spreadEvacuation_eq (fun f => aroundFloors s.rge.firstAlarms f || s.cfg.floors[f].alwaysEvacuate) s
  rw [hv] at hp ⊢
  exact hp.start ht ha

/-- The phases of a new origin floor put it into EVACUATE beside the origin floors that are there (R32). -/
theorem phasesAtOrigin_alarmSound {f : FloorId} (ht : s.cfg.topFloor = top)
    (h : PhasesSound top { s.rge with firstAlarms := [] }) (hn : s.rge.firstAlarms.Nodup)
    (ho : ∀ g ∈ s.rge.firstAlarms, g.val ≤ top → s.rge.floors[g].phase = .evacuate ∨ g = f)
    (ha : s.rge.regime = .alarm)
    (hf : s.rge.expansionTimer ≠ none → s.rge.expansionHold = none ∧ s.rge.manual = none) :
    AlarmSound top (phasesAtOrigin f s).rge := by
  have hp := h.spread (T := fun g => near 1 g f) ht hn fun g hm k => (ho g hm k).imp id fun e => by rw [e]; exact near_self 1 f
  rw [phasesAtOrigin_eq]
  obtain ⟨v, hv, -⟩ := spreadEvacuation_eq (fun g => near 1 g f) s
  rw [hv] at hp ⊢
  exact hp.stopIfAll ht ha hf

/-- Newly alarmed zones of a floor keep the regime sound (R26). -/
theorem regimeAlarmed_alarmSound (floor : Nat) (ht : s.cfg.topFloor = top) (h : AlarmSound top s.rge) :
    AlarmSound top (regimeAlarmed floor s).rge := by
  have hp : PhasesSound top { s.rge with acknowledged := false, silence := none } :=
    { h with silence := fun l k => by cases k }
  have hin : s.inAlarm = true → s.rge.regime = .alarm := by simp [State.inAlarm]
  have hstay : s.inAlarm = true → AlarmSound top { s.rge with acknowledged := false, silence := none } :=
    fun ha => .ofAlarm hp (hin ha) h.expansion
  unfold regimeAlarmed
  split
  · split
    · exact hstay ‹_›
    · exact phasesAtEntry_alarmSound ht { hp.noList with } hp.nodup rfl
  · rename_i f _
    obtain ⟨v, hv, hfl⟩ := appendFloor_eq f (s.withRge { s.rge with acknowledged := false, silence := none })
    have hphase : ∀ g : FloorId, v[g].phase = s.rge.floors[g].phase := fun g => by rw [hfl]; rfl
    have hx : PhasesSound top { s.rge with acknowledged := false, silence := none, floors := v, firstAlarms := [] } :=
      { hp.noList with
        outOfRange := fun g k => (hphase g).trans (h.outOfRange g k)
        origins := fun _ hm => absurd hm List.not_mem_nil }
    have hn : s.rge.firstAlarms.contains f = false → (s.rge.firstAlarms ++ [f]).Nodup := fun k =>
      List.nodup_append.2 ⟨h.nodup, List.nodup_singleton f, fun a ha b hb e => by simp_all⟩
    dsimp only
    rw [hv]
    split
    · split
      · rename_i hnew
        refine phasesAtOrigin_alarmSound ht hx (hn (by simpa using hnew)) ?_ (hin ‹_›)
          fun k => ⟨(h.expansion k).1, (h.expansion k).2.1⟩
        intro g hm k
        rcases List.mem_append.1 hm with hm | hm
        · exact .inl ((hphase g).trans (h.origins g hm k))
        · exact .inr (by simpa using hm)
      · exact hstay ‹_›
    · split
      · rename_i hnew
        exact phasesAtEntry_alarmSound ht { hx with } (hn (by simpa using hnew)) rfl
      · exact phasesAtEntry_alarmSound ht { hp.noList with } hp.nodup rfl
end

/-! ## What an event of the Regime Engine keeps -/

section
variable {s : State}

theorem zonesSound_setZone {z : ZoneId} {r : ZoneRec} (h : ∀ y : ZoneId, y ≠ z → s.rge.zones[y].sound) (hr : r.sound) :
    zonesSound (s.setZone z r).rge := by
  intro y
  rw [setZone_zones, set_fin]
  split
  · exact hr
  · exact h y ‹_›

/-- Replacing one zone record by a sound one. -/
theorem RegimeKept.setZone {z : ZoneId} {r : ZoneRec} (ha : AlarmSound s.cfg.topFloor s.rge)
    (h : ∀ y : ZoneId, y ≠ z → s.rge.zones[y].sound) (hr : r.sound) : RegimeKept (s.setZone z r) :=
  ⟨zonesSound_setZone h hr, ha.withOthers⟩

theorem RegimeKept.deliver (h : RegimeKept s) (es : List Instr) : RegimeKept (s.deliver es) := h

theorem RegimeKept.alarmZones (h : RegimeKept s) (zs : List ZoneId) : RegimeKept (alarmZones zs s) := by
  refine ⟨fun y => ?_, h.2.withOthers⟩
  rw [alarmZones_rge, tab_fin]
  split
  · exact ⟨by simp, by simp⟩
  · exact h.1 y

theorem RegimeKept.regimeAlarmed (h : RegimeKept s) (floor : Nat) : RegimeKept (regimeAlarmed floor s) := by
  constructor
  · intro z
    rw [(regimeAlarmed_move floor s).zones]
    exact h.1 z
  · rw [(regimeAlarmed_rgeOnly s floor).cfg]
    exact regimeAlarmed_alarmSound floor rfl h.2

theorem RegimeKept.enterZoneAlarm (h : RegimeKept s) (z : ZoneId) : RegimeKept (enterZoneAlarm z s) :=
  (h.alarmZones _).regimeAlarmed _

theorem RegimeKept.enterPrealarm {z : ZoneId} (h : RegimeKept s) (hc : s.rge.zones[z].condition = .alarm) :
    RegimeKept (enterPrealarm z s) := by
  have hs : RegimeKept ((s.setZone z
      { s.rge.zones[z] with state := .prealarm, timer := some (s.after (s.cfg.tVerify * 1000)) }).deliver
        [.cfsRegimeDelivery .prealarm]) :=
    RegimeKept.setZone h.2 (fun y _ => h.1 y) ⟨by simp, fun _ => hc⟩
  unfold Machine.enterPrealarm
  dsimp only
  split
  · exact hs
  · exact hs.enterZoneAlarm z

theorem RegimeKept.alarmArrives {z : ZoneId} (h : RegimeKept s) (hc : s.rge.zones[z].condition = .alarm) :
    RegimeKept (alarmArrives z s) := by
  unfold Machine.alarmArrives
  split
  · exact h.enterPrealarm hc
  · split
    · exact (h.deliver _).enterZoneAlarm z
    · exact h.enterZoneAlarm z

/-- A zone acts on the condition that has been recorded for it: its record may disagree with its state until then. -/
theorem conditionActs_kept {z : ZoneId} {c : Condition} (ha : AlarmSound s.cfg.topFloor s.rge)
    (ho : ∀ y : ZoneId, y ≠ z → s.rge.zones[y].sound)
    (ht : s.rge.zones[z].timer ≠ none ↔ s.rge.zones[z].state = .prealarm) (hc : s.rge.zones[z].condition = c) :
    RegimeKept (conditionActs z c s) := by
  have hsound : s.rge.zones[z].sound → RegimeKept s := fun hz =>
    ⟨fun y => if h : y = z then h ▸ hz else ho y h, ha⟩
  have hquiet : s.rge.zones[z].state ≠ .prealarm → RegimeKept s := fun hn => hsound ⟨ht, fun k => absurd k hn⟩
  unfold conditionActs
  dsimp only
  split
  next hst => exact (hquiet (by rw [hst]; decide)).alarmArrives hc
  next hst => exact RegimeKept.setZone ha ho ⟨by rw [hst] at ht; simpa using ht, by simp⟩
  next hst => exact hquiet (by rw [hst]; decide)
  next hst =>
    have hu : ∀ n, RegimeKept (s.setZone z { s.rge.zones[z] with state := .normal, timer := none, unconfirmed := n }) :=
      fun n => RegimeKept.setZone ha ho ⟨by simp, by simp⟩
    unfold unconfirmedReturn
    dsimp only
    split
    · exact (hu _).deliver _
    · exact hu _
  next hst => exact RegimeKept.setZone ha ho ⟨by simp, by simp⟩
  next hst => exact hsound ⟨ht, fun _ => hc⟩
  next hst => exact RegimeKept.setZone ha ho ⟨by rw [hst] at ht; simpa using ht, by simp⟩
  next hst => exact (hquiet (by rw [hst]; decide)).alarmArrives hc
  all_goals next hst => exact hquiet (by rw [hst]; decide)

theorem RegimeKept.arrive (h : RegimeKept s) (z : ZoneId) (c : Condition) : RegimeKept (arrive z c s) := by
  unfold Machine.arrive
  split
  · exact h
  · refine RegimeKept.deliver (conditionActs_kept (s := recordCondition z c s) h.2.withOthers (fun y hy => ?_) ?_ ?_) _
    · rw [recordCondition, setZone_zones, set_fin_other _ _ hy]
      exact h.1 y
    · rw [recordCondition, setZone_zones, set_fin_same]
      exact (h.1 z).1
    · rw [recordCondition, setZone_zones, set_fin_same]

end

section
variable {s : State}

theorem inAlarm_iff (s : State) : s.inAlarm = true ↔ s.rge.regime = .alarm := by simp [State.inAlarm]

theorem RegimeKept.panelLost (h : RegimeKept s) (p : PortId) : RegimeKept (panelLost p s) :=
  foldl_keeps (fun s t => RegimeKept s → RegimeKept t) (fun _ h => h) (fun _ _ _ h k => k ∘ h) _
    (fun _ z h => h.arrive z .fault) _ s h

theorem RegimeKept.zoneReportTaken (h : RegimeKept s) (p : PortId) (es : List (Byte × Byte)) :
    RegimeKept (zoneReportTaken p es s) :=
  foldl_keeps (fun s t => RegimeKept s → RegimeKept t) (fun _ h => h) (fun _ _ _ h k => k ∘ h) _
    (fun s e h => by
      unfold reportEntry
      split
      · exact h.arrive _ _
      · exact h) _ s h

theorem RegimeKept.bypassRemoved (h : RegimeKept s) (z : ZoneId) : RegimeKept (bypassRemoved z s) :=
  RegimeKept.setZone h.2 (fun y _ => h.1 y) (h.1 z)

theorem RegimeKept.impairedWritten (h : RegimeKept s) (f : FloorId) (v : Bool) : RegimeKept (impairedWritten f v s) := by
  refine ⟨h.1, h.2.withFloors fun g => ?_⟩
  rw [modifyRow_fin]
  split
  · rename_i e; rw [e]
  · rfl

/-- A timer or a holding that is present shows that the regime is in ALARM. -/
theorem AlarmSound.inAlarm {top : Nat} {r : Rge} (h : AlarmSound top r)
    (hp : r.expansionTimer ≠ none ∨ r.silence ≠ none ∨ r.evacuateAll ≠ none ∨ r.expansionHold ≠ none ∨ r.manual ≠ none) :
    r.regime = .alarm := by
  by_contra ha
  obtain ⟨h1, h2, h3, h4, h5, -⟩ := h.rest ha
  simp [h1, h2, h3, h4, h5] at hp

theorem expand_eq (s : State) : ∃ u, spreadEvacuation (fun f => s.dilated 1 f) s = u
    ∧ expand s = startExpansion (u.withRge { u.rge with stepCount := saturate 31 u.rge.stepCount }) := ⟨_, rfl, rfl⟩

theorem RegimeKept.expand (h : RegimeKept s) (ht : s.rge.expansionTimer ≠ none) : RegimeKept (expand s) := by
  have hp := h.2.toPhasesSound.noList.spread (T := fun f => s.dilated 1 f) rfl h.2.nodup
    fun f hm k => .inl (h.2.origins f hm k)
  obtain ⟨u, hu, he⟩ := expand_eq s
  obtain ⟨v, hv, -⟩ := spreadEvacuation_eq (fun f => s.dilated 1 f) s
  rw [he]
  rw [hu] at hp hv
  subst hv
  exact ⟨h.1, PhasesSound.start { hp with } rfl (h.2.inAlarm (.inl ht))⟩

theorem RegimeKept.endManual (h : RegimeKept s) (hm : s.rge.manual ≠ none) : RegimeKept (endManual s) := by
  have hp : PhasesSound s.cfg.topFloor { s.rge with manual := none } := { h.2 with manual := fun l k => by cases k }
  have hr := PhasesSound.raise (s := s.withRge { s.rge with manual := none }) (fun f =>
    if (s.withRge { s.rge with manual := none }).dilated s.cfg.alertSpan f
      && !(s.withRge { s.rge with manual := none }).evacuated f then .alert else .quiet) hp rfl
  obtain ⟨v, hv, -⟩ := raiseFloors_eq (fun f =>
    if (s.withRge { s.rge with manual := none }).dilated s.cfg.alertSpan f
      && !(s.withRge { s.rge with manual := none }).evacuated f then .alert else .quiet)
    (s.withRge { s.rge with manual := none })
  rw [hv] at hr
  unfold Machine.endManual recomputeAlert
  rw [withRge_cfg, hv]
  exact ⟨h.1, hr.start rfl (h.2.inAlarm (by simp [hm]))⟩

theorem RegimeKept.commandStationLost (h : RegimeKept s) : RegimeKept (commandStationLost s) := by
  unfold Machine.commandStationLost
  split
  · rename_i hm
    exact h.endManual (by simpa [Option.isSome_iff_ne_none] using hm)
  · exact h

/-! ## The regime commands -/

theorem levelFits_none : levelFits none := fun l k => by cases k

theorem levelFits_raiseHolding {h : Option Nat} {level : Nat} (hh : levelFits h) (hl : level ≤ 3) :
    levelFits (raiseHolding h level) := by
  intro l k
  obtain rfl : max (h.getD 0) level = l := by simpa [raiseHolding] using k
  cases h with
  | none => simpa using hl
  | some n => exact max_le (hh n rfl) hl

theorem authority_le (r : PortRole) : authority r ≤ 3 := by cases r <;> decide

/-- In ALARM only the levels of holdings change. -/
theorem RegimeKept.cmdAcknowledge (h : RegimeKept s) : RegimeKept (cmdAcknowledge s).1 := by
  refine ⟨h.1, { h.2 with rest := fun k => ?_, expansion := h.2.expansion }⟩
  have ha : s.inAlarm = false := by
    rw [← Bool.not_eq_true, inAlarm_iff]
    exact k
  exact { h.2.rest k with acknowledged := ha }

theorem RegimeKept.cmdSilence {level : Nat} (h : RegimeKept s) (hl : level ≤ 3) : RegimeKept (cmdSilence level s).1 := by
  unfold Machine.cmdSilence
  split
  · rename_i ha
    rw [Bool.and_eq_true, inAlarm_iff] at ha
    exact ⟨h.1, .ofAlarm { h.2 with silence := levelFits_raiseHolding h.2.silence hl } ha.1 h.2.expansion⟩
  · exact h

theorem RegimeKept.cmdResound (h : RegimeKept s) (level : Nat) : RegimeKept (cmdResound level s).1 := by
  unfold Machine.cmdResound
  split
  · exact h
  · split
    · exact h
    · exact ⟨h.1, { h.2 with
        silence := levelFits_none, rest := fun k => { h.2.rest k with silence := rfl }, expansion := h.2.expansion }⟩

theorem RegimeKept.cmdEvacuateAll {level : Nat} (h : RegimeKept s) (hl : level ≤ 3) :
    RegimeKept (cmdEvacuateAll level s).1 := by
  obtain ⟨u, hu, hp, hz, ha, hc⟩ : ∃ u, u = (if s.inAlarm then s else enterAlarm s)
      ∧ PhasesSound s.cfg.topFloor u.rge ∧ zonesSound u.rge ∧ u.rge.regime = .alarm ∧ u.cfg = s.cfg := by
    refine ⟨_, rfl, ?_⟩
    split
    · rename_i ha
      exact ⟨h.2.toPhasesSound, h.1, (inAlarm_iff s).1 ha, rfl⟩
    · exact ⟨{ h.2 with }, h.1, rfl, rfl⟩
  obtain ⟨w, hw⟩ : ∃ w, w = u.withRge { u.rge with evacuateAll := raiseHolding u.rge.evacuateAll level } := ⟨_, rfl⟩
  have hwp : PhasesSound s.cfg.topFloor w.rge := by
    rw [hw]
    exact { hp with evacuateAll := levelFits_raiseHolding hp.evacuateAll hl }
  have hr := hwp.raise (fun _ => .evacuate) (by rw [hw, withRge_cfg, hc])
  obtain ⟨v, hv, -⟩ := raiseFloors_eq (fun _ => .evacuate) w
  unfold Machine.cmdEvacuateAll
  dsimp only
  rw [← hu, ← hw]
  rw [hv] at hr ⊢
  have hs := hr.stop (by rw [hw]; exact ha)
  subst hw
  refine ⟨hz, ?_⟩
  show AlarmSound u.cfg.topFloor _
  rw [hc]
  exact hs

theorem RegimeKept.cmdCancelEvacuateAll (h : RegimeKept s) (level : Nat) :
    RegimeKept (cmdCancelEvacuateAll level s).1 := by
  unfold Machine.cmdCancelEvacuateAll
  split
  · exact h
  · split
    · exact h
    · exact ⟨h.1, { h.2 with
        evacuateAll := levelFits_none, rest := fun k => { h.2.rest k with evacuateAll := rfl }, expansion := h.2.expansion }⟩

theorem RegimeKept.cmdHoldExpansion {level : Nat} (h : RegimeKept s) (hl : level ≤ 3) :
    RegimeKept (cmdHoldExpansion level s).1 := by
  unfold Machine.cmdHoldExpansion
  split
  · rename_i ha
    exact ⟨h.1, PhasesSound.stop { h.2 with expansionHold := levelFits_raiseHolding h.2.expansionHold hl }
      ((inAlarm_iff s).1 (by simpa using ha))⟩
  · exact h

theorem RegimeKept.cmdReleaseExpansion (h : RegimeKept s) (level : Nat) : RegimeKept (cmdReleaseExpansion level s).1 := by
  unfold Machine.cmdReleaseExpansion
  split
  · exact h
  · split
    · exact h
    · rename_i hs _
      exact ⟨h.1, PhasesSound.start (s := s.withRge _) { h.2 with expansionHold := levelFits_none } rfl
        (h.2.inAlarm (by simp [Option.isNone_iff_eq_none] at hs; simp [hs]))⟩

theorem RegimeKept.cmdTakeManualControl (h : RegimeKept s) : RegimeKept (cmdTakeManualControl s).1 := by
  unfold Machine.cmdTakeManualControl
  split
  · exact h
  · split
    · exact h
    · rename_i ha _
      exact ⟨h.1, PhasesSound.stop { h.2 with manual := fun l k => by cases k; decide }
        ((inAlarm_iff s).1 (by simpa using ha))⟩

theorem RegimeKept.cmdSetFloorPhase (h : RegimeKept s) (a b : Byte) : RegimeKept (cmdSetFloorPhase a b s).1 := by
  unfold Machine.cmdSetFloorPhase
  split
  · rename_i f p _ _
    split
    · exact h
    · rename_i hm
      have hm : s.rge.manual ≠ none := fun e => hm (by simp [e])
      have hr := h.2.toPhasesSound.raise (fun g => if g == f then p else .quiet) rfl
      obtain ⟨v, hv, -⟩ := raiseFloors_eq (fun g => if g == f then p else .quiet) s
      rw [hv] at hr
      dsimp only
      rw [hv]
      exact ⟨h.1, hr.stopIfAll rfl (h.2.inAlarm (by simp [hm]))
        fun k => ⟨(h.2.expansion k).1, (h.2.expansion k).2.1⟩⟩
  · exact h

theorem RegimeKept.cmdReturnToAutomatic (h : RegimeKept s) (level : Nat) :
    RegimeKept (cmdReturnToAutomatic level s).1 := by
  unfold Machine.cmdReturnToAutomatic
  split
  · exact h
  · split
    · exact h
    · rename_i hm _
      exact h.endManual fun e => hm (by simp [e])

theorem resetZone_sound {r : ZoneRec} (h : r.sound) : (resetZone r).sound := by
  unfold resetZone
  split
  · exact ⟨by split <;> simp, by split <;> simp⟩
  all_goals exact h

/-- An accepted REGIME RESET leaves nothing of the alarm (R44). -/
theorem RegimeKept.regimeResetEffects (h : RegimeKept s) : RegimeKept (regimeResetEffects s) := by
  obtain ⟨zs, hzs, hz⟩ : ∃ zs : Vector ZoneRec 64, zs = (tab fun z => resetZone s.rge.zones[z])
      ∧ ∀ z : ZoneId, zs[z].sound := ⟨_, rfl, fun z => by rw [tab_fin]; exact resetZone_sound (h.1 z)⟩
  obtain ⟨v, hv, hf⟩ : ∃ v : Vector FloorRec 32, v = (tab fun f : FloorId =>
      if s.inRange f.val then resetFloor s.rge.floors[f] else { s.rge.floors[f] with origin := false })
      ∧ ∀ f : FloorId, v[f].phase = .quiet := by
    refine ⟨_, rfl, fun f => ?_⟩
    rw [tab_fin]
    split
    · rfl
    · rename_i hr
      exact h.2.outOfRange f (by simpa [State.inRange] using hr)
  unfold Machine.regimeResetEffects
  rw [← hzs, ← hv]
  exact ⟨hz, {
    silence := levelFits_none, evacuateAll := levelFits_none, expansionHold := levelFits_none, manual := levelFits_none
    outOfRange := fun f _ => hf f, nodup := List.nodup_nil, origins := fun f hm => absurd hm List.not_mem_nil
    rest := fun _ => ⟨rfl, rfl, rfl, rfl, rfl, rfl, rfl, hf⟩
    expansion := fun k => absurd rfl k }⟩

theorem RegimeKept.cmdRegimeReset (h : RegimeKept s) (level : Nat) : RegimeKept (cmdRegimeReset level s).1 := by
  unfold Machine.cmdRegimeReset
  split
  · exact h
  · split
    · exact h
    · split
      · exact h
      · exact h.regimeResetEffects

theorem RegimeKept.cmdIsolateZone (h : RegimeKept s) (p : PortId) (n : Byte) : RegimeKept (cmdIsolateZone p n s).1 := by
  have hi : ∀ z, RegimeKept (isolate z s) := fun z =>
    RegimeKept.setZone h.2 (fun y _ => h.1 y) ⟨by simp, by simp⟩
  unfold Machine.cmdIsolateZone
  split
  · exact h
  · split
    · exact h
    · split
      · exact h
      · exact h
      all_goals exact hi _

theorem RegimeKept.restore (h : RegimeKept s) {z : ZoneId} (hz : s.rge.zones[z].state = .isolated) :
    RegimeKept (restore z s) := by
  refine conditionActs_kept (s := (s.setZone z { s.rge.zones[z] with state := .normal }).clear .zoneIsolated z.val)
    h.2.withOthers (fun y hy => ?_) ?_ ?_
  · rw [clear_rge, setZone_zones, set_fin_other _ _ hy]
    exact h.1 y
  · rw [clear_rge, setZone_zones, set_fin_same]
    have := (h.1 z).1
    rw [hz] at this
    simpa using this
  · rw [clear_rge, setZone_zones, set_fin_same]

theorem RegimeKept.cmdRestoreZone (h : RegimeKept s) (p : PortId) (n : Byte) : RegimeKept (cmdRestoreZone p n s).1 := by
  unfold Machine.cmdRestoreZone
  split
  · exact h
  · split
    · exact h
    · split
      · exact h
      · rename_i hz
        exact h.restore (by simpa using hz)

/-! ## The end of an event -/

theorem recountFloors_phase (s : State) (f : FloorId) : (recountFloors s).rge.floors[f].phase = s.rge.floors[f].phase := by
  rw [recountFloors_rge, tab_fin]

theorem recountFloors_zonesIn (s : State) (st : ZoneState) (n : Nat) : (recountFloors s).zonesIn st n = s.zonesIn st n :=
  zonesIn_congr (recountFloors_rgeOnly s).cfg (by rw [recountFloors_rge]) st n

theorem settleRegime_zonesIn (s : State) (st : ZoneState) (n : Nat) : (settleRegime s).zonesIn st n = s.zonesIn st n :=
  zonesIn_congr (settleRegime_rgeOnly s).cfg (by rw [settleRegime_rge]) st n

theorem recountFloors_counted (s : State) : zonesCounted (recountFloors s) := by
  intro f
  rw [recountFloors_zonesIn, recountFloors_zonesIn, recountFloors_rge, tab_fin]
  exact ⟨rfl, rfl⟩

theorem settleRegime_counted (h : zonesCounted s) : zonesCounted (settleRegime s) := by
  intro f
  rw [settleRegime_zonesIn, settleRegime_zonesIn, settleRegime_rge]
  exact h f

theorem settleRegime_settled (s : State) : regimeSettled (settleRegime s) := by
  unfold regimeSettled
  rw [anyPrealarm_congr (settleRegime_rgeOnly s).cfg (by rw [settleRegime_rge]), settleRegime_rge]
  dsimp only
  split
  · exact .inl rfl
  · exact .inr rfl

theorem settleRegime_regime (s : State) : (settleRegime s).rge.regime = .alarm ↔ s.rge.regime = .alarm := by
  rw [settleRegime_rge, ← inAlarm_iff]
  dsimp only
  split
  · simp [*]
  · split <;> simp [*]

/-- The end of an event of RGE makes the counts and the regime state anew (R21, R24). -/
theorem regimeSound_ends (h : RegimeKept s) : regimeSound (settleRegime (recountFloors s)) := by
  rw [regimeSound_iff]
  refine ⟨settleRegime_counted (recountFloors_counted s), settleRegime_settled _, ?_, ?_⟩
  · rw [settleRegime_rge, recountFloors_rge]
    intro z
    exact h.1 z
  · have hc : AlarmSound s.cfg.topFloor (recountFloors s).rge := by
      rw [recountFloors_rge]
      exact h.2.withFloors (recountFloors_phase s)
    have hr := hc.withRegime (settleRegime_regime (recountFloors s)).symm
    rw [(settleRegime_rgeOnly _).cfg, (recountFloors_rgeOnly s).cfg, settleRegime_rge]
    rw [settleRegime_rge] at hr
    exact hr

end

/-! ## What the other blocks leave of the regime -/

/-- The configuration, CONFIG FAULT and the Regime Engine but for its change counter are as they were. -/
def sameRegime (s t : State) : Prop :=
  t.cfg = s.cfg ∧ t.configFault = s.configFault ∧ t.rge = { s.rge with changeCounter := t.rge.changeCounter }

section
variable {s t u : State}

theorem sameRegime.refl (s : State) : sameRegime s s := ⟨rfl, rfl, rfl⟩

theorem sameRegime.trans (h : sameRegime s t) (k : sameRegime t u) : sameRegime s u := by
  obtain ⟨h1, h2, h3⟩ := h
  obtain ⟨k1, k2, k3⟩ := k
  refine ⟨k1.trans h1, k2.trans h2, ?_⟩
  rw [k3, h3]

theorem lscOnly.same (h : lscOnly s t) : sameRegime s t := by rw [lscOnly] at h; rw [h]; exact ⟨rfl, rfl, rfl⟩
theorem lfcOnly.same (h : lfcOnly s t) : sameRegime s t := by rw [lfcOnly] at h; rw [h]; exact ⟨rfl, rfl, rfl⟩
theorem dsqOnly.same (h : dsqOnly s t) : sameRegime s t := by rw [dsqOnly] at h; rw [h]; exact ⟨rfl, rfl, rfl⟩
theorem chrOnly.same (h : chrOnly s t) : sameRegime s t := by rw [chrOnly] at h; rw [h]; exact ⟨rfl, rfl, rfl⟩
theorem tnqOnly.same (h : tnqOnly s t) : sameRegime s t := by rw [tnqOnly] at h; rw [h]; exact ⟨rfl, rfl, rfl⟩
theorem trlOnly.same (h : trlOnly s t) : sameRegime s t := by rw [trlOnly] at h; rw [h]; exact ⟨rfl, rfl, rfl⟩
theorem cfsOnly.same (h : cfsOnly s t) : sameRegime s t := by rw [cfsOnly] at h; rw [h]; exact ⟨rfl, rfl, rfl⟩
theorem linksOnly.same (h : linksOnly s t) : sameRegime s t := by rw [linksOnly] at h; rw [h]; exact ⟨rfl, rfl, rfl⟩

theorem deliver_same (s : State) (es : List Instr) : sameRegime s (s.deliver es) := ⟨rfl, rfl, rfl⟩

theorem countChange_same (a : Agent) (s t : State) : sameRegime t (countChange a s t) := ⟨rfl, rfl, rfl⟩

theorem sameRegime.event {f : State → State} (h : sameRegime s (f s)) (a : Agent) : sameRegime s (event a f s) :=
  h.trans (countChange_same a s _)

/-- Soundness sees the configuration and the Regime Engine but for its change counter. -/
theorem sameRegime.kept (h : sameRegime s t) (hs : RegimeKept s) : RegimeKept t := by
  obtain ⟨hc, -, hr⟩ := h
  unfold RegimeKept
  rw [hr, hc]
  exact ⟨fun z => hs.1 z, hs.2.withOthers⟩

theorem sameRegime.sound (h : sameRegime s t) (hs : regimeSound s) : regimeSound t := by
  have hk := h.kept ((regimeSound_iff s).1 hs).2.2
  obtain ⟨hcount, hsettled, -⟩ := (regimeSound_iff s).1 hs
  obtain ⟨hc, -, hr⟩ := h
  have hz : t.rge.zones = s.rge.zones := by rw [hr]
  refine (regimeSound_iff t).2 ⟨fun f => ?_, ?_, hk⟩
  · rw [zonesIn_congr hc hz, zonesIn_congr hc hz, hr]
    exact hcount f
  · unfold regimeSettled
    rw [anyPrealarm_congr hc hz, hr]
    exact hsettled
end

/-! ## Operations that keep the Regime Engine sound -/

/-- An operation keeps the Regime Engine sound. -/
def KeepsRegime (f : State → State) : Prop := ∀ s : State, regimeSound s → regimeSound (f s)

theorem KeepsRegime.of_same {f : State → State} (h : ∀ s, sameRegime s (f s)) : KeepsRegime f := fun s => (h s).sound

theorem KeepsRegime.onDelivery {f : State → State} (h : KeepsRegime f) (e : Instr) : KeepsRegime (onDelivery e f) :=
  fun s hs => onDelivery_keeps (fun s t => regimeSound s → regimeSound t) (fun h => h)
    (fun hs => h _ (sameRegime.sound (s := s) ⟨rfl, rfl, rfl⟩ hs)) hs

/-- An event of RGE keeps the Regime Engine sound when its change keeps the invariant within an event. -/
theorem regimeSound_rgeEvent {f : State → State} {s : State} (h : RegimeKept (f s)) : regimeSound (rgeEvent f s) := by
  have hd : sameRegime (settleRegime (recountFloors (f s))) (rgeChange f s) := deliver_same _ _
  exact (hd.trans (countChange_same .rge s _)).sound (regimeSound_ends h)

theorem regimeSound.kept {s : State} (h : regimeSound s) : RegimeKept s := ((regimeSound_iff s).1 h).2.2

theorem KeepsRegime.rgeEvent {f : State → State} (h : ∀ s, RegimeKept s → RegimeKept (f s)) :
    KeepsRegime (rgeEvent f) := fun s hs => regimeSound_rgeEvent (h s hs.kept)

theorem KeepsRegime.id : KeepsRegime fun s => s := fun _ h => h

theorem KeepsRegime.ite {c : State → Bool} {f g : State → State} (hf : KeepsRegime f) (hg : KeepsRegime g) :
    KeepsRegime fun s => if c s then f s else g s := by
  intro s hs
  dsimp only
  split
  · exact hf s hs
  · exact hg s hs

theorem KeepsRegime.ifDue {c : State → Bool} {f : State → State} (h : KeepsRegime f) :
    KeepsRegime fun s => if c s then f s else s := h.ite .id

section
variable {f : State → State}
theorem KeepsRegime.lfc (h : ∀ s, lfcOnly s (f s)) : KeepsRegime (event .lfc f) := .of_same fun s => (h s).same.event _
theorem KeepsRegime.tnq (h : ∀ s, tnqOnly s (f s)) : KeepsRegime (event .tnq f) := .of_same fun s => (h s).same.event _
theorem KeepsRegime.trl (h : ∀ s, trlOnly s (f s)) : KeepsRegime (event .trl f) := .of_same fun s => (h s).same.event _
theorem KeepsRegime.cfs (h : ∀ s, cfsOnly s (f s)) : KeepsRegime (event .cfs f) := .of_same fun s => (h s).same.event _
theorem KeepsRegime.dsq (h : ∀ s, dsqOnly s (f s)) : KeepsRegime (dsqEvent f) :=
  .of_same fun s => (dsqChange_dsqOnly s f (h s)).same.event .dsq
theorem KeepsRegime.cue (h : ∀ s, chrOnly s (f s)) : KeepsRegime (cueEvent f) :=
  .of_same fun s => (cueChange_chrOnly s f (h s)).same.event .cue
theorem KeepsRegime.chr (h : ∀ s, chrOnly s (f s)) : KeepsRegime (chrEvent f) :=
  .of_same fun s => (chrChange_chrOnly s f (h s)).same.event .chr
end

/-! ## Requests -/

/-- The block that decides a request is the same in states of one configuration. -/
theorem serveHome_congr {s t : State} (hc : t.cfg = s.cfg) (hf : t.configFault = s.configFault) (p : PortId) (kind : Byte)
    (body : List Byte) : serveHome p kind body t = serveHome p kind body s := by
  have hr : t.role p = s.role p := by rw [State.role, hc]; rfl
  have hk : t.requestCheck p kind body = s.requestCheck p kind body := by
    unfold State.requestCheck
    rw [hf, hr]
  unfold serveHome
  rw [hk]
  split
  · rfl
  · split <;> simp only [commandHome, hr]

/-- A command that RGE does not decide leaves the regime, and every command keeps its invariant (R165). -/
theorem decideCommand_regime (p : PortId) (code : Nat) (args : List Byte) (s : State) :
    (13 < code → sameRegime s (decideCommand p code args s).1)
      ∧ (RegimeKept s → RegimeKept (decideCommand p code args s).1) := by
  have hl := authority_le (s.role p)
  have hother : ∀ t, sameRegime s t → (13 < code → sameRegime s t) ∧ (RegimeKept s → RegimeKept t) :=
    fun t h => ⟨fun _ => h, h.kept⟩
  unfold decideCommand
  dsimp only
  split
  next => exact ⟨fun h => absurd h (by decide), fun h => h.cmdAcknowledge⟩
  next => exact ⟨fun h => absurd h (by decide), fun h => h.cmdSilence hl⟩
  next => exact ⟨fun h => absurd h (by decide), fun h => h.cmdResound _⟩
  next => exact ⟨fun h => absurd h (by decide), fun h => h.cmdRegimeReset _⟩
  next => exact ⟨fun h => absurd h (by decide), fun h => h.cmdEvacuateAll hl⟩
  next => exact ⟨fun h => absurd h (by decide), fun h => h.cmdCancelEvacuateAll _⟩
  next => exact ⟨fun h => absurd h (by decide), fun h => h.cmdHoldExpansion hl⟩
  next => exact ⟨fun h => absurd h (by decide), fun h => h.cmdReleaseExpansion _⟩
  next => exact ⟨fun h => absurd h (by decide), fun h => h.cmdIsolateZone _ _⟩
  next => exact ⟨fun h => absurd h (by decide), fun h => h.cmdRestoreZone _ _⟩
  next => exact ⟨fun h => absurd h (by decide), fun h => h.cmdTakeManualControl⟩
  next => exact ⟨fun h => absurd h (by decide), fun h => h.cmdSetFloorPhase _ _⟩
  next => exact ⟨fun h => absurd h (by decide), fun h => h.cmdReturnToAutomatic _⟩
  next => exact hother _ (cmdRecallBank_lfcOnly s _).same
  next => exact hother _ (cmdCancelRecall_lfcOnly s _).same
  next => exact hother _ (cmdAuthorisePhaseII_lfcOnly s _).same
  next => exact hother _ (cmdWithdrawPhaseII_lfcOnly s _).same
  next => exact hother _ (cmdReleaseAllDoors_dsqOnly s).same
  next => exact hother _ (cmdMonitorSelect_chrOnly s _ _).same
  next => exact hother _ (.refl s)

theorem serveAnnounce_same (p : PortId) (sub : Byte) (args : List Byte) (s : State) :
    sameRegime s (serveAnnounce p sub args s).1 := by
  unfold serveAnnounce
  split
  · exact (cmdAnnounceTenant_tnqOnly s _ _).same
  · exact (cmdAnnounceCancel_tnqOnly s _).same
  · split
    · exact (cmdLiveStart_chrOnly s _ _).same
    · exact .refl s
  · split
    · exact (cmdLiveStop_chrOnly s _).same
    · exact .refl s
  · exact .refl s

theorem serveCarReport_same (p : PortId) (body : List Byte) (s : State) : sameRegime s (serveCarReport p body s).1 := by
  unfold serveCarReport
  split
  · exact (carReportTaken_lfcOnly s _ _).same
  · exact .refl s

theorem serveCommand_regime (p : PortId) (code : Byte) (args : List Byte) (s : State) :
    (commandHome p code s ≠ .rge → sameRegime s (serveCommand p code args s).1)
      ∧ (RegimeKept s → RegimeKept (serveCommand p code args s).1) := by
  unfold serveCommand
  split
  · exact ⟨fun _ => .refl s, id⟩
  · split
    · exact ⟨fun _ => .refl s, id⟩
    · rename_i hk hr
      obtain ⟨hsame, hkept⟩ := decideCommand_regime p code.toNat args s
      refine ⟨fun h => hsame (by_contra fun hle => h ?_), hkept⟩
      unfold commandHome
      rw [if_neg (by simp [hk, hr]), if_pos (by omega)]

theorem serve_kept (p : PortId) (kind : Byte) (body : List Byte) {s : State} (h : RegimeKept s) :
    RegimeKept (serve p kind body s).1 := by
  unfold serve
  split
  · exact h
  · unfold serveKind
    split
    next => exact h
    next => exact h.zoneReportTaken p _
    next => exact (serveCommand_regime p _ _ s).2 h
    next => exact (serveCarReport_same p body s).kept h
    next => exact h
    next => exact (serveAnnounce_same p _ _ s).kept h
    next => exact (configure_cfsOnly s p _ _).same.kept h

/-- A request that another block than RGE decides leaves the regime (R164, R165). -/
theorem serve_same (p : PortId) (kind : Byte) (body : List Byte) {s : State} (h : serveHome p kind body s ≠ .rge) :
    sameRegime s (serve p kind body s).1 := by
  unfold serve
  split
  · exact .refl s
  · rename_i hc
    unfold serveHome at h
    rw [hc] at h
    dsimp only at h
    unfold serveKind
    split
    next => exact .refl s
    next hk => rw [hk] at h; exact absurd rfl h
    next hk => rw [hk] at h; exact (serveCommand_regime p _ _ s).1 h
    next => exact serveCarReport_same p body s
    next => exact .refl s
    next => exact serveAnnounce_same p _ _ s
    next => exact (configure_cfsOnly s p _ _).same

theorem presenceOnFrame_same (p : PortId) (s : State) : sameRegime s (presenceOnFrame p s) :=
  (presenceOnFrame_linksOnly s p).same

theorem takeOwnPresence_same (p : PortId) (s : State) : sameRegime s (takeOwnPresence p s) := by
  unfold takeOwnPresence
  split
  · rename_i q r _
    exact sameRegime.trans (t := s.taken (.lfcPresenceChange q r)) ⟨rfl, rfl, rfl⟩ (presenceAtLfc_lfcOnly _ q r).same
  · exact .refl s

theorem beforeService_same (p : PortId) (home : Agent) (s : State) : sameRegime s (beforeService p home s) := by
  unfold beforeService
  split
  · exact (presenceOnFrame_same p s).trans (takeOwnPresence_same p _)
  · exact presenceOnFrame_same p s

theorem prepare_same (p : PortId) (a : Answer) (at_ : Nat) (s : State) : sameRegime s (prepare p a at_ s) :=
  (prepare_linksOnly s p a at_).same

/-- Serving a frame and preparing its answer keeps the invariant, and leaves the regime when another block than RGE decides. -/
theorem serveFrame_regime (p : PortId) (home : Agent) (kind : Byte) (body : List Byte) (at_ : Nat) (s : State)
    (hh : serveHome p kind body s = home) :
    (home ≠ .rge → sameRegime s (serveFrame p home kind body at_ s))
      ∧ (RegimeKept s → RegimeKept (serveFrame p home kind body at_ s)) := by
  have hb := beforeService_same p home s
  refine ⟨fun h => (hb.trans (serve_same p kind body ?_)).trans (prepare_same p _ _ _),
    fun h => (prepare_same p _ _ _).kept (serve_kept p kind body (hb.kept h))⟩
  rwa [serveHome_congr hb.1 hb.2.1, hh]

/-- A block that takes an earlier delivery of a port keeps the Regime Engine sound, under the same configuration. -/
theorem takePortDelivery_keeps (s : State) (e : Instr) :
    ((takePortDelivery s e).cfg = s.cfg ∧ (takePortDelivery s e).configFault = s.configFault)
      ∧ (regimeSound s → regimeSound (takePortDelivery s e)) := by
  have hsame : ∀ t, sameRegime s t → (t.cfg = s.cfg ∧ t.configFault = s.configFault) ∧ (regimeSound s → regimeSound t) :=
    fun t h => ⟨⟨h.1, h.2.1⟩, h.sound⟩
  have htaken : sameRegime s (s.taken e) := ⟨rfl, rfl, rfl⟩
  have hrge : ∀ f : State → State, (∀ u, rgeOnly u (f u)) → (∀ u, RegimeKept u → RegimeKept (f u)) →
      ((onDelivery e (rgeEvent f) s).cfg = s.cfg ∧ (onDelivery e (rgeEvent f) s).configFault = s.configFault)
        ∧ (regimeSound s → regimeSound (onDelivery e (rgeEvent f) s)) := by
    intro f ho hk
    refine ⟨?_, KeepsRegime.onDelivery (KeepsRegime.rgeEvent hk) e s⟩
    refine onDelivery_keeps (fun s t => t.cfg = s.cfg ∧ t.configFault = s.configFault) ⟨rfl, rfl⟩ ?_
    have h := rgeChange_rgeOnly (s.taken e) f (ho _)
    exact ⟨event_cfg.trans (h.cfg.trans (taken_cfg s e)), event_configFault.trans (h.configFault.trans (taken_configFault s e))⟩
  unfold takePortDelivery
  split
  · exact hrge _ (fun u => panelLost_rgeOnly u _) fun u h => h.panelLost _
  · exact hrge _ (fun u => commandStationLost_rgeOnly u) fun u h => h.commandStationLost
  · exact hsame _ (onDelivery_keeps sameRegime (.refl s) ⟨rfl, rfl, rfl⟩)
  · exact hsame _ (onDelivery_keeps sameRegime (.refl s) (htaken.trans ((presenceAtLfc_lfcOnly _ _ _).same.event _)))
  · exact hsame _ (onDelivery_keeps sameRegime (.refl s)
      (htaken.trans ((chrChange_chrOnly _ _ (portLostAtChr_chrOnly _ _)).same.event .chr)))
  · exact hsame _ (.refl s)

theorem takeEarlier_keeps (p : PortId) (home : Agent) (s : State) :
    ((takeEarlier p home s).cfg = s.cfg ∧ (takeEarlier p home s).configFault = s.configFault)
      ∧ (regimeSound s → regimeSound (takeEarlier p home s)) :=
  foldl_keeps (fun s t => (t.cfg = s.cfg ∧ t.configFault = s.configFault) ∧ (regimeSound s → regimeSound t))
    (fun _ => ⟨⟨rfl, rfl⟩, id⟩)
    (fun _ _ _ h k => ⟨⟨k.1.1.trans h.1.1, k.1.2.trans h.1.2⟩, k.2 ∘ h.2⟩) _ takePortDelivery_keeps _ s

/-- What a block other than RGE does at the end of its events leaves the regime. -/
theorem blockChange_same {home : Agent} (h : home ≠ .rge) (f : State → State) (s : State) :
    sameRegime (f s) (blockChange home f s) := by
  cases home with
  | rge => exact absurd rfl h
  | dsq => exact deliver_same _ _
  | chr =>
    exact (((kickPort_chrOnly (f s)).trans (remonitorIfMoved_chrOnly s (kickPort (f s)))).trans (deliver_chrOnly _ _)).same
  | lsc | lfc | cue | tnq | trl | cfs | port => exact .refl _

/-- A frame that a port takes keeps the Regime Engine sound, whichever block decides it (R161, R164). -/
theorem KeepsRegime.takeFrame (p : PortId) (kind : Byte) (body : List Byte) (at_ : Nat) :
    KeepsRegime (takeFrame p kind body at_) := by
  intro s hs
  obtain ⟨⟨hc, hf⟩, hsound⟩ := takeEarlier_keeps p (serveHome p kind body s) s
  have hhome := serveHome_congr hc hf p kind body
  replace hsound := hsound hs
  unfold Machine.takeFrame
  dsimp only
  generalize serveHome p kind body s = home at hhome hsound ⊢
  generalize takeEarlier p home s = u at hhome hsound ⊢
  obtain ⟨hsame, hkept⟩ := serveFrame_regime p home kind body at_ u hhome
  by_cases hr : home = .rge
  · subst hr
    exact regimeSound_rgeEvent (hkept hsound.kept)
  · exact (sameRegime.event ((hsame hr).trans (blockChange_same hr _ u)) home).sound hsound

/-! ## Frames and characters -/

theorem mapPort_same (p : PortId) (f : PortRec → PortRec) (s : State) : sameRegime s (s.mapPort p f) :=
  (setPort_linksOnly s p _).same

theorem KeepsRegime.frameArrives (p : PortId) (kind : Byte) (body : List Byte) : KeepsRegime (frameArrives p kind body) := by
  intro s hs
  unfold Machine.frameArrives
  split
  · split
    · exact KeepsRegime.takeFrame p kind body _ _ ((abandon_linksOnly s p).same.sound hs)
    · exact ((mapPort_same p _ s).trans ((receiveFails_linksOnly _ p _).same.event _)).sound hs
  · exact hs

theorem KeepsRegime.hearCharacter (p : PortId) (b : Heard) : KeepsRegime (hearCharacter p b) := by
  intro s hs
  have hu : regimeSound (lineIdle p (s.instantAt b.us) s) := (mapPort_same p _ s).sound hs
  unfold Machine.hearCharacter
  dsimp only
  generalize lineIdle p (s.instantAt b.us) s = u at hu
  unfold received
  split
  · exact ((receiveFails_linksOnly u p _).same.event _).sound hu
  · exact (addressTaken_linksOnly u p _).same.sound hu
  · exact (frameStarted_linksOnly u p _).same.sound hu
  · exact (mapPort_same p _ u).sound hu
  · exact KeepsRegime.takeFrame p _ _ _ u hu
  · exact (mapPort_same p _ u).sound hu
  · exact hu

theorem graceEnds_same (s : State) : sameRegime s (graceEnds s) :=
  (withLinks_linksOnly s _).same.trans
    (foldl_keeps sameRegime .refl (fun _ _ _ => sameRegime.trans) graceEndsAt (fun s p => by
      unfold graceEndsAt
      split
      · exact (losePort_linksOnly s p).same.event _
      · exact .refl s) _ _)

/-! ## Starts -/

theorem readLines_same (s : State) : sameRegime s (readLines s) :=
  sameRegime.event (dsqChange_dsqOnly s _
    (foldl_keeps dsqOnly (fun _ => rfl) (fun _ _ _ => dsqOnly.trans) readLine (fun s g => by
      unfold readLine
      dsimp only
      split
      · exact takeRequest_dsqOnly s g
      · split
        · exact handBack_dsqOnly s g
        · exact dsqOnly.refl s) _ s)).same .dsq

theorem reset_zones (z : ZoneId) : State.reset.rge.zones[z] = ⟨.normal, .clear, 0, none⟩ := by
  simp [State.reset]

theorem reset_floors (f : FloorId) : State.reset.rge.floors[f] = ⟨.quiet, 0, 0, false, false, 0⟩ := by
  simp [State.reset]

/-- The Regime Engine at its cold-start values is sound under every configuration (R20, R47). -/
theorem regimeSound_cold {s : State} (h : s.rge = State.reset.rge) : regimeSound s := by
  have hno : ∀ st ≠ ZoneState.normal, ∀ n, s.zonesIn st n = [] := by
    intro st hst n
    unfold State.zonesIn
    rw [h, List.filter_eq_nil_iff]
    intro z _
    rw [reset_zones]
    simp [Ne.symm hst]
  refine (regimeSound_iff s).2 ⟨fun f => ?_, .inr ?_, fun z => ?_, ?_⟩
  · rw [hno _ (by decide), hno _ (by decide), h, reset_floors]
    exact ⟨rfl, rfl⟩
  · have hp : s.anyPrealarm = false := by
      unfold State.anyPrealarm
      rw [h, List.any_eq_false]
      intro z _
      rw [reset_zones]
      simp
    rw [hp, h]
    rfl
  · rw [h, reset_zones]
    exact ⟨by simp, by simp⟩
  · rw [h]
    exact {
      silence := levelFits_none, evacuateAll := levelFits_none, expansionHold := levelFits_none, manual := levelFits_none
      outOfRange := fun f _ => by rw [reset_floors]
      nodup := List.nodup_nil, origins := fun f hm => absurd hm List.not_mem_nil
      rest := fun _ => ⟨rfl, rfl, rfl, rfl, rfl, rfl, rfl, fun f => by rw [reset_floors]⟩
      expansion := fun k => absurd rfl k }

theorem coldStart_regimeSound (out : Outputs) (eeprom image : Option Image) (s : State) :
    regimeSound (coldStart out eeprom image s) := by
  have hfault : ∀ e u, regimeSound (enterConfigFault e u) := fun e u => regimeSound_cold rfl
  unfold coldStart
  dsimp only
  split
  · split
    · exact (readLines_same _).sound (regimeSound_cold rfl)
    · exact hfault _ _
  · exact hfault _ _

theorem AlarmSound.start {top : Nat} {s : State} (h : AlarmSound top s.rge) (ht : s.cfg.topFloor = top) :
    AlarmSound top (startExpansion s).rge := by
  by_cases ha : s.rge.regime = .alarm
  · exact h.toPhasesSound.start ht ha
  · have hm : s.mayExpand = false := by
      rw [← Bool.not_eq_true, mayExpand_iff]
      exact fun k => ha k.1
    rw [startExpansion_rge, hm]
    exact { h with rest := fun k => { h.rest k with expansionTimer := rfl }, expansion := fun k => absurd rfl k }

theorem zonesIn_states {s t : State} (hc : t.cfg = s.cfg) (hz : ∀ z : ZoneId, t.rge.zones[z].state = s.rge.zones[z].state)
    (st : ZoneState) (n : Nat) : t.zonesIn st n = s.zonesIn st n := by
  unfold State.zonesIn
  rw [hc]
  exact List.filter_congr fun z _ => by rw [hz]

theorem anyPrealarm_states {s t : State} (hc : t.cfg = s.cfg)
    (hz : ∀ z : ZoneId, t.rge.zones[z].state = s.rge.zones[z].state) : t.anyPrealarm = s.anyPrealarm := by
  unfold State.anyPrealarm
  rw [hc]
  congr 1
  funext z
  rw [hz]

theorem warmZone_sound {r : ZoneRec} (n : Nat) (h : r.sound) : (warmZone n r).sound := by
  refine ⟨?_, h.2⟩
  unfold warmZone
  by_cases hr : r.state = .prealarm <;> simp [hr]

/-- A warm restart keeps zones, floors and holdings, and starts the timers of RGE anew (R20, R47). -/
theorem warmValues_sound {s : State} (h : regimeSound s) : regimeSound (startExpansion (warmValues s)) := by
  obtain ⟨hcount, hsettled, hz, ha⟩ := (regimeSound_iff s).1 h
  obtain ⟨v, hv, hvz⟩ : ∃ v : Vector ZoneRec 64, v = (tab fun z => warmZone s.cfg.tVerify s.rge.zones[z])
      ∧ ∀ z : ZoneId, v[z] = warmZone s.cfg.tVerify s.rge.zones[z] := ⟨_, rfl, fun z => tab_fin _ z⟩
  obtain ⟨w, hw, hwc, hwr⟩ : ∃ w : State, w = warmValues s ∧ w.cfg = s.cfg ∧ w.rge = { s.rge with
      zones := v, elapsedBase := s.elapsed, elapsedFrom := 0, changeCounter := s.rge.changeCounter + 1 } :=
    ⟨_, rfl, rfl, by rw [hv]; rfl⟩
  rw [← hw]
  clear hw
  have hstate : ∀ z : ZoneId, (startExpansion w).rge.zones[z].state = s.rge.zones[z].state := by
    intro z
    rw [startExpansion_rge, hwr]
    show v[z].state = _
    rw [hvz]
    rfl
  have hcfg : (startExpansion w).cfg = s.cfg := by rw [(startExpansion_rgeOnly w).cfg, hwc]
  refine (regimeSound_iff _).2 ⟨fun f => ?_, ?_, fun z => ?_, ?_⟩
  · rw [zonesIn_states hcfg hstate, zonesIn_states hcfg hstate, startExpansion_rge, hwr]
    exact hcount f
  · unfold regimeSettled
    rw [anyPrealarm_states hcfg hstate, startExpansion_rge, hwr]
    exact hsettled
  · rw [startExpansion_rge, hwr]
    show v[z].sound
    rw [hvz]
    exact warmZone_sound _ (hz z)
  · rw [hcfg]
    refine AlarmSound.start ?_ (by rw [hwc])
    rw [hwr]
    exact ha.withOthers

theorem restarted_sound {s : State} (h : regimeSound s) : regimeSound (restarted s) := by
  have hw : regimeSound (startExpansion (warmValues (showing s.outputs s))) :=
    warmValues_sound (sameRegime.sound (s := s) ⟨rfl, rfl, rfl⟩ h)
  unfold restarted
  generalize startExpansion (warmValues (showing s.outputs s)) = u at hw
  have hp : sameRegime u (warmProgrammes u) := ((recomputeFire_chrOnly u _).trans (deliver_chrOnly _ _)).same
  exact ((hp.trans (remonitor_chrOnly _).same).trans (readLines_same _)).sound hw

/-! ## Every command -/

/-- A command keeps the Regime Engine sound. -/
def CommandKeepsRegime (i : Instr) : Prop := ∀ s t : State, exec i s = .next t → regimeSound s → regimeSound t

theorem KeepsRegime.command {i : Instr} {f : State → State} (h : KeepsRegime f) (he : ∀ s, exec i s = .next (f s)) :
    CommandKeepsRegime i := by
  intro s t ht hs
  rw [he] at ht
  cases ht
  exact h s hs

/-- A request is a whole frame at its port. -/
theorem request_keepsRegime {i : Instr} {p : PortId} {kind : Byte} {body : List Byte}
    (h : frameOf i = some (p, kind, body)) : CommandKeepsRegime i :=
  (KeepsRegime.frameArrives p kind body).command fun _ => exec_request h

theorem readDelivered_chrOnly (s : State) (r : FlashRead) : chrOnly s (readDelivered r s) := by
  unfold readDelivered
  split
  · exact readEnds_chrOnly s r _
  · exact readFails_chrOnly s r

/-- The commands keep the Regime Engine sound, each by what its block keeps. -/
theorem exec_keepsRegime (i : Instr) : CommandKeepsRegime i := by
  cases i with
  -- Loop Scanner
  | scanStart => exact KeepsRegime.command (.ifDue (.of_same fun s => (withLsc_lscOnly s _).same)) fun _ => rfl
  | loopConversion l n =>
    exact KeepsRegime.command (.ifDue (.of_same fun s => ((withLsc_lscOnly s _).same.trans (deliver_same _ _)).event .lsc))
      fun _ => rfl
  -- Regime Engine
  | zoneConditionArrival z c =>
    exact KeepsRegime.command (.onDelivery (.rgeEvent fun s h => by
      split
      · exact h.arrive z c
      · exact h) _) fun _ => rfl
  | verificationTimerExpiry z =>
    exact KeepsRegime.command (.ifDue (.rgeEvent fun s h => h.enterZoneAlarm z)) fun _ => rfl
  | expansionTimerExpiry =>
    refine KeepsRegime.command (f := fun s => if s.due s.rge.expansionTimer then rgeEvent expand s else s) (fun s h => ?_)
      fun _ => rfl
    dsimp only
    split
    · rename_i hd
      exact regimeSound_rgeEvent (h.kept.expand fun e => by rw [e] at hd; cases hd)
    · exact h
  | rgePanelLoss p => exact KeepsRegime.command (.onDelivery (.rgeEvent fun s h => h.panelLost p) _) fun _ => rfl
  | rgeCommandStationLoss p =>
    exact KeepsRegime.command (.onDelivery (.rgeEvent fun s h => h.commandStationLost) _) fun _ => rfl
  | changeCounterIncrease a =>
    exact KeepsRegime.command (.onDelivery (.of_same (f := counterIncreased) fun s => ⟨rfl, rfl, rfl⟩) _) fun _ => rfl
  | reentryImpairedWrite f v =>
    exact KeepsRegime.command (.onDelivery (.rgeEvent fun s h => h.impairedWritten f v) _) fun _ => rfl
  | verifyBypassedRemoval z =>
    exact KeepsRegime.command (.onDelivery (.rgeEvent fun s h => h.bypassRemoved z) _) fun _ => rfl
  -- Lift Coordinator
  | lfcZoneAlarm z => exact KeepsRegime.command (.onDelivery (.lfc fun s => zoneAlarmAtLfc_lfcOnly s z) _) fun _ => rfl
  | lfcAlarmEntry => exact KeepsRegime.command (.onDelivery (.lfc alarmEntryAtLfc_lfcOnly) _) fun _ => rfl
  | lfcRegimeReset => exact KeepsRegime.command (.onDelivery (.lfc resetAtLfc_lfcOnly) _) fun _ => rfl
  | lfcPresenceChange p q =>
    exact KeepsRegime.command (.onDelivery (.lfc fun s => presenceAtLfc_lfcOnly s p q) _) fun _ => rfl
  | shutdownTimerExpiry b => exact KeepsRegime.command (.ifDue (.lfc fun s => shutdownExpires_lfcOnly s b)) fun _ => rfl
  | lampHalfCycle b =>
    exact KeepsRegime.command (.ifDue (.of_same fun s => (lampToggles_lfcOnly s b).same)) fun _ => rfl
  -- Door Sequencer
  | dsqPhaseChange fs => exact KeepsRegime.command (.onDelivery (.dsq fun s => phaseChangeAtDsq_dsqOnly s fs) _) fun _ => rfl
  | dsqListAppend f =>
    exact KeepsRegime.command (.onDelivery (.dsq fun s => by
      split
      · exact promote_dsqOnly s _
      · exact dsqOnly.refl s) _) fun _ => rfl
  | dsqRegimeReset => exact KeepsRegime.command (.onDelivery (.dsq resetAtDsq_dsqOnly) _) fun _ => rfl
  | pacingTimerExpiry g => exact KeepsRegime.command (.ifDue (.dsq fun s => pacingExpires_dsqOnly s g)) fun _ => rfl
  | zeroGapAttempt g =>
    exact KeepsRegime.command (.ifDue (.dsq fun s => (mapGroup_dsqOnly s g _).trans (attempt_dsqOnly _ g))) fun _ => rfl
  | rampEnd d => exact KeepsRegime.command (.ifDue (.dsq fun s => rampEnds_dsqOnly s d)) fun _ => rfl
  | doorVerifyTimerExpiry d => exact KeepsRegime.command (.ifDue (.dsq fun s => setDoor_dsqOnly s d _)) fun _ => rfl
  | dsqFeedbackBand l b => exact KeepsRegime.command (.onDelivery (.dsq fun s => feedbackAtDsq_dsqOnly s l b) _) fun _ => rfl
  | takeoverRequestAsserted g =>
    exact KeepsRegime.command (.ite .id (.ite (.of_same fun s => (mapGroup_dsqOnly s g _).same)
      (.dsq fun s => (mapGroup_dsqOnly s g _).trans (takeRequest_dsqOnly _ g)))) fun _ => rfl
  | takeoverRequestReleased g =>
    exact KeepsRegime.command (.ite .id (.ite (.of_same fun s => (mapGroup_dsqOnly s g _).same)
      (.dsq fun s => by
        split
        · exact (mapGroup_dsqOnly s g _).trans (handBack_dsqOnly _ g)
        · exact mapGroup_dsqOnly s g _))) fun _ => rfl
  | takeoverDriveChange g level => exact KeepsRegime.command (.of_same fun s => (mapGroup_dsqOnly s g _).same) fun _ => rfl
  -- Cue Engine
  | cuePhaseChange fs => exact KeepsRegime.command (.onDelivery (.cue fun s => recomputeFire_chrOnly s _) _) fun _ => rfl
  | cueAlarmEntry | cueSilenceChange | cueRegimeReset =>
    exact KeepsRegime.command (.onDelivery (.cue fun s => recomputeFire_chrOnly s _) _) fun _ => rfl
  | liveSlotWrite z w => exact KeepsRegime.command (.onDelivery (.cue fun s => setDemand_chrOnly s z _) _) fun _ => rfl
  | tenantSlotWrite z w => exact KeepsRegime.command (.onDelivery (.cue fun s => setDemand_chrOnly s z _) _) fun _ => rfl
  -- Channel Router
  | programmeHanded d n i => exact KeepsRegime.command (.onDelivery (.chr fun s => programmeTaken_chrOnly s d n) _) fun _ => rfl
  | tenantProgrammeHanded k q i =>
    exact KeepsRegime.command (.onDelivery (.chr fun s => tenantTaken_chrOnly s k q i) _) fun _ => rfl
  | chrAlarmEntry => exact KeepsRegime.command (.onDelivery (.chr suspendIdling_chrOnly) _) fun _ => rfl
  | chrRegimeReset => exact KeepsRegime.command (.onDelivery (.chr resumeIdling_chrOnly) _) fun _ => rfl
  | chrListAppend f => exact KeepsRegime.command (.onDelivery (.chr remonitor_chrOnly) _) fun _ => rfl
  | chrPortLoss p => exact KeepsRegime.command (.onDelivery (.chr fun s => portLostAtChr_chrOnly s p) _) fun _ => rfl
  | warmUpExpiry c => exact KeepsRegime.command (.ifDue (.chr fun s => warmUpEnds_chrOnly s c)) fun _ => rfl
  | idleTimerExpiry c => exact KeepsRegime.command (.ifDue (.chr fun s => mapChannel_chrOnly s c _)) fun _ => rfl
  | blockBoundary c => exact KeepsRegime.command (.ifDue (.chr fun s => boundaryAt_chrOnly s c)) fun _ => rfl
  | memoryReadComplete =>
    intro s t h hs
    cases h
    split
    · exact hs
    · exact KeepsRegime.chr (fun s => readDelivered_chrOnly s _) s hs
  | memoryReadFailed =>
    intro s t h hs
    cases h
    split
    · exact hs
    · exact KeepsRegime.chr (fun s => readFails_chrOnly s _) s hs
  | liveBlockComplete l =>
    exact KeepsRegime.command (.ifDue (.of_same fun s => (liveBlockTaken_chrOnly s l).same)) fun _ => rfl
  | underrunRemoval c => exact KeepsRegime.command (.onDelivery (.chr fun s => mapChannel_chrOnly s c _) _) fun _ => rfl
  -- Tenant Queue
  | agingTimerExpiry t => exact KeepsRegime.command (.ifDue (.tnq fun s => ageEntry_tnqOnly s t)) fun _ => rfl
  | tnqChannelFree => exact KeepsRegime.command (.onDelivery (.tnq admissionScan_tnqOnly) _) fun _ => rfl
  | tenantRefusal t =>
    exact KeepsRegime.command (.onDelivery (.tnq fun s => onPlaying_tnqOnly s t _ fun e u => refused_tnqOnly u e) _) fun _ => rfl
  | tenantCompletion t =>
    exact KeepsRegime.command (.onDelivery (.tnq fun s => onPlaying_tnqOnly s t _ fun e u => completed_tnqOnly u e) _) fun _ => rfl
  | tenantPreEmption t | tenantProgrammeEmptied t =>
    exact KeepsRegime.command (.onDelivery (.tnq fun s => onPlaying_tnqOnly s t _ fun e u => cutShort_tnqOnly u e) _) fun _ => rfl
  | tnqAlarmFlush => exact KeepsRegime.command (.onDelivery (.tnq flush_tnqOnly) _) fun _ => rfl
  -- Trouble List
  | troubleRaise k n => exact KeepsRegime.command (.onDelivery (.trl fun s => troubleRaised_trlOnly s k n) _) fun _ => rfl
  | troubleClear k n => exact KeepsRegime.command (.onDelivery (.trl fun s => troubleCleared_trlOnly s k n) _) fun _ => rfl
  | trlAcknowledge => exact KeepsRegime.command (.onDelivery (.trl acknowledgeAll_trlOnly) _) fun _ => rfl
  -- Ports
  | supervisionTimerExpiry p =>
    exact KeepsRegime.command (.ifDue (.of_same fun s => (losePort_linksOnly s p).same.event _)) fun _ => rfl
  | startGraceEnd => exact KeepsRegime.command (.ifDue (.of_same graceEnds_same)) fun _ => rfl
  | addressCharacter p b | frameStart p b | dataCharacter p b =>
    exact KeepsRegime.command (.ifDue (.hearCharacter p b)) fun _ => rfl
  | receiveError p e b => exact KeepsRegime.command (.ifDue (.hearCharacter p b)) fun _ => rfl
  | answerBegin a => exact KeepsRegime.command (.ifDue (.of_same fun s => mapPort_same _ _ s)) fun _ => rfl
  | answerSent a =>
    exact KeepsRegime.command (.ifDue (.of_same fun s =>
      (mapPort_same _ _ s).trans (startWrite_linksOnly _ a.port).same)) fun _ => rfl
  -- Configuration Store
  | configurationKeyOn => exact KeepsRegime.command (.ite .id (.cfs keyTurnedOn_cfsOnly)) fun _ => rfl
  | configurationKeyOff =>
    exact KeepsRegime.command (.ifDue (.cfs fun s => (withCfs_cfsOnly s _).trans (endMode_cfsOnly _))) fun _ => rfl
  | cfsRegimeDelivery n => exact KeepsRegime.command (.onDelivery (.cfs endMode_cfsOnly) _) fun _ => rfl
  -- Starts
  | eepromWriteEnd written =>
    intro s t h hs
    cases h
    split
    · exact hs
    · split
      · exact hs
      · split <;> exact coldStart_regimeSound _ _ _ s
  | coldStart c e =>
    intro s t h hs
    cases h
    split
    · exact coldStart_regimeSound _ _ _ s
    · split
      · exact coldStart_regimeSound _ _ _ s
      · exact hs
  | warmRestart =>
    intro s t h hs
    cases h
    split
    · exact coldStart_regimeSound _ _ _ s
    · split
      · exact hs
      · exact restarted_sound hs
  -- Requests
  | poll | zoneReport | acknowledge | silence | resound | regimeReset | evacuateAll | cancelEvacuateAll | holdExpansion
  | releaseExpansion | isolateZone | restoreZone | takeManualControl | setFloorPhase | returnToAutomatic | recallBank
  | cancelRecall | authorisePhaseII | withdrawPhaseII | releaseAllDoors | monitorSelect | carReport | read
  | announceTenant | announceCancel | liveStart | liveStop | configureWrite | configureReadBack | configureCommit
  | configureDiscard => exact request_keepsRegime rfl
  | unknownCommandCode | unknownAnnounceSubkind | unknownConfigureSubkind | unknownRequestKind =>
    exact KeepsRegime.command (.ite .id (.frameArrives _ _ _)) fun _ => rfl

/-- What the part does by itself keeps the Regime Engine sound. -/
theorem ownStep_keepsRegime {s t : State} (h : ownStep s = .next t) (hs : regimeSound s) : regimeSound t := by
  unfold ownStep at h
  split at h
  · exact exec_keepsRegime _ s t h hs
  · split at h
    · exact exec_keepsRegime _ s t h hs
    · cases h
      exact sameRegime.sound (s := s) ⟨rfl, rfl, rfl⟩ hs

/-- Settles O6: each command keeps the Regime Engine sound, and so does what the part does by itself. -/
theorem stepKeepsRegimeSound : Obligations.StepKeepsRegimeSound := by
  intro s t hs h
  unfold step at h
  split at h
  · exact exec_keepsRegime _ _ t h (sameRegime.sound (s := s) ⟨rfl, rfl, rfl⟩ hs)
  · exact ownStep_keepsRegime h hs

end Sys2Proof.Machine
end

section
/-! PROOF. The Loop Scanner and what RGE stores for other blocks (R1 to R7, R16, R21, R46, R82). -/

namespace Sys2Proof.Machine

/-! ## Conversions (R2 to R5) -/

/-- The threshold set that a loop's configuration names (R3). -/
theorem thresholds_eq {s : State} {l : LoopId} {th : ThresholdSet}
    (h : s.cfg.sets.toList[s.cfg.loops[l].set]? = some th) : s.thresholds l = th := by
  unfold State.thresholds
  obtain ⟨hlt, hth⟩ := List.getElem?_eq_some_iff.1 h
  have hlt : s.cfg.loops[l].set < 4 := by simpa using hlt
  rw [rowAt, dif_pos hlt]
  simpa using hth

/-- The held range of a band (R4). -/
def inHeldRange (t : ThresholdSet) (b : Band) (f : Nat) : Prop :=
  match b with
  | .short => f < t.t1 + t.hysteresis
  | .alarm => t.t1 ≤ f + t.hysteresis ∧ f < t.t2 + t.hysteresis
  | .normal => t.t2 ≤ f + t.hysteresis ∧ f < t.t3 + t.hysteresis
  | .openLine => t.t3 ≤ f + t.hysteresis

theorem heldRange_iff (t : ThresholdSet) (b : Band) (f : Nat) : heldRange t b f = true ↔ inHeldRange t b f := by
  cases b <;> simp [heldRange, inHeldRange]

theorem candidateBand_held {t : ThresholdSet} {b : Band} {f : Nat} (h : inHeldRange t b f) : candidateBand t b f = b :=
  if_pos ((heldRange_iff t b f).2 h)

theorem candidateBand_plain {t : ThresholdSet} {b : Band} {f : Nat} (h : ¬ inHeldRange t b f) :
    candidateBand t b f = plainBand t f := if_neg fun k => h ((heldRange_iff t b f).1 k)

/-- The conversions that have given a candidate in a row, this one with them (R5). -/
def candidateRun (c : Band) (r : LoopRec) : Nat := if c = r.pendingBand then r.pendingCount + 1 else 1

/-- Debounce (R5): a candidate that is the stable band leaves nothing pending; another one is counted until it has come often
enough. -/
theorem debounceBand_eq (d : Nat) (c : Band) (r : LoopRec) : debounceBand d c r =
    if c = r.stable then { r with pendingCount := 0 }
    else if candidateRun c r = d then { r with stable := c, pendingBand := c, pendingCount := 0 }
    else { r with pendingBand := c, pendingCount := candidateRun c r } := by
  unfold debounceBand candidateRun
  simp only [beq_iff_eq]

theorem debounceBand_frame (d : Nat) (c : Band) (r : LoopRec) : (debounceBand d c r).count = r.count
    ∧ (debounceBand d c r).filtered = r.filtered ∧ (debounceBand d c r).seeded = r.seeded := by
  rw [debounceBand_eq]
  split
  · exact ⟨rfl, rfl, rfl⟩
  · split <;> exact ⟨rfl, rfl, rfl⟩

/-! ## A conversion as an event of LSC -/

theorem execLoopConversion_eq {l : LoopId} {s : State} (n : Fin 1024) (hf : s.configFault = false)
    (hp : s.lsc.position = l.val) : exec (.loopConversion l n) s = .next (event .lsc (loopConverted l n.val) s) := by
  show execLoopConversion l n s = _
  simp [execLoopConversion, hf, hp]

theorem loopConverted_loop (l : LoopId) (n : Nat) (s : State) :
    (loopConverted l n s).lsc.loops[l] = convertLoop (s.thresholds l) s.cfg.debounce n s.lsc.loops[l] :=
  set_fin_same _ _ _

theorem loopConverted_other {l k : LoopId} (n : Nat) (s : State) (h : k ≠ l) :
    (loopConverted l n s).lsc.loops[k] = s.lsc.loops[k] := set_fin_other _ _ h

theorem troubleChange_eq (k : TroubleKind) (n : Nat) (x before after : Band) (h : before ≠ after) :
    troubleChange k n (before == x) (after == x) =
      if after = x then [.troubleRaise k n] else if before = x then [.troubleClear k n] else [] := by
  have hb : ∀ b : Band, (b == x) = decide (b = x) := fun b => by cases b <;> cases x <;> rfl
  rw [hb, hb]
  by_cases h1 : after = x
  · have h2 : before ≠ x := fun e => h (e.trans h1.symm)
    simp [troubleChange, h1, h2]
  · by_cases h2 : before = x <;> simp [troubleChange, h1, h2]

theorem bandCondition_eq (b : Band) :
    bandCondition b = if b = .normal then .clear else if b = .alarm then .alarm else .fault := by cases b <;> rfl

/-- Settles O12: the scan's start by its condition; a conversion by the cases of the debounce; and what it delivers by the role of
its loop. -/
theorem scansConvertAndDeliverBandChanges : Obligations.ScansConvertAndDeliverBandChanges := by
  refine ⟨fun s hf hn hp => ?_, fun l n s th hf hp hth => ?_, fun l n s hf hp => ?_⟩
  · have hd : s.scanDue = true := by simp [State.scanDue, hf, hn, hp]
    have he : exec .scanStart s = .next (s.withLsc { s.lsc with nextScan := s.lsc.nextScan + scanInterval, position := 0 }) := by
      show execScanStart s = _
      rw [execScanStart, if_pos hd]
    exact ⟨_, he, rfl, rfl, rfl, rfl⟩
  · refine ⟨_, execLoopConversion_eq n hf hp, ?_, rfl, rfl, fun k hk => loopConverted_other n.val s hk, ?_⟩
    · rw [event_other (by decide)]; rfl
    · rw [event_lsc, loopConverted_loop, thresholds_eq hth]
      unfold convertLoop
      generalize s.lsc.loops[l] = r
      obtain ⟨hcount, hfiltered, hseeded⟩ := debounceBand_frame s.cfg.debounce
        (candidateBand th r.stable (filterCount r n.val))
        { r with count := n.val, filtered := filterCount r n.val, seeded := true }
      refine ⟨hcount, hseeded, hfiltered.trans rfl, candidateBand th r.stable (filterCount r n.val), fun h =>
        candidateBand_held ?_, fun h => (candidateBand_plain ?_).trans ?_, fun h => ?_, fun h k hk => ?_⟩
      · rw [hfiltered] at h
        cases hr : r.stable <;> rw [hr] at h <;> exact h
      · rw [hfiltered] at h
        cases hr : r.stable <;> rw [hr] at h <;> exact h
      · rw [hfiltered]; rfl
      · rw [debounceBand_eq, if_pos h]
        exact ⟨rfl, rfl, rfl⟩
      · have hrun : candidateRun (candidateBand th r.stable (filterCount r n.val))
            { r with count := n.val, filtered := filterCount r n.val, seeded := true } = k := hk.symm
        rw [debounceBand_eq, if_neg h, hrun]
        by_cases hd : k = s.cfg.debounce
        · rw [if_pos hd]
          exact ⟨rfl, fun _ => ⟨rfl, rfl⟩, fun k => absurd hd k⟩
        · rw [if_neg hd]
          exact ⟨rfl, fun k => absurd k hd, fun _ => ⟨rfl, rfl⟩⟩
  · refine ⟨_, execLoopConversion_eq n hf hp, leaves_event_other (by decide) rfl ?_ rfl⟩
    rw [event_lsc, loopConverted_loop]
    show s.deliveries ++ _ = s.deliveries ++ _
    congr 1
    unfold conversionNews bandConsumers bandTroubles
    generalize (convertLoop (s.thresholds l) s.cfg.debounce n.val s.lsc.loops[l]).stable = after
    generalize s.lsc.loops[l].stable = before
    by_cases h : before = after
    · simp [h]
    · rw [if_neg (by simpa using h), if_neg h, troubleChange_eq _ _ _ _ _ h, troubleChange_eq _ _ _ _ _ h, bandCondition_eq]
      generalize s.cfg.loops[l].role = role
      cases role <;> rfl

end Sys2Proof.Machine
end

section
/-! PROOF. What an event of RGE comes to (R21, R24, R45, R46), and the three writes that RGE takes from other blocks (R16, R82). -/

namespace Sys2Proof.Machine

variable {s t u : State}

/-! ## The deliveries at the end of an event -/

/-- Nothing is delivered at the end of an event that leaves the regime in or out of ALARM, the phases, the list and silence. -/
theorem rgeNews_nil (ha : t.inAlarm = s.inAlarm) (hp : ∀ f : FloorId, t.rge.floors[f].phase = s.rge.floors[f].phase)
    (hl : t.rge.firstAlarms = s.rge.firstAlarms) (hs : t.rge.silence = s.rge.silence) : rgeNews s t = [] := by
  have hphase : phaseNews s t = [] := by
    unfold phaseNews
    rw [List.map_eq_nil_iff, List.filter_eq_nil_iff]
    intro f _
    rw [hp]
    simp
  unfold rgeNews
  rw [hphase, ha, hl, hs]
  cases s.inAlarm <;> simp [entryDeliveries, phaseDeliveries, listDeliveries, silenceDeliveries]

/-- The end of an event whose change leaves the counts and the regime state in order (R21, R24). -/
theorem rgeChange_settled {f : State → State} (hc : zonesCounted (f s)) (hs : regimeSettled (f s)) :
    rgeChange f s = (f s).deliver (rgeNews s (f s)) := by
  unfold rgeChange
  rw [recountFloors_same hc, settleRegime_same hs]

/-- Zone records that keep their states keep the counts and the regime state in order. -/
theorem counted_states (hc : t.cfg = s.cfg) (hz : ∀ z : ZoneId, t.rge.zones[z].state = s.rge.zones[z].state)
    (hf : ∀ f : FloorId, t.rge.floors[f].alarmed = s.rge.floors[f].alarmed
      ∧ t.rge.floors[f].prealarmed = s.rge.floors[f].prealarmed) (h : zonesCounted s) : zonesCounted t := by
  intro f
  rw [zonesIn_states hc hz, zonesIn_states hc hz, (hf f).1, (hf f).2]
  exact h f

theorem settled_states (hc : t.cfg = s.cfg) (hz : ∀ z : ZoneId, t.rge.zones[z].state = s.rge.zones[z].state)
    (hr : t.rge.regime = s.rge.regime) (h : regimeSettled s) : regimeSettled t := by
  unfold regimeSettled
  rw [anyPrealarm_states hc hz, hr]
  exact h

/-! ## Writes that RGE takes from other blocks -/

theorem deliver_nil (s : State) : s.deliver [] = s := by simp [State.deliver]

/-- A write that keeps zone states, counts, phases, list, regime state and silence delivers nothing, and its event leaves what it
writes. -/
theorem quietWrite_leaves {e : Instr} {f : State → State} {r : Rge} (h : regimeSound s) (ho : f (s.taken e) = (s.taken e).withRge r)
    (hz : ∀ z : ZoneId, r.zones[z].state = s.rge.zones[z].state)
    (hf : ∀ f : FloorId, r.floors[f] = { s.rge.floors[f] with impaired := r.floors[f].impaired })
    (hr : r = { s.rge with zones := r.zones, floors := r.floors }) :
    (rgeEvent f (s.taken e)).rge = { r with changeCounter := (rgeEvent f (s.taken e)).rge.changeCounter }
      ∧ leaves .rge (without s e) [] s (rgeEvent f (s.taken e))
      ∧ rgeEvent f (s.taken e) =
        { s with rge := (rgeEvent f (s.taken e)).rge, deliveries := (rgeEvent f (s.taken e)).deliveries } := by
  obtain ⟨hc, hs, -⟩ := (regimeSound_iff s).1 h
  have hcounted : zonesCounted (f (s.taken e)) := by
    rw [ho]
    refine counted_states (s := s) rfl hz (fun f => ?_) hc
    show r.floors[f].alarmed = _ ∧ r.floors[f].prealarmed = _
    rw [hf]
    exact ⟨rfl, rfl⟩
  have hsettled : regimeSettled (f (s.taken e)) := by
    rw [ho]
    refine settled_states (s := s) rfl hz ?_ hs
    show r.regime = _
    rw [hr]
  have hnews : rgeNews (s.taken e) (f (s.taken e)) = [] := by
    rw [ho]
    refine rgeNews_nil ?_ (fun f => ?_) ?_ ?_
    · show (r.regime == .alarm) = _
      rw [hr]; rfl
    · show r.floors[f].phase = _
      rw [hf]; rfl
    · show r.firstAlarms = _
      rw [hr]; rfl
    · show r.silence = _
      rw [hr]; rfl
  have hx : rgeChange f (s.taken e) = (s.taken e).withRge r := by
    rw [rgeChange_settled hcounted hsettled, hnews, ho]
    exact deliver_nil _
  unfold rgeEvent
  refine ⟨?_, ?_, ?_⟩
  · rw [event_rge, hx]; rfl
  · refine leaves_event_rge rfl ?_ ?_
    · rw [hx]
      simp [without]
    · rw [hx, withRge_rge, hr]
  · rw [event_rge, hx]; rfl

/-- Settles O18: each write is one quiet event of RGE, or no event at all. -/
theorem rgeStoresWhatOtherBlocksDeliver : Obligations.RgeStoresWhatOtherBlocksDeliver := by
  intro s hs
  refine ⟨fun z ht => ?_, fun f v ht => ?_, fun a ht => ?_⟩
  · have he : exec (.verifyBypassedRemoval z) s =
        .next (rgeEvent (bypassRemoved z) (s.taken (.verifyBypassedRemoval z))) := by
      show Host.Outcome.next (onDelivery _ (rgeEvent (bypassRemoved z)) s) = _
      rw [onDelivery_takes ht]
    refine ⟨_, he, ?_⟩
    refine quietWrite_leaves (r := (s.setZone z { s.rge.zones[z] with unconfirmed := 0 }).rge) hs rfl (fun y => ?_)
      (fun f => rfl) rfl
    rw [setZone_zones, set_fin]
    split
    · rename_i hy; rw [hy]
    · rfl
  · have he : exec (.reentryImpairedWrite f v) s =
        .next (rgeEvent (impairedWritten f v) (s.taken (.reentryImpairedWrite f v))) := by
      show Host.Outcome.next (onDelivery _ (rgeEvent (impairedWritten f v)) s) = _
      rw [onDelivery_takes ht]
    refine ⟨_, he, ?_⟩
    refine quietWrite_leaves (r := { s.rge with
      floors := s.rge.floors.set f.val { s.rge.floors[f] with impaired := v } f.isLt }) hs rfl (fun y => rfl)
      (fun g => ?_) rfl
    dsimp only
    rw [set_fin]
    split
    · rename_i hy; rw [hy]
    · rfl
  · show Host.Outcome.next (onDelivery _ counterIncreased s) = _
    rw [onDelivery_takes ht]
    rfl

end Sys2Proof.Machine
end

section
/-! PROOF. What newly alarmed zones do to the regime (R15, R23 to R26, R30 to R32). -/

namespace Sys2Proof.Machine

/-- The spread of phases sees the configuration, phases, entry times and the elapsed time alone. -/
theorem spreads_congr {T T' : FloorId → Prop} {s s' t t' : State} (h : spreads T s t) (hT : ∀ f, T f ↔ T' f)
    (hc : s'.cfg = s.cfg)
    (hs : ∀ f : FloorId, s'.rge.floors[f].phase = s.rge.floors[f].phase
      ∧ s'.rge.floors[f].entryTime = s.rge.floors[f].entryTime)
    (ht : ∀ f : FloorId, t'.rge.floors[f].phase = t.rge.floors[f].phase
      ∧ t'.rge.floors[f].entryTime = t.rge.floors[f].entryTime)
    (he : t'.elapsed = t.elapsed) : spreads T' s' t' := by
  intro f
  obtain ⟨h1, h2, h3⟩ := h f
  have hr : ∀ n, s'.inRange n = s.inRange n := fun n => by rw [State.inRange, hc]; rfl
  unfold evacuating at *
  simp only [hr, hc, (hs _).1, (hs _).2, (ht _).1, (ht _).2, he, ← hT]
  exact ⟨h1, h2, h3⟩

theorem allEvacuated_congr {s t : State} (hc : t.cfg = s.cfg)
    (hp : ∀ f : FloorId, t.rge.floors[f].phase = s.rge.floors[f].phase) : t.allEvacuated = s.allEvacuated := by
  unfold State.allEvacuated State.inRange
  rw [hc]
  congr 1
  funext f
  rw [hp]

/-- The expansion timer that an entry to ALARM leaves (R33). -/
theorem startExpansion_timer {s : State} (h : s.rge.regime = .alarm) : (startExpansion s).rge.expansionTimer =
    if s.allEvacuated ∨ s.rge.expansionHold ≠ none ∨ s.rge.manual ≠ none then none
    else some (s.now + s.cfg.tPhase * 1000) := by
  rw [startExpansion_rge]
  have hm : s.mayExpand = true ↔ ¬ (s.allEvacuated ∨ s.rge.expansionHold ≠ none ∨ s.rge.manual ≠ none) := by
    rw [mayExpand_iff, ← allEvacuated_eq_false, ← Bool.not_eq_true]
    tauto
  dsimp only
  by_cases k : s.mayExpand = true
  · rw [if_neg (hm.1 k), if_pos k]
    rfl
  · rw [if_pos (not_not.1 (mt hm.2 k)), if_neg k]

section
variable {s : State} {f : FloorId}

/-- The list and the origin flags as a floor joins them, or does not since it is there (R23). -/
theorem originFlag_listed (h : f ∈ s.rge.firstAlarms) (g : FloorId) :
    s.rge.floors[g].origin = (s.rge.floors[g].origin || decide (g = f ∧ f ∉ s.rge.firstAlarms)) := by simp [h]

theorem originFlag_new (h : f ∉ s.rge.firstAlarms) (g : FloorId) :
    (s.rge.floors[g].origin || decide (g = f)) =
      (s.rge.floors[g].origin || decide (g = f ∧ f ∉ s.rge.firstAlarms)) := by simp [h]

/-- A floor on the list alarms again (R26). -/
theorem regimeRaised_listed (ha : s.inAlarm = true) (hf : f ∈ s.rge.firstAlarms) :
    regimeRaised f s (s.withRge { s.rge with acknowledged := false, silence := none }) := by
  refine ⟨(inAlarm_iff s).1 ha, rfl, rfl, rfl, rfl, rfl, (if_pos hf).symm, originFlag_listed hf, fun _ => rfl,
    fun k => absurd (ha.symm.trans k) (by decide), fun _ => ?_⟩
  exact ⟨rfl, rfl, rfl, rfl, fun k => absurd hf k, fun _ => ⟨rfl, fun _ => ⟨rfl, rfl⟩⟩⟩

/-- A floor joins the list as the acknowledged flag becomes no and silence ends (R23, R26). -/
theorem joinList_eq (f : FloorId) (s : State) :
    ∃ v : Vector FloorRec 32, appendFloor f (s.withRge { s.rge with acknowledged := false, silence := none })
        = s.withRge { s.rge with
            acknowledged := false, silence := none, firstAlarms := s.rge.firstAlarms ++ [f], floors := v }
      ∧ ∀ g : FloorId, v[g] = { s.rge.floors[g] with origin := s.rge.floors[g].origin || decide (g = f) } :=
  appendFloor_eq f (s.withRge { s.rge with acknowledged := false, silence := none })

/-- A new origin floor in ALARM (R32). -/
theorem regimeRaised_origin (ha : s.inAlarm = true) (hf : f ∉ s.rge.firstAlarms) :
    regimeRaised f s (phasesAtOrigin f (appendFloor f
      (s.withRge { s.rge with acknowledged := false, silence := none }))) := by
  obtain ⟨v, hv, hvf⟩ := joinList_eq f s
  rw [hv, phasesAtOrigin_eq]
  obtain ⟨w, hw, hwf, hspread⟩ := spreadEvacuation_eq (fun g => near 1 g f) (s.withRge { s.rge with
    acknowledged := false, silence := none, firstAlarms := s.rge.firstAlarms ++ [f], floors := v })
  have hframe : ∀ g : FloorId, w[g] = { v[g] with phase := w[g].phase, entryTime := w[g].entryTime } := hwf
  rw [hw]
  refine ⟨(inAlarm_iff s).1 ha, rfl, rfl, rfl, rfl, rfl, (if_neg hf).symm, fun g => ?_, fun g => ?_,
    fun k => absurd (ha.symm.trans k) (by decide), fun _ => ⟨rfl, rfl, rfl, rfl, fun _ => ⟨?_, rfl⟩, fun k => absurd k hf⟩⟩
  · show w[g].origin = _
    rw [hframe, hvf]
    exact originFlag_new hf g
  · show w[g].impaired = _
    rw [hframe, hvf]
  · exact spreads_congr hspread (fun _ => Iff.rfl) rfl (fun g => by
      show s.rge.floors[g].phase = v[g].phase ∧ s.rge.floors[g].entryTime = v[g].entryTime
      rw [hvf]
      exact ⟨rfl, rfl⟩) (fun _ => ⟨rfl, rfl⟩) rfl

/-- The entry to ALARM (R25, R31), under a list and floor records that stand as the zone alarm has left them. -/
theorem regimeRaised_entry {l : List FloorId} {v : Vector FloorRec 32} (ha : s.inAlarm = false)
    (hl : l = if f ∈ s.rge.firstAlarms then s.rge.firstAlarms else s.rge.firstAlarms ++ [f])
    (hv : ∀ g : FloorId, v[g] = { s.rge.floors[g] with
      origin := s.rge.floors[g].origin || decide (g = f ∧ f ∉ s.rge.firstAlarms) }) :
    regimeRaised f s (phasesAtEntry (enterAlarm (s.withRge { s.rge with
      acknowledged := false, silence := none, firstAlarms := l, floors := v }))) := by
  rw [phasesAtEntry_eq]
  obtain ⟨w, hw, hwf, hspread⟩ := spreadEvacuation_eq
    (fun g => aroundFloors l g || s.cfg.floors[g].alwaysEvacuate) (enterAlarm (s.withRge { s.rge with
      acknowledged := false, silence := none, firstAlarms := l, floors := v }))
  have hframe : ∀ g : FloorId, w[g] = { v[g] with phase := w[g].phase, entryTime := w[g].entryTime } := hwf
  have helapsed : ∀ u : State, u.rge.regime = .alarm → u.rge.elapsedBase = 0 → u.rge.elapsedFrom = u.now → u.elapsed = 0 := by
    intro u h1 h2 h3
    simp [State.elapsed, h2, h3]
  have hu : ∀ u : State, u = s.withRge { s.rge with
      acknowledged := false, silence := none, firstAlarms := l, floors := w, regime := .alarm, stepCount := 0
      elapsedBase := 0, elapsedFrom := s.now } → regimeRaised f s (startExpansion u) := by
    intro u hu
    subst hu
    refine ⟨rfl, rfl, rfl, rfl, rfl, rfl, hl, fun g => ?_, fun g => ?_,
      fun _ => ⟨rfl, helapsed _ rfl rfl rfl, rfl, rfl, ?_, startExpansion_timer rfl⟩,
      fun k => absurd (ha.symm.trans k) (by decide)⟩
    · show w[g].origin = _
      rw [hframe, hv]
    · show w[g].impaired = _
      rw [hframe, hv]
    · refine spreads_congr hspread (fun g => ?_) rfl (fun g => ?_) (fun _ => ⟨rfl, rfl⟩) rfl
      · rw [Bool.or_eq_true, aroundFloors_iff]
        rfl
      · show s.rge.floors[g].phase = v[g].phase ∧ s.rge.floors[g].entryTime = v[g].entryTime
        rw [hv]
        exact ⟨rfl, rfl⟩
  exact hw ▸ hu _ rfl

/-- Zones of a floor that enter ALARM raise the regime (R23, R25, R26, R30 to R32). -/
theorem regimeAlarmed_raised (f : FloorId) (s : State) : regimeRaised f s (regimeAlarmed f.val s) := by
  unfold regimeAlarmed
  rw [toIndex_val]
  dsimp only
  by_cases hf : f ∈ s.rge.firstAlarms
  · have hnew : (!s.rge.firstAlarms.contains f) = false := by simpa using hf
    rw [hnew]
    by_cases ha : s.inAlarm = true
    · rw [if_pos ha]
      exact regimeRaised_listed ha hf
    · rw [if_neg ha]
      exact regimeRaised_entry (by simpa using ha) (if_pos hf).symm fun g => by rw [← originFlag_listed hf g]
  · have hnew : (!s.rge.firstAlarms.contains f) = true := by simpa using hf
    rw [hnew]
    by_cases ha : s.inAlarm = true
    · rw [if_pos ha]
      exact regimeRaised_origin ha hf
    · rw [if_neg ha]
      obtain ⟨v, hv, hvf⟩ := joinList_eq f s
      rw [if_pos rfl, hv]
      exact regimeRaised_entry (by simpa using ha) (if_neg hf).symm fun g => by rw [hvf, originFlag_new hf]

end

/-! ## A zone enters ALARM (R15, R26) -/

/-- What an event of RGE sees of a state that only the zones and the deliveries tell from another. -/
theorem regimeRaised_congr {f : FloorId} {s t : State} {v : Vector ZoneRec 64} {ds : List Instr}
    (h : regimeRaised f { s with rge := { s.rge with zones := v }, deliveries := ds } t) : regimeRaised f s t := h

theorem mem_zonesIn {s : State} {st : ZoneState} {n : Nat} {z : ZoneId} : z ∈ s.zonesIn st n ↔
    s.cfg.zones[z].configured = true ∧ s.cfg.zones[z].floor = n ∧ s.rge.zones[z].state = st := by
  simp [State.zonesIn, and_assoc]

/-- The zones that alarm with a zone, in rising order. -/
def alarmingZones (z : ZoneId) (s : State) : List ZoneId :=
  (List.finRange 64).filter fun y => y == z || (s.zonesIn .prealarm s.cfg.zones[z].floor).contains y

theorem mem_alarmingZones {z y : ZoneId} {s : State} : y ∈ alarmingZones z s ↔ alarmsWith z y s := by
  unfold alarmingZones alarmsWith
  rw [List.mem_filter, Bool.or_eq_true, List.contains_iff_mem, mem_zonesIn, beq_iff_eq]
  exact and_iff_right (List.mem_finRange y)

theorem alarmingZones_sorted (z : ZoneId) (s : State) : (alarmingZones z s).Pairwise (· < ·) :=
  (List.pairwise_lt_finRange 64).filter _

/-- A table behind a name, with what it holds: its entries no longer unfold. -/
theorem tab_opaque {n : Nat} {α : Type} (g : Fin n → α) : ∃ v : Vector α n, tab g = v ∧ ∀ y : Fin n, v[y] = g y :=
  ⟨_, rfl, tab_fin g⟩

theorem alarmZones_eq (zs : List ZoneId) (s : State) :
    ∃ v : Vector ZoneRec 64,
      alarmZones zs s = { s with rge := { s.rge with zones := v }, deliveries := s.deliveries ++ zs.map .lfcZoneAlarm }
      ∧ (∀ y ∈ zs, v[y] = { s.rge.zones[y] with state := .alarm, timer := none })
      ∧ ∀ y : ZoneId, y ∉ zs → v[y] = s.rge.zones[y] := by
  obtain ⟨v, hv, hrec⟩ := tab_opaque fun y : ZoneId =>
    if zs.contains y then { s.rge.zones[y] with state := .alarm, timer := none } else s.rge.zones[y]
  unfold alarmZones
  rw [hv]
  refine ⟨v, rfl, fun y h => ?_, fun y h => ?_⟩
  · rw [hrec, if_pos (List.contains_iff_mem.2 h)]
  · rw [hrec, if_neg (fun k => h (List.contains_iff_mem.1 k))]

theorem enterZoneAlarm_eq (z : ZoneId) (s : State) :
    ∃ v : Vector ZoneRec 64,
      enterZoneAlarm z s = regimeAlarmed s.cfg.zones[z].floor { s with
        rge := { s.rge with zones := v }, deliveries := s.deliveries ++ (alarmingZones z s).map .lfcZoneAlarm }
      ∧ (∀ y : ZoneId, alarmsWith z y s → v[y] = { s.rge.zones[y] with state := .alarm, timer := none })
      ∧ ∀ y : ZoneId, ¬ alarmsWith z y s → v[y] = s.rge.zones[y] := by
  obtain ⟨v, hv, hin, hout⟩ := alarmZones_eq (alarmingZones z s) s
  refine ⟨v, ?_, fun y h => hin y (mem_alarmingZones.2 h), fun y h => hout y fun k => h (mem_alarmingZones.1 k)⟩
  rw [← hv]
  rfl

/-- A zone enters ALARM in a state that differs from `s` in this zone's state and timer and in what is on its way. -/
theorem enterZoneAlarm_alarmed {z : ZoneId} {s x : State} {v : Vector ZoneRec 64} {before : List Instr}
    (hx : x = { s with rge := { s.rge with zones := v }, deliveries := s.deliveries ++ before })
    (ho : ∀ y : ZoneId, y ≠ z → v[y] = s.rge.zones[y])
    (hz : { v[z] with state := .alarm, timer := none } = { s.rge.zones[z] with state := .alarm, timer := none }) :
    zoneAlarmed z before s (enterZoneAlarm z x) := by
  have hwith : ∀ y, alarmsWith z y x ↔ alarmsWith z y s := by
    intro y
    by_cases hy : y = z
    · exact iff_of_true (.inl hy) (.inl hy)
    · subst hx
      unfold alarmsWith
      show _ ∨ _ ∧ _ ∧ v[y].state = _ ↔ _
      rw [ho y hy]
  have hrec : ∀ y : ZoneId, { v[y] with state := .alarm, timer := none } =
      { s.rge.zones[y] with state := .alarm, timer := none } := by
    intro y
    by_cases hy : y = z
    · rw [hy]; exact hz
    · rw [ho y hy]
  obtain ⟨w, hw, hin, hout⟩ := enterZoneAlarm_eq z x
  rw [hw]
  have hmove := regimeAlarmed_move x.cfg.zones[z].floor { x with
    rge := { x.rge with zones := w }, deliveries := x.deliveries ++ (alarmingZones z x).map .lfcZoneAlarm }
  have hraised : ∀ f : FloorId, f.val = s.cfg.zones[z].floor → regimeRaised f s (regimeAlarmed x.cfg.zones[z].floor { x with
      rge := { x.rge with zones := w }, deliveries := x.deliveries ++ (alarmingZones z x).map .lfcZoneAlarm }) := by
    intro f hf
    have h := regimeAlarmed_raised f { x with
      rge := { x.rge with zones := w }, deliveries := x.deliveries ++ (alarmingZones z x).map .lfcZoneAlarm }
    rw [hf] at h
    subst hx
    exact h
  generalize regimeAlarmed _ _ = t at hmove hraised
  have hzones : t.rge.zones = w := hmove.zones
  refine ⟨fun y hy => ?_, fun y hy => ?_, hraised, fun g => ?_, ?_, alarmingZones z x, fun y => ?_,
    alarmingZones_sorted z x, ?_⟩
  · rw [hzones, hin y ((hwith y).2 hy)]
    subst hx
    exact hrec y
  · have hyz : y ≠ z := fun e => hy (.inl e)
    rw [hzones, hout y fun k => hy ((hwith y).1 k)]
    subst hx
    exact ho y hyz
  · have := hmove.counts g
    subst hx
    exact this
  · rw [hmove.counter]
    subst hx
    rfl
  · rw [mem_alarmingZones, hwith]
  · rw [hmove.deliveries]
    subst hx
    rfl

end Sys2Proof.Machine
end

section
/-! PROOF. How an event of RGE ends (R21, R24, R45). -/

namespace Sys2Proof.Machine

/-! ## The end of an event (R21, R24, R45) -/

theorem recountFloors_frame (y : State) (f : FloorId) : (recountFloors y).rge.floors[f] = { y.rge.floors[f] with
    alarmed := (recountFloors y).rge.floors[f].alarmed, prealarmed := (recountFloors y).rge.floors[f].prealarmed } := by
  rw [recountFloors_rge, tab_fin]

/-- The counts and the regime state made anew touch nothing else. -/
theorem settleRegime_recountFloors_eq (y : State) : ∃ (v : Vector FloorRec 32) (r : RegimeState),
    settleRegime (recountFloors y) = { y with rge := { y.rge with floors := v, regime := r } }
    ∧ zonesCounted { y with rge := { y.rge with floors := v, regime := r } }
    ∧ regimeSettled { y with rge := { y.rge with floors := v, regime := r } }
    ∧ (r == .alarm) = y.inAlarm
    ∧ ∀ f : FloorId, v[f] = { y.rge.floors[f] with alarmed := v[f].alarmed, prealarmed := v[f].prealarmed } := by
  obtain ⟨v, hv⟩ : ∃ v, (recountFloors y) = { y with rge := { y.rge with floors := v } } := ⟨_, rfl⟩
  have hc := recountFloors_counted y
  have hf := recountFloors_frame y
  rw [hv] at hc hf ⊢
  generalize hx : ({ y with rge := { y.rge with floors := v } } : State) = x at hc
  have hs := settleRegime_settled x
  have hk := settleRegime_counted hc
  have ha := settleRegime_regime x
  obtain ⟨r, hr⟩ : ∃ r, settleRegime x = { x with rge := { x.rge with regime := r } } := ⟨_, rfl⟩
  rw [hr] at hs hk ha
  subst hx
  refine ⟨v, r, hr, hk, hs, ?_, hf⟩
  rw [Bool.eq_iff_iff, beq_iff_eq, inAlarm_iff]
  exact ha

theorem rgeNews_eq (s t : State) : rgeNews s t = regimeDeliveries s t := by
  have hentry : entryDeliveries (!s.inAlarm && t.inAlarm) = if s.inAlarm = false ∧ t.inAlarm = true then
      [.lfcAlarmEntry, .tnqAlarmFlush, .cueAlarmEntry, .chrAlarmEntry, .cfsRegimeDelivery .alarm] else [] := by
    unfold entryDeliveries
    simp
  have hsilence : silenceDeliveries s.rge.silence t.rge.silence =
      if s.rge.silence = none ↔ t.rge.silence = none then [] else [.cueSilenceChange] := by
    unfold silenceDeliveries
    cases s.rge.silence <;> cases t.rge.silence <;> simp
  unfold rgeNews regimeDeliveries
  rw [hentry, hsilence]
  congr 3
  unfold phaseDeliveries phaseNews
  have hm : ((List.finRange 32).filter fun f : FloorId => s.rge.floors[f].phase != t.rge.floors[f].phase) =
      (List.finRange 32).filter fun f => decide (s.rge.floors[f].phase ≠ t.rge.floors[f].phase) :=
    List.filter_congr fun f _ => by rw [Bool.eq_iff_iff, bne_iff_ne, decide_eq_true_iff]
  rw [hm]
  simp only [List.isEmpty_iff, List.map_eq_nil_iff]

/-- What regimeDeliveries sees of a state. -/
theorem regimeDeliveries_congr {s t s' t' : State} (hs : s'.rge = s.rge)
    (ht : t'.rge = { t.rge with changeCounter := t'.rge.changeCounter }) : regimeDeliveries s' t' = regimeDeliveries s t := by
  unfold regimeDeliveries State.inAlarm
  rw [hs, ht]

/-- An event of RGE ends as R21, R24 and R45 have it, from the steps `f` that it took. -/
theorem rgeEvent_ends {f : State → State} {s x u : State} (hx : x.rge = s.rge) (hr : readable x = readable s)
    (hu : u.rge = (f x).rge) (hd : u.deliveries = (f x).deliveries)
    (hc : (f x).rge.changeCounter = s.rge.changeCounter) : regimeEnds s u (event .rge (rgeChange f) x) := by
  obtain ⟨v, r, hy, hcounted, hsettled, hin, hframe⟩ := settleRegime_recountFloors_eq (f x)
  have hchange : rgeChange f x = ({ f x with rge := { (f x).rge with floors := v, regime := r } } : State).deliver
      (regimeDeliveries x { f x with rge := { (f x).rge with floors := v, regime := r } }) := by
    rw [← rgeNews_eq, ← hy]
    rfl
  have hrge : (event .rge (rgeChange f) x).rge = { (f x).rge with
      floors := v, regime := r, changeCounter := (event .rge (rgeChange f) x).rge.changeCounter } := by
    rw [event_rge, hchange]
    rfl
  have hcfg : (event .rge (rgeChange f) x).cfg = (f x).cfg := by
    rw [event_rge, hchange]
    rfl
  have hnews : regimeDeliveries x { f x with rge := { (f x).rge with floors := v, regime := r } } =
      regimeDeliveries s (event .rge (rgeChange f) x) :=
    (regimeDeliveries_congr (t := { f x with rge := { (f x).rge with floors := v, regime := r } }) hx.symm hrge).symm
  have hleaves : leaves .rge u.deliveries (regimeDeliveries s (event .rge (rgeChange f) x)) s
      (event .rge (rgeChange f) x) := by
    refine leaves_event_rge hr ?_ ?_
    · rw [hchange, hd, hnews]
      rfl
    · rw [hchange]
      exact hc
  generalize event .rge (rgeChange f) x = t at *
  have hfl : t.rge.floors = v := by rw [hrge]
  refine ⟨?_, ?_, ?_, fun g => ?_, ?_, hleaves⟩
  · refine counted_states (s := { f x with rge := { (f x).rge with floors := v, regime := r } }) hcfg
      (fun z => by rw [hrge]) (fun g => by rw [hrge]; exact ⟨rfl, rfl⟩) hcounted
  · exact settled_states (s := { f x with rge := { (f x).rge with floors := v, regime := r } }) hcfg
      (fun z => by rw [hrge]) (by rw [hrge]) hsettled
  · show (t.rge.regime == .alarm) = (u.rge.regime == .alarm)
    rw [hrge, hu]
    exact hin
  · rw [hfl, hu]
    exact hframe g
  · have hreg : t.rge.regime = r := by rw [hrge]
    rw [hu, hfl, hreg]
    exact hrge

end Sys2Proof.Machine
end

section
/-! PROOF. A condition arrives at a zone (R13 to R17). -/

namespace Sys2Proof.Machine

/-! ## A condition acts on a zone (R13, R14, R16) -/

theorem verifies_iff {z : ZoneId} {s : State} : s.verifies z = true ↔ toBeVerified z s := by
  simp [State.verifies, toBeVerified, and_assoc]

/-- A zone in NORMAL or FAULT has a zone in PREALARM beside it when its floor has one at all. -/
theorem prealarmBeside_iff {z : ZoneId} {s : State} (h : s.rge.zones[z].state ≠ .prealarm) :
    prealarmBeside z s ↔ (s.zonesIn .prealarm s.cfg.zones[z].floor).isEmpty = false := by
  rw [List.isEmpty_eq_false_iff_exists_mem]
  refine exists_congr fun y => ?_
  rw [mem_zonesIn]
  exact and_iff_right_of_imp fun k e => h (e ▸ k.2.2)

theorem setZone_eq (z : ZoneId) (q : ZoneRec) (s : State) : s.setZone z q =
    { s with rge := { s.rge with zones := s.rge.zones.set z.val q z.isLt }, deliveries := s.deliveries ++ [] } := by
  rw [List.append_nil]
  rfl

section
variable {z : ZoneId} {c : Condition} {s : State}

/-- Condition ALARM at a zone that is to be verified, alone in PREALARM on its floor (R14). -/
theorem enterPrealarm_alone (h : (s.zonesIn .prealarm s.cfg.zones[z].floor).isEmpty = true) : enterPrealarm z s =
    (s.setZone z { s.rge.zones[z] with state := .prealarm, timer := some (s.now + s.cfg.tVerify * 1000) }).deliver
      [.cfsRegimeDelivery .prealarm] := by
  unfold enterPrealarm
  rw [if_pos h]
  rfl

/-- Condition ALARM at a zone that is to be verified, with another in PREALARM on its floor (R15). -/
theorem enterPrealarm_beside (h : (s.zonesIn .prealarm s.cfg.zones[z].floor).isEmpty = false) :
    zoneAlarmed z [.cfsRegimeDelivery .prealarm] s (enterPrealarm z s) := by
  unfold enterPrealarm
  rw [if_neg (by rw [h]; decide)]
  refine enterZoneAlarm_alarmed rfl (fun y hy => set_fin_other _ _ hy) ?_
  rw [set_fin_same]

/-- Condition ALARM at a zone that is not verified (R14, R16). -/
theorem alarmArrives_unverified (h : ¬ toBeVerified z s) :
    zoneAlarmed z (if s.rge.zones[z].unconfirmed = 4 then
      [.troubleRaise .verifyBypassed z.val, .troubleClear .verifyBypassed z.val] else []) s (alarmArrives z s) := by
  unfold alarmArrives
  rw [if_neg (mt verifies_iff.1 h)]
  refine enterZoneAlarm_alarmed (v := s.rge.zones) ?_ (fun _ _ => rfl) rfl
  by_cases hn : s.rge.zones[z].unconfirmed = 4
  · rw [if_pos (by rw [hn]; decide), if_pos hn]
    rfl
  · rw [if_neg (by simpa using hn), if_neg hn, List.append_nil]

/-- The return of a zone to NORMAL by CLEAR (R16). -/
theorem unconfirmedReturn_eq (z : ZoneId) (s : State) : unconfirmedReturn z s = { s with
    rge := { s.rge with zones := s.rge.zones.set z.val { s.rge.zones[z] with
      state := .normal, timer := none, unconfirmed := min 4 (s.rge.zones[z].unconfirmed + 1) } z.isLt }
    deliveries := s.deliveries ++ if s.rge.zones[z].unconfirmed = 3 then
      [.troubleRaise .verifyBypassed z.val, .troubleClear .verifyBypassed z.val] else [] } := by
  unfold unconfirmedReturn
  dsimp only
  by_cases hn : s.rge.zones[z].unconfirmed = 3
  · rw [if_pos (by rw [hn]; decide), if_pos hn]
    rfl
  · rw [if_neg (by simpa using hn), if_neg hn]
    exact setZone_eq _ _ _

theorem conditionActs_alarm (h : s.rge.zones[z].state = .normal ∨ s.rge.zones[z].state = .fault) :
    conditionActs z .alarm s = alarmArrives z s := by
  unfold conditionActs
  dsimp only
  rcases h with h | h <;> rw [h]

theorem conditionActs_stays (h : s.rge.zones[z].state = .alarm ∨ s.rge.zones[z].state = .isolated) (c : Condition) :
    conditionActs z c s = s := by
  unfold conditionActs
  dsimp only
  rcases h with h | h <;> rw [h]

theorem setZone_self (z : ZoneId) (s : State) : s.setZone z s.rge.zones[z] = s := by
  unfold State.setZone State.withRge
  rw [show s.rge.zones.set z.val s.rge.zones[z] z.isLt = s.rge.zones from
    table_ext fun y => by rw [set_fin]; split <;> simp_all]

theorem conditionActs_clear (h : s.rge.zones[z].state = .normal ∨ s.rge.zones[z].state = .fault) :
    conditionActs z .clear s = s.setZone z { s.rge.zones[z] with state := .normal } := by
  unfold conditionActs
  dsimp only
  rcases h with h | h
  · have hr : { s.rge.zones[z] with state := .normal } = s.rge.zones[z] := by rw [← h]
    rw [hr, setZone_self, h]
  · rw [h]

theorem conditionActs_fault (h : s.rge.zones[z].state = .normal ∨ s.rge.zones[z].state = .fault) :
    conditionActs z .fault s = s.setZone z { s.rge.zones[z] with state := .fault } := by
  unfold conditionActs
  dsimp only
  rcases h with h | h
  · rw [h]
  · have hr : { s.rge.zones[z] with state := .fault } = s.rge.zones[z] := by rw [← h]
    rw [hr, setZone_self, h]

theorem conditionActs_prealarm_fault (h : s.rge.zones[z].state = .prealarm) :
    conditionActs z .fault s = s.setZone z { s.rge.zones[z] with state := .fault, timer := none } := by
  unfold conditionActs
  dsimp only
  rw [h]

theorem conditionActs_prealarm_clear (h : s.rge.zones[z].state = .prealarm) :
    conditionActs z .clear s = unconfirmedReturn z s := by
  unfold conditionActs
  dsimp only
  rw [h]

/-- A condition acts on a zone by the table of R13. -/
theorem conditionActs_applied (z : ZoneId) (c : Condition) (s : State) :
    conditionApplied z c s (conditionActs z c s) := by
  refine ⟨?_, fun h => conditionActs_stays h c, fun h hc => ?_, fun h hc => ?_, fun h hc => ?_, fun h hc => ?_, fun h hc => ?_⟩
  · exact conditionActs_rgeOnly s z c
  · subst hc
    rw [conditionActs_alarm h]
    have hp : s.rge.zones[z].state ≠ .prealarm := by rcases h with h | h <;> rw [h] <;> decide
    refine ⟨fun hv hb => ?_, fun hv hb => ?_, alarmArrives_unverified⟩
    · rw [alarmArrives, if_pos (verifies_iff.2 hv)]
      exact enterPrealarm_alone (by simpa using mt (prealarmBeside_iff hp).2 hb)
    · rw [alarmArrives, if_pos (verifies_iff.2 hv)]
      exact enterPrealarm_beside ((prealarmBeside_iff hp).1 hb)
  · subst hc
    exact (conditionActs_clear h).trans (setZone_eq _ _ _)
  · subst hc
    exact (conditionActs_fault h).trans (setZone_eq _ _ _)
  · subst hc
    exact (conditionActs_prealarm_fault h).trans (setZone_eq _ _ _)
  · subst hc
    exact (conditionActs_prealarm_clear h).trans (unconfirmedReturn_eq _ _)

end

/-! ## A condition arrives (R13, R17) -/

/-- The conditions that zones have recorded stand, and so do what is isolated and the change counter. -/
def recordsKept (s t : State) : Prop := t.rge.changeCounter = s.rge.changeCounter
  ∧ ∀ y : ZoneId, t.rge.zones[y].condition = s.rge.zones[y].condition
    ∧ (t.rge.zones[y].state = .isolated ↔ s.rge.zones[y].state = .isolated)

section
variable {z : ZoneId} {c : Condition} {s t : State}

theorem recordsKept.refl (s : State) : recordsKept s s := ⟨rfl, fun _ => ⟨rfl, Iff.rfl⟩⟩

theorem zoneAlarmed.recordsKept {before : List Instr} (h : zoneAlarmed z before s t)
    (hz : s.rge.zones[z].state ≠ .isolated) : recordsKept s t := by
  obtain ⟨hin, hout, -, -, hcount, -⟩ := h
  refine ⟨hcount, fun y => ?_⟩
  by_cases hy : alarmsWith z y s
  · rw [hin y hy]
    refine ⟨rfl, iff_of_false (by simp) ?_⟩
    obtain rfl | ⟨-, -, hy⟩ := hy
    · exact hz
    · rw [hy]; decide
  · rw [hout y hy]
    exact ⟨rfl, Iff.rfl⟩

theorem recordsKept_set {q : ZoneRec} {ds : List Instr} (hc : q.condition = s.rge.zones[z].condition)
    (hq : q.state = .isolated ↔ s.rge.zones[z].state = .isolated) :
    recordsKept s { s with rge := { s.rge with zones := s.rge.zones.set z.val q z.isLt }, deliveries := ds } := by
  refine ⟨rfl, fun y => ?_⟩
  show (s.rge.zones.set z.val q z.isLt)[y].condition = _ ∧ ((s.rge.zones.set z.val q z.isLt)[y].state = _ ↔ _)
  by_cases hy : y = z
  · subst hy
    rw [set_fin_same]
    exact ⟨hc, hq⟩
  · rw [set_fin_other _ _ hy]
    exact ⟨rfl, Iff.rfl⟩

/-- A condition that acts keeps what is recorded and what is isolated. -/
theorem conditionActs_recordsKept (z : ZoneId) (c : Condition) (s : State) : recordsKept s (conditionActs z c s) := by
  obtain ⟨-, hstay, halarm, hclear, hfault, hpf, hpc⟩ := conditionActs_applied z c s
  generalize ht : conditionActs z c s = t at *
  by_cases hs : s.rge.zones[z].state = .alarm ∨ s.rge.zones[z].state = .isolated
  · rw [hstay hs]
    exact recordsKept.refl s
  have hi : s.rge.zones[z].state ≠ .isolated := fun k => hs (.inr k)
  by_cases hn : s.rge.zones[z].state = .normal ∨ s.rge.zones[z].state = .fault
  · cases c with
    | clear => rw [hclear hn rfl]; exact recordsKept_set rfl (iff_of_false (by simp) hi)
    | fault => rw [hfault hn rfl]; exact recordsKept_set rfl (iff_of_false (by simp) hi)
    | alarm =>
      obtain ⟨halone, hbeside, hat⟩ := halarm hn rfl
      by_cases hv : toBeVerified z s
      · by_cases hb : prealarmBeside z s
        · exact (hbeside hv hb).recordsKept hi
        · rw [halone hv hb]; exact recordsKept_set rfl (iff_of_false (by simp) hi)
      · exact (hat hv).recordsKept hi
  · have hp : s.rge.zones[z].state = .prealarm := by
      revert hs hn
      cases s.rge.zones[z].state <;> decide
    cases c with
    | clear => rw [hpc hp rfl]; exact recordsKept_set rfl (iff_of_false (by simp) hi)
    | fault => rw [hpf hp rfl]; exact recordsKept_set rfl (iff_of_false (by simp) hi)
    | alarm =>
      have hid : conditionActs z .alarm s = s := by
        unfold conditionActs
        dsimp only
        rw [hp]
      rw [← ht, hid]
      exact recordsKept.refl s

/-- The ZONE FAULT event of an arrival that is not of the recorded condition (R17). -/
def arrivalNews (z : ZoneId) (c : Condition) (s : State) : List Instr :=
  if s.rge.zones[z].state = .isolated then []
  else if c = .fault then [.troubleRaise .zoneFault z.val]
  else if s.rge.zones[z].condition = .fault then [.troubleClear .zoneFault z.val] else []

theorem faulty_iff {r : ZoneRec} : r.faulty = true ↔ r.condition = .fault ∧ r.state ≠ .isolated := by
  simp [ZoneRec.faulty]

theorem zoneFaultNews_arrival (hc : s.rge.zones[z].condition ≠ c) (ht : t.rge.zones[z].condition = c)
    (hi : t.rge.zones[z].state = .isolated ↔ s.rge.zones[z].state = .isolated) :
    zoneFaultNews z s t = arrivalNews z c s := by
  unfold zoneFaultNews arrivalNews
  have h1 := faulty_iff (r := s.rge.zones[z])
  have h2 := faulty_iff (r := t.rge.zones[z])
  rw [ht, Ne, hi] at h2
  generalize s.rge.zones[z] = r at *
  generalize t.rge.zones[z].faulty = b at *
  generalize r.faulty = a at *
  by_cases hr : r.state = .isolated
  · have ha : a = false := by simpa [hr] using h1
    have hb : b = false := by simpa [hr] using h2
    rw [if_pos hr, ha, hb]
    rfl
  · rw [if_neg hr]
    by_cases hcf : c = .fault
    · have ha : a = false := by rw [← Bool.not_eq_true, h1, ← hcf]; exact fun k => hc k.1
      have hb : b = true := h2.2 ⟨hcf, hr⟩
      rw [if_pos hcf, ha, hb]
      rfl
    · have hb : b = false := by rw [← Bool.not_eq_true, h2]; exact fun k => hcf k.1
      rw [if_neg hcf, hb]
      by_cases hrf : r.condition = .fault
      · rw [if_pos hrf, h1.2 ⟨hrf, hr⟩]
        rfl
      · have ha : a = false := by rw [← Bool.not_eq_true, h1]; exact fun k => hrf k.1
        rw [if_neg hrf, ha]
        rfl

theorem arrive_same (h : s.rge.zones[z].condition = c) : arrive z c s = s := by
  unfold arrive
  rw [if_pos (beq_iff_eq.2 h)]

theorem arrive_other (h : s.rge.zones[z].condition ≠ c) :
    arrive z c s = (conditionActs z c (recordCondition z c s)).deliver (arrivalNews z c s) := by
  unfold arrive
  rw [if_neg (mt beq_iff_eq.1 h)]
  obtain ⟨hc, hi⟩ := conditionActs_recordsKept z c (recordCondition z c s) |>.2 z
  have hz : (recordCondition z c s).rge.zones[z] = { s.rge.zones[z] with condition := c } := by
    rw [recordCondition, setZone_zones, set_fin_same]
  rw [hz] at hc hi
  dsimp only
  rw [zoneFaultNews_arrival h hc hi]

/-- An arrival of a condition at a zone (R13, R17). -/
theorem arrive_arrived (z : ZoneId) (c : Condition) (s : State) : conditionArrived z c s (arrive z c s) :=
  ⟨fun h => arrive_same h, fun h => ⟨_, conditionActs_applied z c (recordCondition z c s), arrive_other h⟩⟩

theorem arrive_counter (z : ZoneId) (c : Condition) (s : State) :
    (arrive z c s).rge.changeCounter = s.rge.changeCounter := by
  by_cases h : s.rge.zones[z].condition = c
  · rw [arrive_same h]
  · rw [arrive_other h]
    exact (conditionActs_recordsKept z c (recordCondition z c s)).1

theorem arrive_condition (z : ZoneId) (c : Condition) (s : State) : (arrive z c s).rge.zones[z].condition = c := by
  by_cases h : s.rge.zones[z].condition = c
  · rw [arrive_same h, h]
  · rw [arrive_other h]
    refine ((conditionActs_recordsKept z c (recordCondition z c s)).2 z).1.trans ?_
    rw [recordCondition, setZone_zones, set_fin_same]

theorem arrive_condition_other {y : ZoneId} (hy : y ≠ z) :
    (arrive z c s).rge.zones[y].condition = s.rge.zones[y].condition := by
  by_cases h : s.rge.zones[z].condition = c
  · rw [arrive_same h]
  · rw [arrive_other h]
    refine ((conditionActs_recordsKept z c (recordCondition z c s)).2 y).1.trans ?_
    rw [recordCondition, setZone_zones, set_fin_other _ _ hy]

end

/-! ## An event that moves zones alone -/

/-- The state with other zone records, and more on its way. -/
def zonesMoved (v : Vector ZoneRec 64) (news : List Instr) (s : State) : State :=
  { s with rge := { s.rge with zones := v }, deliveries := s.deliveries ++ news }

/-- Zone `z` has the record `q`, the others have theirs. -/
def onlyZone (z : ZoneId) (q : ZoneRec) (s : State) (v : Vector ZoneRec 64) : Prop :=
  v[z] = q ∧ ∀ y : ZoneId, y ≠ z → v[y] = s.rge.zones[y]

theorem onlyZone_set (z : ZoneId) (q : ZoneRec) (s : State) : onlyZone z q s (s.rge.zones.set z.val q z.isLt) :=
  ⟨set_fin_same _ _ _, fun _ hy => set_fin_other _ _ hy⟩

section
variable {z : ZoneId} {c : Condition} {s t u : State}

/-- The end of an event of RGE that moved zones alone: it delivers nothing, and the regime stays in or out of ALARM. -/
theorem regimeEnds.quiet {v : Vector ZoneRec 64} (h : regimeEnds s u t) (hu : u.rge = { s.rge with zones := v }) :
    t.rge.zones = v ∧ t.inAlarm = s.inAlarm
    ∧ (∀ f : FloorId, t.rge.floors[f] = { s.rge.floors[f] with
        alarmed := t.rge.floors[f].alarmed, prealarmed := t.rge.floors[f].prealarmed })
    ∧ t.rge = { s.rge with zones := t.rge.zones, floors := t.rge.floors, regime := t.rge.regime
                           changeCounter := t.rge.changeCounter }
    ∧ leaves .rge u.deliveries [] s t := by
  obtain ⟨-, -, hin, hfl, hrge, hleaves⟩ := h
  have ha : t.inAlarm = s.inAlarm := by
    rw [hin]
    unfold State.inAlarm
    rw [hu]
  have hf : ∀ f : FloorId, t.rge.floors[f] = { s.rge.floors[f] with
      alarmed := t.rge.floors[f].alarmed, prealarmed := t.rge.floors[f].prealarmed } := by
    rw [hu] at hfl
    exact hfl
  rw [hu] at hrge
  dsimp only at hrge
  have hz : t.rge.zones = v := by rw [hrge]
  refine ⟨hz, ha, hf, by rw [hz]; exact hrge, ?_⟩
  have hnews : regimeDeliveries s t = [] := by
    rw [← rgeNews_eq]
    refine rgeNews_nil ha (fun f => ?_) ?_ ?_
    · rw [hf]
    · rw [hrge]
    · rw [hrge]
  rw [← hnews]
  exact hleaves

/-! ## A condition arrives at the source of a configured zone (R10) -/

/-- What an arrival at a configured zone comes to. -/
theorem exec_arrival (ht : s.takes (.zoneConditionArrival z c) = true) (hz : s.cfg.zones[z].configured = true) :
    ∃ t, exec (.zoneConditionArrival z c) s = .next t
      ∧ regimeEnds s (arrive z c (s.taken (.zoneConditionArrival z c))) t
      ∧ t = { s with rge := t.rge, deliveries := t.deliveries } := by
  refine ⟨event .rge (rgeChange fun x => if x.cfg.zones[z].configured then arrive z c x else x)
    (s.taken (.zoneConditionArrival z c)), ?_, ?_, ?_⟩
  · show Host.Outcome.next (onDelivery _ (rgeEvent _) s) = _
    rw [onDelivery_takes ht]
    rfl
  · have hf : (if (s.taken (.zoneConditionArrival z c)).cfg.zones[z].configured then
        arrive z c (s.taken (.zoneConditionArrival z c)) else s.taken (.zoneConditionArrival z c)) =
        arrive z c (s.taken (.zoneConditionArrival z c)) := if_pos hz
    refine rgeEvent_ends rfl rfl ?_ ?_ ?_
    · rw [hf]
    · rw [hf]
    · rw [hf]
      exact arrive_counter z c _
  · have h : rgeOnly (s.taken (.zoneConditionArrival z c)) (event .rge (rgeChange fun x =>
        if x.cfg.zones[z].configured then arrive z c x else x) (s.taken (.zoneConditionArrival z c))) := by
      rw [event_rge]
      refine (rgeChange_rgeOnly _ _ ?_).trans (withRge_rgeOnly _ _)
      split
      · exact arrive_rgeOnly _ z c
      · rfl
    exact h

/-- An event of RGE whose steps leave everything leaves everything. -/
theorem rgeEvent_idle {f : State → State} (h : f s = s) (hc : zonesCounted s) (hs : regimeSettled s) :
    rgeEvent f s = s := by
  have hch : rgeChange f s = s := by
    rw [rgeChange_settled (h.symm ▸ hc) (h.symm ▸ hs), h, rgeNews_nil rfl (fun _ => rfl) rfl rfl, deliver_nil]
  unfold rgeEvent
  rw [event_rge, hch, changed_self]
  simp [State.withRge]

/-- An arrival of the recorded condition changes nothing (R13). -/
theorem exec_arrival_same (ht : s.takes (.zoneConditionArrival z c) = true) (hcount : zonesCounted s)
    (hsettled : regimeSettled s) (hz : s.cfg.zones[z].configured = true) (hc : s.rge.zones[z].condition = c) :
    exec (.zoneConditionArrival z c) s = .next { s with deliveries := without s (.zoneConditionArrival z c) } := by
  show Host.Outcome.next (onDelivery _ (rgeEvent _) s) = _
  rw [onDelivery_takes ht]
  exact congrArg _ (rgeEvent_idle (s := s.taken _) ((if_pos hz).trans (arrive_same hc)) hcount hsettled)

/-- The state that an arrival which is no new alarm gives a zone (R13). -/
def arrivedState (st : ZoneState) (c : Condition) : ZoneState :=
  match st, c with
  | .normal, .fault => .fault
  | .prealarm, .fault => .fault
  | .prealarm, .clear => .normal
  | .fault, .clear => .normal
  | st, _ => st

/-- The record that an arrival which is no new alarm leaves (R13, R16). -/
def arrivedRecord (r : ZoneRec) (c : Condition) : ZoneRec where
  state := arrivedState r.state c
  condition := c
  unconfirmed := if r.state = .prealarm ∧ c = .clear then min 4 (r.unconfirmed + 1) else r.unconfirmed
  timer := if r.state = .prealarm then none else r.timer

/-- What an arrival which is no new alarm delivers before the ZONE FAULT event (R16). -/
def returnNews (z : ZoneId) (r : ZoneRec) (c : Condition) : List Instr :=
  if (r.state = .prealarm ∧ c = .clear) ∧ r.unconfirmed = 3 then
    [.troubleRaise .verifyBypassed z.val, .troubleClear .verifyBypassed z.val] else []

/-- A condition that is no new alarm acts on a zone alone. -/
theorem conditionActs_quiet
    (h : c ≠ .alarm ∨ s.rge.zones[z].state = .alarm ∨ s.rge.zones[z].state = .isolated)
    (hr : s.rge.zones[z].condition = c) :
    ∃ v, conditionActs z c s = zonesMoved v (returnNews z s.rge.zones[z] c) s
      ∧ onlyZone z (arrivedRecord s.rge.zones[z] c) s v := by
  obtain ⟨-, hstay, -, hclear, hfault, hpf, hpc⟩ := conditionActs_applied z c s
  generalize conditionActs z c s = t at *
  generalize hrec : s.rge.zones[z] = r at *
  have hset : ∀ (q : ZoneRec) (news : List Instr), arrivedRecord r c = q → returnNews z r c = news →
      t = zonesMoved (s.rge.zones.set z.val q z.isLt) news s → ∃ v, t = zonesMoved v (returnNews z r c) s
        ∧ onlyZone z (arrivedRecord r c) s v := by
    rintro q news rfl rfl k
    exact ⟨_, k, onlyZone_set z _ s⟩
  by_cases hs : r.state = .alarm ∨ r.state = .isolated
  · have hq : arrivedRecord r c = r := by
      subst hr
      rcases hs with hs | hs <;> cases r <;> simp_all [arrivedRecord, arrivedState]
    have hn : returnNews z r c = [] := by
      unfold returnNews
      rcases hs with hs | hs <;> rw [hs] <;> simp
    rw [hn, hq, hstay hs]
    refine ⟨s.rge.zones, ?_, hrec, fun _ _ => rfl⟩
    simp [zonesMoved]
  have hc : c ≠ .alarm := h.resolve_right hs
  by_cases hn : r.state = .normal ∨ r.state = .fault
  · have hp : r.state ≠ .prealarm := by rcases hn with hn | hn <;> rw [hn] <;> decide
    have hnews : returnNews z r c = [] := if_neg fun k => hp k.1.1
    cases c with
    | alarm => exact absurd rfl hc
    | clear =>
      refine hset _ _ ?_ hnews (hclear hn rfl)
      rcases hn with hn | hn <;> simp [arrivedRecord, arrivedState, hn, hr]
    | fault =>
      refine hset _ _ ?_ hnews (hfault hn rfl)
      rcases hn with hn | hn <;> simp [arrivedRecord, arrivedState, hn, hr]
  · have hp : r.state = .prealarm := by
      revert hs hn
      cases r.state <;> decide
    cases c with
    | alarm => exact absurd rfl hc
    | clear =>
      refine hset _ _ ?_ ?_ (hpc hp rfl)
      · simp [arrivedRecord, arrivedState, hp, hr]
      · simp [returnNews, hp]
    | fault =>
      refine hset _ _ ?_ ?_ (hpf hp rfl)
      · simp [arrivedRecord, arrivedState, hp, hr]
      · simp [returnNews]

theorem recordCondition_self (z : ZoneId) (c : Condition) (s : State) :
    (recordCondition z c s).rge.zones[z] = { s.rge.zones[z] with condition := c } := by
  rw [recordCondition, setZone_zones, set_fin_same]

theorem recordCondition_other {y : ZoneId} (hy : y ≠ z) : (recordCondition z c s).rge.zones[y] = s.rge.zones[y] := by
  rw [recordCondition, setZone_zones, set_fin_other _ _ hy]

theorem toBeVerified_recordCondition : toBeVerified z (recordCondition z c s) ↔ toBeVerified z s := by
  unfold toBeVerified
  rw [recordCondition_self]
  exact Iff.rfl

theorem prealarmBeside_recordCondition : prealarmBeside z (recordCondition z c s) ↔ prealarmBeside z s := by
  refine exists_congr fun y => and_congr_right fun hy => ?_
  rw [recordCondition_other hy]
  exact Iff.rfl

/-- An arrival of another condition that is no new alarm (R13, R16, R17). -/
theorem arrive_quiet (hc : s.rge.zones[z].condition ≠ c)
    (h : c ≠ .alarm ∨ s.rge.zones[z].state = .alarm ∨ s.rge.zones[z].state = .isolated) :
    ∃ v, arrive z c s = zonesMoved v (returnNews z s.rge.zones[z] c ++ arrivalNews z c s) s
      ∧ onlyZone z (arrivedRecord s.rge.zones[z] c) s v := by
  have hrec := recordCondition_self z c s
  obtain ⟨v, hv, hq, ho⟩ := conditionActs_quiet (z := z) (c := c) (s := recordCondition z c s)
    (by rw [hrec]; exact h) (by rw [hrec])
  rw [hrec] at hv hq
  refine ⟨v, ?_, hq, fun y hy => (ho y hy).trans (recordCondition_other hy)⟩
  rw [arrive_other hc, hv]
  simp [zonesMoved, State.deliver, recordCondition, State.setZone, State.withRge, returnNews]

/-- An arrival of an alarm at a detector to be verified, alone in PREALARM on its floor (R14). -/
theorem arrive_verified (hc : s.rge.zones[z].condition ≠ .alarm)
    (hn : s.rge.zones[z].state = .normal ∨ s.rge.zones[z].state = .fault) (hv : toBeVerified z s)
    (hb : ¬ prealarmBeside z s) :
    ∃ v, arrive z .alarm s = zonesMoved v (.cfsRegimeDelivery .prealarm :: arrivalNews z .alarm s) s
      ∧ onlyZone z { s.rge.zones[z] with
          condition := .alarm, state := .prealarm, timer := some (s.now + s.cfg.tVerify * 1000) } s v := by
  have hrec := recordCondition_self z .alarm s
  have h := (conditionActs_applied z .alarm (recordCondition z .alarm s)).2.2.1 (by rw [hrec]; exact hn) rfl |>.1
    (toBeVerified_recordCondition.2 hv) (mt prealarmBeside_recordCondition.1 hb)
  rw [hrec] at h
  refine ⟨_, ?_, set_fin_same _ _ _, fun y hy => (set_fin_other _ _ hy).trans (recordCondition_other (c := .alarm) hy)⟩
  rw [arrive_other hc, h]
  simp [zonesMoved, State.deliver, recordCondition, State.setZone, State.withRge]

/-- What an arrival that moves zones alone leaves. -/
theorem exec_arrival_moves {v : Vector ZoneRec 64} {news : List Instr} (ht : s.takes (.zoneConditionArrival z c) = true)
    (hz : s.cfg.zones[z].configured = true)
    (hm : arrive z c (s.taken (.zoneConditionArrival z c)) = zonesMoved v news (s.taken (.zoneConditionArrival z c))) :
    ∃ t, exec (.zoneConditionArrival z c) s = .next t ∧ t.rge.zones = v
      ∧ leaves .rge (without s (.zoneConditionArrival z c)) news s t
      ∧ zonesCounted t ∧ regimeSettled t ∧ t.inAlarm = s.inAlarm
      ∧ (∀ f : FloorId, t.rge.floors[f] = { s.rge.floors[f] with
            alarmed := t.rge.floors[f].alarmed, prealarmed := t.rge.floors[f].prealarmed })
      ∧ t = { s with deliveries := t.deliveries
                     rge := { s.rge with zones := t.rge.zones, floors := t.rge.floors, regime := t.rge.regime
                                         changeCounter := t.rge.changeCounter } } := by
  obtain ⟨t, he, hends, hframe⟩ := exec_arrival ht hz
  rw [hm] at hends
  obtain ⟨hv, ha, hf, hrge, hleaves⟩ := hends.quiet rfl
  obtain ⟨hcount, hsettled, -⟩ := hends
  refine ⟨t, he, hv, ?_, hcount, hsettled, ha, hf, ?_⟩
  · refine ⟨?_, hleaves.2⟩
    have := hleaves.1
    rw [List.append_nil] at this
    exact this
  · rw [← hrge]
    exact hframe

theorem anyPrealarm_of {y : ZoneId} (hc : s.cfg.zones[y].configured = true) (hy : s.rge.zones[y].state = .prealarm) :
    s.anyPrealarm = true := by
  unfold State.anyPrealarm
  rw [List.any_eq_true]
  exact ⟨y, List.mem_finRange y, by rw [hc, hy]; decide⟩

theorem regimeSettled.prealarm (h : regimeSettled s) (hp : s.anyPrealarm = true) :
    s.rge.regime = if s.inAlarm then .alarm else .prealarm := by
  unfold regimeSettled at h
  rw [hp, if_pos rfl] at h
  unfold State.inAlarm
  rcases h with h | h <;> rw [h] <;> decide

end

/-- Settles O13: an arrival that is no new alarm, and one of an alarm to be verified, move zones alone. -/
theorem conditionArrivalFollowsTheZoneTable : Obligations.ConditionArrivalFollowsTheZoneTable := by
  refine ⟨fun z c s ht hz hs => ⟨fun hc => ?_, fun hc h => ?_⟩,
    fun z s ht hz hs hc hn hk hver htv hun hbeside => ?_⟩
  · obtain ⟨hcount, hsettled, -⟩ := (regimeSound_iff s).1 hs
    exact exec_arrival_same ht hcount hsettled hz hc
  · obtain ⟨v, hm, hq, ho⟩ := arrive_quiet (s := s.taken (.zoneConditionArrival z c)) hc h
    obtain ⟨t, he, hv, hleaves, hcount, hsettled, ha, hf, hframe⟩ := exec_arrival_moves ht hz hm
    refine ⟨t, he, ⟨?_, fun y hy => ?_, ?_⟩, hcount, hsettled, ha, hf, hframe⟩
    · rw [hv, hq]
      generalize hr : s.rge.zones[z] = r
      rw [show (s.taken (.zoneConditionArrival z c)).rge.zones[z] = r from hr]
      simp only [arrivedRecord, decide_eq_true_eq]
      rfl
    · rw [hv, ho y hy]
      rfl
    · simp only [decide_eq_true_eq]
      exact hleaves
  · have hb : ¬ prealarmBeside z s := fun ⟨y, _, hyc, hyf, hyp⟩ => hbeside y hyc hyf hyp
    obtain ⟨v, hm, hq, ho⟩ := arrive_verified (s := s.taken (.zoneConditionArrival z .alarm)) hc hn
      ⟨hk, hver, htv, hun⟩ hb
    obtain ⟨t, he, hv, hleaves, hcount, hsettled, ha, hf, hframe⟩ := exec_arrival_moves ht hz hm
    have hcfg : t.cfg = s.cfg := by rw [hframe]
    refine ⟨t, he, by rw [hv, hq]; rfl, fun y hy => by rw [hv, ho y hy]; rfl, ?_, hcount, hf, ?_, hframe⟩
    · rw [hsettled.prealarm (anyPrealarm_of (y := z) (by rw [hcfg]; exact hz) (by rw [hv, hq])), ha]
    · have hnews : arrivalNews z .alarm (s.taken (.zoneConditionArrival z .alarm)) =
          if s.rge.zones[z].condition = .fault then [.troubleClear .zoneFault z.val] else [] := by
        show arrivalNews z .alarm s = _
        unfold arrivalNews
        rw [if_neg (by rcases hn with hn | hn <;> rw [hn] <;> decide), if_neg (by decide)]
      rw [← hnews]
      exact hleaves

end Sys2Proof.Machine
end

section
/-! PROOF. Condition FAULT arrives at the zones of a lost fire panel (R12). -/

namespace Sys2Proof.Machine

/-! ## Condition FAULT arrives at the zones of a lost panel -/

/-- The record that condition FAULT leaves of a zone (R13). -/
def faultedRecord (r : ZoneRec) : ZoneRec := if r.condition = .fault then r else arrivedRecord r .fault

/-- What condition FAULT raises at a zone (R17). -/
def faultNews (z : ZoneId) (r : ZoneRec) : List Instr :=
  if r.condition = .fault ∨ r.state = .isolated then [] else [.troubleRaise .zoneFault z.val]

/-- The configured zones with a source on a port, in rising order (R12). -/
def zonesOfPort (p : PortId) (s : State) : List ZoneId :=
  (List.finRange 64).filter fun z => s.cfg.zones[z].configured && (match s.cfg.zones[z].source with
    | .link q _ => q == p.val
    | .loop _ => false)

theorem panelLost_eq (p : PortId) (s : State) :
    panelLost p s = (zonesOfPort p s).foldl (fun t z => arrive z .fault t) s := rfl

section
variable {z : ZoneId} {p : PortId} {s : State}

theorem mem_zonesOfPort : z ∈ zonesOfPort p s ↔
    s.cfg.zones[z].configured = true ∧ ∃ q, s.cfg.zones[z].source = .link p.val q := by
  unfold zonesOfPort
  rw [List.mem_filter, Bool.and_eq_true]
  refine (and_iff_right (List.mem_finRange z)).trans (and_congr_right fun _ => ?_)
  cases s.cfg.zones[z].source with
  | link q k => simp [beq_iff_eq]
  | loop l => simp

theorem zonesOfPort_nodup : (zonesOfPort p s).Nodup := (List.nodup_finRange 64).filter _

theorem arrive_fault (z : ZoneId) (s : State) : ∃ v,
    arrive z .fault s = zonesMoved v (faultNews z s.rge.zones[z]) s ∧ onlyZone z (faultedRecord s.rge.zones[z]) s v := by
  by_cases hc : s.rge.zones[z].condition = .fault
  · refine ⟨s.rge.zones, ?_, (if_pos hc).symm, fun _ _ => rfl⟩
    rw [arrive_same hc, faultNews, if_pos (.inl hc), zonesMoved, List.append_nil]
  · obtain ⟨v, hv, hq, ho⟩ := arrive_quiet hc (.inl (by decide))
    refine ⟨v, ?_, hq.trans (if_neg hc).symm, ho⟩
    have hnews : returnNews z s.rge.zones[z] .fault ++ arrivalNews z .fault s = faultNews z s.rge.zones[z] := by
      simp only [returnNews, arrivalNews, faultNews, hc, reduceCtorEq, and_false, false_and, false_or, if_false, if_true,
        List.nil_append]
    rw [hv, hnews]

/-- Condition FAULT arrives at zones one after the other. -/
theorem arriveFaults (l : List ZoneId) (hl : l.Nodup) (s : State) : ∃ v,
    l.foldl (fun t z => arrive z .fault t) s = zonesMoved v (l.flatMap fun z => faultNews z s.rge.zones[z]) s
    ∧ (∀ z ∈ l, v[z] = faultedRecord s.rge.zones[z]) ∧ ∀ z : ZoneId, z ∉ l → v[z] = s.rge.zones[z] := by
  induction l generalizing s with
  | nil => exact ⟨s.rge.zones, by simp [zonesMoved], by simp, fun _ _ => rfl⟩
  | cons x l ih =>
    obtain ⟨hx, hl⟩ := List.nodup_cons.1 hl
    obtain ⟨v, hv, hq, ho⟩ := arrive_fault x s
    have hkept : ∀ z ∈ l, v[z] = s.rge.zones[z] := fun z hz => ho z fun e => hx (e ▸ hz)
    obtain ⟨w, hw, hin, hout⟩ := ih hl (arrive x .fault s)
    rw [hv] at hw hin hout
    refine ⟨w, ?_, fun z hz => ?_, fun z hz => ?_⟩
    · rw [List.foldl_cons, hv, hw, List.flatMap_cons]
      have hnews : (l.flatMap fun z => faultNews z v[z]) = l.flatMap fun z => faultNews z s.rge.zones[z] :=
        List.flatMap_congr fun z hz => by rw [hkept z hz]
      unfold zonesMoved
      dsimp only
      rw [hnews, List.append_assoc]
    · rcases List.mem_cons.1 hz with rfl | hz
      · exact (hout z hx).trans hq
      · refine (hin z hz).trans ?_
        show faultedRecord v[z] = _
        rw [hkept z hz]
    · obtain ⟨hzx, hzl⟩ := not_or.1 (mt List.mem_cons.2 hz)
      exact (hout z hzl).trans (ho z hzx)

theorem mem_faultNews_flatMap {l : List ZoneId} {g : ZoneId → ZoneRec} :
    .troubleRaise .zoneFault z.val ∈ (l.flatMap fun y => faultNews y (g y)) ↔
      z ∈ l ∧ (g z).condition ≠ .fault ∧ (g z).state ≠ .isolated := by
  rw [List.mem_flatMap]
  constructor
  · rintro ⟨y, hy, h⟩
    unfold faultNews at h
    split at h
    · exact absurd h (by simp)
    · next hn =>
      have : z = y := by simpa [Fin.ext_iff] using h
      subst this
      exact ⟨hy, not_or.1 hn⟩
  · rintro ⟨hz, h⟩
    exact ⟨z, hz, by rw [faultNews, if_neg (not_or.2 h)]; exact List.mem_singleton_self _⟩

theorem panelLost_counter : (panelLost p s).rge.changeCounter = s.rge.changeCounter := by
  obtain ⟨v, hv, -⟩ := arriveFaults _ zonesOfPort_nodup s
  rw [panelLost_eq, hv]
  rfl

end

/-- What arrived before a receiver took its delivery does not reach into what an event adds. -/
theorem drop_taken {e : Instr} {s : State} (h : s.takes e = true) (news : List Instr) :
    (without s e ++ news).drop (s.deliveries.length - 1) = news := by
  have hm : e ∈ s.deliveries := by
    unfold State.takes at h
    exact List.mem_of_find?_eq_some (beq_iff_eq.1 h)
  rw [← List.length_erase_of_mem hm]
  exact List.drop_left

theorem arrivedRecord_fault (r : ZoneRec) : arrivedRecord r .fault = { r with
    condition := .fault
    state := if r.state = .alarm ∨ r.state = .isolated then r.state else .fault
    timer := if r.state = .prealarm then none else r.timer } := by
  have hst : arrivedState r.state .fault = if r.state = .alarm ∨ r.state = .isolated then r.state else .fault := by
    cases r.state <;> rfl
  unfold arrivedRecord
  have hun : ¬ (r.state = .prealarm ∧ Condition.fault = .clear) := fun k => nomatch k.2
  rw [hst, if_neg hun]

/-- Settles O16: FAULT arrives at the zones of the port, which moves zones alone. -/
theorem panelLossFaultsItsZones : Obligations.PanelLossFaultsItsZones := by
  intro p s ht hs
  obtain ⟨v, hv, hin, hout⟩ := arriveFaults (zonesOfPort p s) zonesOfPort_nodup (s.taken (.rgePanelLoss p))
  have hlost : panelLost p (s.taken (.rgePanelLoss p)) = _ := hv
  have hends : regimeEnds s _ (event .rge (rgeChange (panelLost p)) (s.taken (.rgePanelLoss p))) :=
    rgeEvent_ends rfl rfl rfl rfl panelLost_counter
  have hframe : rgeOnly (s.taken (.rgePanelLoss p)) (event .rge (rgeChange (panelLost p)) (s.taken (.rgePanelLoss p))) := by
    rw [event_rge]
    exact (rgeChange_rgeOnly _ _ (panelLost_rgeOnly _ p)).trans (withRge_rgeOnly _ _)
  have he : exec (.rgePanelLoss p) s = .next (event .rge (rgeChange (panelLost p)) (s.taken (.rgePanelLoss p))) := by
    show Host.Outcome.next (onDelivery _ (rgeEvent (panelLost p)) s) = _
    rw [onDelivery_takes ht]
    rfl
  generalize event .rge (rgeChange (panelLost p)) (s.taken (.rgePanelLoss p)) = t at *
  rw [hlost] at hends
  obtain ⟨hz, -, hf, hrge, hleaves, -⟩ := hends.quiet rfl
  obtain ⟨hcount, hsettled, -⟩ := hends
  refine ⟨t, he, fun z => ?_, hcount, hsettled, fun f => by rw [hf], ?_⟩
  · have hdrop : t.deliveries.drop (s.deliveries.length - 1) =
        (zonesOfPort p s).flatMap fun y => faultNews y s.rge.zones[y] := by
      rw [hleaves]
      simp only [List.append_nil, if_true]
      exact drop_taken ht _
    rw [hdrop, mem_faultNews_flatMap, mem_zonesOfPort, hz]
    have hmem : z ∈ zonesOfPort p s ↔ _ := mem_zonesOfPort
    refine ⟨fun h => ?_, fun h => ?_, by tauto⟩
    · rw [hin z (hmem.2 ⟨h.1, h.2.1⟩)]
      show faultedRecord s.rge.zones[z] = _
      rw [faultedRecord, if_neg h.2.2, arrivedRecord_fault]
    · by_cases hzp : z ∈ zonesOfPort p s
      · rw [hin z hzp]
        exact if_pos (by tauto)
      · exact hout z hzp
  · rw [← hrge]
    exact hframe

end Sys2Proof.Machine
end

section
/-! PROOF. An event in which a zone enters ALARM (R14, R15, R23 to R26, R45). -/

namespace Sys2Proof.Machine

section
variable {f : FloorId} {z : ZoneId} {s t u x : State}

/-! ## The regime after the end of the event -/

theorem regimeEnds.phase (h : regimeEnds s u t) (g : FloorId) : t.rge.floors[g].phase = u.rge.floors[g].phase
    ∧ t.rge.floors[g].entryTime = u.rge.floors[g].entryTime ∧ t.rge.floors[g].origin = u.rge.floors[g].origin
    ∧ t.rge.floors[g].impaired = u.rge.floors[g].impaired := by
  obtain ⟨-, -, -, hf, -⟩ := h
  rw [hf]
  exact ⟨rfl, rfl, rfl, rfl⟩

/-- What newly alarmed zones have done to the regime stands at the end of the event. -/
theorem regimeRaised.ends (h : regimeRaised f s u) (he : regimeEnds s u t) (hc : t.cfg = u.cfg) (hn : t.now = u.now) :
    regimeRaised f s t := by
  have hin : t.inAlarm = u.inAlarm := he.2.2.1
  have hrge := he.2.2.2.2.1
  have hall : t.allEvacuated = u.allEvacuated := allEvacuated_congr hc fun g => (he.phase g).1
  have hbase : t.rge.elapsedBase = u.rge.elapsedBase := by rw [hrge]
  have hfrom : t.rge.elapsedFrom = u.rge.elapsedFrom := by rw [hrge]
  have hsteps : t.rge.stepCount = u.rge.stepCount := by rw [hrge]
  have htimer : t.rge.expansionTimer = u.rge.expansionTimer := by rw [hrge]
  have hlist : t.rge.firstAlarms = u.rge.firstAlarms := by rw [hrge]
  have helapsed : t.elapsed = u.elapsed := by
    unfold State.elapsed
    rw [hin, hn, hbase, hfrom]
  have hspread : ∀ {T : FloorId → Prop}, spreads T s u → spreads T s t := fun k =>
    spreads_congr k (fun _ => Iff.rfl) rfl (fun _ => ⟨rfl, rfl⟩) (fun g => ⟨(he.phase g).1, (he.phase g).2.1⟩) helapsed
  obtain ⟨halarm, hack, hsil, heva, hhold, hman, hfirst, horigin, himpaired, hentry, hstanding⟩ := h
  refine ⟨?_, by rw [hrge]; exact hack, by rw [hrge]; exact hsil, by rw [hrge]; exact heva, by rw [hrge]; exact hhold,
    by rw [hrge]; exact hman, hlist.trans hfirst, fun g => (he.phase g).2.2.1.trans (horigin g),
    fun g => (he.phase g).2.2.2.trans (himpaired g), fun ha => ?_, fun ha => ?_⟩
  · rw [← inAlarm_iff, hin, inAlarm_iff]
    exact halarm
  · obtain ⟨h1, h2, h3, h4, h5, h6⟩ := hentry ha
    rw [hsteps, helapsed, hbase, hfrom, htimer, hall, hlist]
    exact ⟨h1, h2, h3, h4, hspread h5, h6⟩
  · obtain ⟨h1, h2, h3, h4, h5, h6⟩ := hstanding ha
    rw [hsteps, helapsed, hbase, hfrom, htimer, hall]
    refine ⟨h1, h2, h3, h4, fun k => ⟨hspread (h5 k).1, (h5 k).2⟩, fun k => ⟨(h6 k).1, fun g => ?_⟩⟩
    rw [(he.phase g).1, (he.phase g).2.1]
    exact (h6 k).2 g

/-- Outside ALARM no holding stands and no floor is on the list (R23, R25, R29). -/
theorem regimeRaised.entry (h : regimeRaised f s t) (hs : RegimeKept s) (ha : s.inAlarm = false) :
    t.rge.stepCount = 0 ∧ t.elapsed = 0
    ∧ spreads (fun g => near 1 g f = true ∨ s.cfg.floors[g].alwaysEvacuate = true) s t
    ∧ t.rge.expansionTimer = if t.allEvacuated then none else some (s.now + s.cfg.tPhase * 1000) := by
  have hrest : AtRest s.rge := hs.2.rest fun k => by
    rw [← inAlarm_iff, ha] at k
    exact absurd k (by decide)
  obtain ⟨-, -, -, -, -, -, hfirst, -, -, hentry, -⟩ := h
  obtain ⟨h1, h2, -, -, hspread, htimer⟩ := hentry ha
  have hl : t.rge.firstAlarms = [f] := by
    rw [hfirst, hrest.firstAlarms]
    rfl
  refine ⟨h1, h2, spreads_congr hspread (fun g => ?_) rfl (fun _ => ⟨rfl, rfl⟩) (fun _ => ⟨rfl, rfl⟩) rfl, ?_⟩
  · rw [hl]
    simp
  · rw [htimer, hrest.expansionHold, hrest.manual]
    simp

/-- A running expansion timer finds a floor that is not in EVACUATE (R33). -/
theorem regimeRaised.standing (h : regimeRaised f s t) (hs : RegimeKept s) (hc : t.cfg = s.cfg) (ha : s.inAlarm = true) :
    t.rge.stepCount = s.rge.stepCount ∧ t.elapsed = s.elapsed
    ∧ t.rge.expansionTimer = (if t.allEvacuated then none else s.rge.expansionTimer)
    ∧ (f ∉ s.rge.firstAlarms → spreads (fun g => near 1 g f = true) s t)
    ∧ (f ∈ s.rge.firstAlarms → ∀ g : FloorId, t.rge.floors[g].phase = s.rge.floors[g].phase
        ∧ t.rge.floors[g].entryTime = s.rge.floors[g].entryTime) := by
  obtain ⟨-, -, -, -, -, -, -, -, -, -, hstanding⟩ := h
  obtain ⟨h1, h2, -, -, hnew, hold⟩ := hstanding ha
  refine ⟨h1, h2, ?_, fun k => (hnew k).1, fun k => (hold k).2⟩
  by_cases hf : f ∈ s.rge.firstAlarms
  · obtain ⟨htimer, hphase⟩ := hold hf
    rw [htimer, allEvacuated_congr hc fun g => (hphase g).1]
    split
    · next hall =>
      by_contra hne
      obtain ⟨-, -, g, hg, hp⟩ := hs.2.expansion hne
      have := (allEvacuated_eq_false s).2 ⟨g, hg, hp⟩
      rw [hall] at this
      exact absurd this (by decide)
    · rfl
  · exact (hnew hf).2

/-! ## What an event with a zone alarm delivers -/

/-- What is delivered within an event beside the newly alarmed zones: troubles and PREALARM entries. -/
def besideAlarms (ds : List Instr) : Prop :=
  ∀ e ∈ ds, (∃ k n, e = .troubleRaise k n) ∨ (∃ k n, e = .troubleClear k n) ∨ e = .cfsRegimeDelivery .prealarm

section
variable {e : Instr} {b : Bool} {fs : List (FloorId × Phase)} {l : List FloorId} {o q : Option Nat} {ds : List Instr}

theorem besideAlarms.not_mem (h : besideAlarms ds) (h1 : ∀ k n, e ≠ .troubleRaise k n) (h2 : ∀ k n, e ≠ .troubleClear k n)
    (h3 : e ≠ .cfsRegimeDelivery .prealarm) : e ∉ ds := by
  intro k
  obtain ⟨k, n, hk⟩ | ⟨k, n, hk⟩ | hk := h e k
  · exact h1 k n hk
  · exact h2 k n hk
  · exact h3 hk

theorem mem_entryDeliveries : e ∈ entryDeliveries b ↔ b = true
    ∧ e ∈ [Instr.lfcAlarmEntry, .tnqAlarmFlush, .cueAlarmEntry, .chrAlarmEntry, .cfsRegimeDelivery .alarm] := by
  cases b <;> simp [entryDeliveries]

theorem mem_phaseDeliveries : e ∈ phaseDeliveries fs ↔ fs ≠ [] ∧ (e = .dsqPhaseChange fs ∨ e = .cuePhaseChange fs) := by
  cases fs <;> simp [phaseDeliveries]

theorem mem_listDeliveries : e ∈ listDeliveries l ↔ ∃ f ∈ l, e = .dsqListAppend f ∨ e = .chrListAppend f := by
  simp [listDeliveries]

theorem mem_silenceDeliveries : e ∈ silenceDeliveries o q ↔ e = .cueSilenceChange ∧ ¬ (o = none ↔ q = none) := by
  cases o <;> cases q <;> simp [silenceDeliveries]

/-- What an event with a zone alarm delivers: troubles and PREALARM entries, the newly alarmed zones, and what R45 names. -/
theorem mem_alarmNews {before after : List Instr} {zs : List ZoneId} (hb : besideAlarms before) (ha : besideAlarms after)
    (h1 : ∀ k n, e ≠ .troubleRaise k n) (h2 : ∀ k n, e ≠ .troubleClear k n) (h3 : e ≠ .cfsRegimeDelivery .prealarm) :
    e ∈ before ++ zs.map .lfcZoneAlarm ++ after ++ rgeNews s t ↔
      (∃ y ∈ zs, .lfcZoneAlarm y = e)
      ∨ ((!s.inAlarm && t.inAlarm) = true
          ∧ e ∈ [Instr.lfcAlarmEntry, .tnqAlarmFlush, .cueAlarmEntry, .chrAlarmEntry, .cfsRegimeDelivery .alarm])
      ∨ (phaseNews s t ≠ [] ∧ (e = .dsqPhaseChange (phaseNews s t) ∨ e = .cuePhaseChange (phaseNews s t)))
      ∨ (∃ f ∈ t.rge.firstAlarms.drop s.rge.firstAlarms.length, e = .dsqListAppend f ∨ e = .chrListAppend f)
      ∨ (e = .cueSilenceChange ∧ ¬ (s.rge.silence = none ↔ t.rge.silence = none)) := by
  have hb := hb.not_mem h1 h2 h3
  have ha := ha.not_mem h1 h2 h3
  unfold rgeNews
  rw [List.mem_append, List.mem_append, List.mem_append, List.mem_append, List.mem_append, List.mem_append, List.mem_map,
    mem_entryDeliveries, mem_phaseDeliveries, mem_listDeliveries, mem_silenceDeliveries, or_iff_left ha, or_iff_right hb,
    or_assoc, or_assoc]

end

/-- The deliveries of an event in which zones of floor `f` entered ALARM (R45). -/
theorem alarmNews_told {before after : List Instr} {zs : List ZoneId} (h : regimeRaised f s t)
    (hzs : ∀ y, y ∈ zs ↔ alarmsWith z y s) (hb : besideAlarms before) (ha : besideAlarms after) :
    (∀ y : ZoneId, .lfcZoneAlarm y ∈ before ++ zs.map .lfcZoneAlarm ++ after ++ rgeNews s t ↔ alarmsWith z y s)
    ∧ (∀ e ∈ [Instr.lfcAlarmEntry, .tnqAlarmFlush, .cueAlarmEntry, .chrAlarmEntry, .cfsRegimeDelivery .alarm],
        e ∈ before ++ zs.map .lfcZoneAlarm ++ after ++ rgeNews s t ↔ s.inAlarm = false)
    ∧ (.dsqListAppend f ∈ before ++ zs.map .lfcZoneAlarm ++ after ++ rgeNews s t ↔ f ∉ s.rge.firstAlarms)
    ∧ (.chrListAppend f ∈ before ++ zs.map .lfcZoneAlarm ++ after ++ rgeNews s t ↔ f ∉ s.rge.firstAlarms)
    ∧ (∀ fs, .dsqPhaseChange fs ∈ before ++ zs.map .lfcZoneAlarm ++ after ++ rgeNews s t ↔ fs = phaseNews s t ∧ fs ≠ [])
    ∧ (∀ fs, .cuePhaseChange fs ∈ before ++ zs.map .lfcZoneAlarm ++ after ++ rgeNews s t ↔ fs = phaseNews s t ∧ fs ≠ [])
    ∧ (.cueSilenceChange ∈ before ++ zs.map .lfcZoneAlarm ++ after ++ rgeNews s t ↔ s.rge.silence ≠ none) := by
  obtain ⟨halarm, -, hsil, -, -, -, hfirst, -⟩ := h
  have hin : t.inAlarm = true := (inAlarm_iff t).2 halarm
  have hdrop : ∀ g, g ∈ t.rge.firstAlarms.drop s.rge.firstAlarms.length ↔ g = f ∧ f ∉ s.rge.firstAlarms := by
    intro g
    rw [hfirst]
    by_cases hf : f ∈ s.rge.firstAlarms <;> simp [hf]
  refine ⟨fun y => ?_, fun e he => ?_, ?_, ?_, fun fs => ?_, fun fs => ?_, ?_⟩
  · rw [mem_alarmNews hb ha (by simp) (by simp) (by simp)]
    simp [hzs]
  · have hin' : (!s.inAlarm && t.inAlarm) = true ↔ s.inAlarm = false := by simp [hin]
    rw [← hin', mem_alarmNews hb ha]
    · simp only [List.mem_cons, List.not_mem_nil, or_false] at he
      rcases he with rfl | rfl | rfl | rfl | rfl <;> simp
    all_goals
      simp only [List.mem_cons, List.not_mem_nil, or_false] at he
      rcases he with rfl | rfl | rfl | rfl | rfl <;> simp
  · rw [mem_alarmNews hb ha (by simp) (by simp) (by simp)]
    simp [hdrop]
  · rw [mem_alarmNews hb ha (by simp) (by simp) (by simp)]
    simp [hdrop]
  · rw [mem_alarmNews hb ha (by simp) (by simp) (by simp)]
    simp only [reduceCtorEq, and_false, exists_false, false_or, or_false, List.mem_cons, List.not_mem_nil, false_and,
      Instr.dsqPhaseChange.injEq]
    constructor
    · rintro ⟨hne, rfl⟩
      exact ⟨rfl, hne⟩
    · rintro ⟨rfl, hne⟩
      exact ⟨hne, rfl⟩
  · rw [mem_alarmNews hb ha (by simp) (by simp) (by simp)]
    simp only [reduceCtorEq, and_false, exists_false, false_or, or_false, List.mem_cons, List.not_mem_nil, false_and,
      Instr.cuePhaseChange.injEq]
    constructor
    · rintro ⟨hne, rfl⟩
      exact ⟨rfl, hne⟩
    · rintro ⟨rfl, hne⟩
      exact ⟨hne, rfl⟩
  · rw [mem_alarmNews hb ha (by simp) (by simp) (by simp)]
    simp [hsil]

end

/-! ## An event in which a zone enters ALARM -/

/-- An event of RGE in which zone `z`, whose condition is then ALARM, enters ALARM: `way` was on its way before it. -/
def alarmEvent (z : ZoneId) (way : List Instr) (s t : State) : Prop :=
  ∃ (v : Vector ZoneRec 64) (before after : List Instr) (u : State),
    onlyZone z { s.rge.zones[z] with condition := .alarm } s v
    ∧ zoneAlarmed z before { s with rge := { s.rge with zones := v }, deliveries := way } u
    ∧ rgeOnly s u ∧ rgeOnly s t
    ∧ regimeEnds s { u with deliveries := u.deliveries ++ after } t
    ∧ besideAlarms before ∧ besideAlarms after

section
variable {f : FloorId} {z : ZoneId} {way : List Instr} {s t : State}

theorem alarmsWith_onlyZone {v : Vector ZoneRec 64} {q : ZoneRec} {y : ZoneId} (h : onlyZone z q s v) :
    alarmsWith z y { s with rge := { s.rge with zones := v }, deliveries := way } ↔ alarmsWith z y s := by
  by_cases hy : y = z
  · exact iff_of_true (.inl hy) (.inl hy)
  · unfold alarmsWith
    show _ ∨ _ ∧ _ ∧ v[y].state = _ ↔ _
    rw [h.2 y hy]

theorem alarmEvent.zones (h : alarmEvent z way s t) (hs : RegimeKept s) (y : ZoneId) :
    (alarmsWith z y s → t.rge.zones[y] = { s.rge.zones[y] with state := .alarm, condition := .alarm, timer := none })
    ∧ (¬ alarmsWith z y s → t.rge.zones[y] = s.rge.zones[y]) := by
  obtain ⟨v, before, after, u, hv, ⟨hin, hout, -⟩, -, -, ⟨-, -, -, -, hrge, -⟩, -⟩ := h
  have hz : t.rge.zones = u.rge.zones := by rw [hrge]
  rw [hz]
  refine ⟨fun hy => ?_, fun hy => ?_⟩
  · rw [hin y ((alarmsWith_onlyZone hv).2 hy)]
    show { v[y] with state := .alarm, timer := none } = _
    by_cases hyz : y = z
    · subst hyz
      rw [hv.1]
    · rw [hv.2 y hyz]
      obtain hy | ⟨-, -, hp⟩ := hy
      · exact absurd hy hyz
      · have hcond := (hs.1 y).2 hp
        rw [← hcond]
  · rw [hout y (mt (alarmsWith_onlyZone hv).1 hy)]
    exact hv.2 y fun e => hy (.inl e)

theorem alarmEvent.raised (h : alarmEvent z way s t) (hf : s.cfg.zones[z].floor = f.val) : regimeRaised f s t := by
  obtain ⟨v, before, after, u, -, ⟨-, -, hr, -⟩, hu, ht, hends, -⟩ := h
  have hr : regimeRaised f s { u with deliveries := u.deliveries ++ after } := regimeRaised_congr (hr f hf.symm)
  refine hr.ends hends (ht.cfg.trans hu.cfg.symm) (ht.now.trans hu.now.symm)

theorem alarmEvent.news (h : alarmEvent z way s t) : ∃ (before after : List Instr) (zs : List ZoneId),
    t.deliveries = way ++ (before ++ zs.map .lfcZoneAlarm ++ after ++ rgeNews s t)
    ∧ (∀ y, y ∈ zs ↔ alarmsWith z y s) ∧ besideAlarms before ∧ besideAlarms after := by
  obtain ⟨v, before, after, u, hv, ⟨-, -, -, -, -, zs, hzs, -, hd⟩, -, -, ⟨-, -, -, -, -, hleaves, -⟩, hb, ha⟩ := h
  refine ⟨before, after, zs, ?_, fun y => (hzs y).trans (alarmsWith_onlyZone hv), hb, ha⟩
  rw [hleaves, ← rgeNews_eq, if_pos rfl]
  dsimp only
  rw [hd]
  simp only [List.append_assoc, List.append_nil]

theorem changed_of_state (hc : t.configFault = false) (h : t.rge.zones[z].state ≠ s.rge.zones[z].state) :
    changed s t = true := by
  unfold changed
  rw [hc, Bool.not_false, Bool.true_and, bne_iff_ne]
  intro k
  have hz := congrArg Readable.zones k
  have hr := congrArg (fun l => l[z.val]?) hz
  apply h
  simp [readable] at hr
  exact hr.1.symm

/-- A zone that enters ALARM changes a readable record (R46). -/
theorem alarmEvent.counter (h : alarmEvent z way s t) (hs : RegimeKept s) (hc : s.configFault = false)
    (hst : s.rge.zones[z].state ≠ .alarm) : t.rge.changeCounter = s.rge.changeCounter + 1 := by
  have hz := (h.zones hs z).1 (.inl rfl)
  obtain ⟨v, before, after, u, -, -, -, ht, ⟨-, -, -, -, -, -, hcount⟩, -⟩ := h
  have hch : changed s t = true := changed_of_state (z := z) (ht.configFault.trans hc) (by rw [hz]; exact hst.symm)
  rw [hcount, if_pos ⟨rfl, hch⟩]

/-- A verification timer expires (R14). -/
theorem alarmEvent_expiry (hs : RegimeKept s) (hd : s.due s.rge.zones[z].timer = true) :
    s.rge.zones[z].state = .prealarm
    ∧ ∃ t, exec (.verificationTimerExpiry z) s = .next t ∧ alarmEvent z s.deliveries s t := by
  have hp : s.rge.zones[z].state = .prealarm := by
    refine (hs.1 z).1.1 fun k => ?_
    rw [k] at hd
    exact absurd hd (by simp [State.due])
  have hal : zoneAlarmed z [] s (enterZoneAlarm z s) :=
    enterZoneAlarm_alarmed (v := s.rge.zones) (by rw [List.append_nil]) (fun _ _ => rfl) rfl
  refine ⟨hp, event .rge (rgeChange (verificationExpires z)) s, ?_, s.rge.zones, [], [], enterZoneAlarm z s, ?_, hal,
    enterZoneAlarm_rgeOnly s z, ?_, ?_, by simp [besideAlarms], by simp [besideAlarms]⟩
  · show Host.Outcome.next (if _ then _ else _) = _
    rw [if_pos hd]
    rfl
  · exact ⟨by rw [← (hs.1 z).2 hp], fun _ _ => rfl⟩
  · rw [event_rge]
    exact (rgeChange_rgeOnly _ _ (enterZoneAlarm_rgeOnly s z)).trans (withRge_rgeOnly _ _)
  · exact rgeEvent_ends rfl rfl rfl (List.append_nil _) hal.2.2.2.2.1

theorem besideAlarms_arrivalNews (z : ZoneId) (c : Condition) (s : State) : besideAlarms (arrivalNews z c s) := by
  intro e he
  unfold arrivalNews at he
  split at he
  · exact absurd he (by simp)
  · split at he
    · exact .inl ⟨_, _, List.mem_singleton.1 he⟩
    · split at he
      · exact .inr (.inl ⟨_, _, List.mem_singleton.1 he⟩)
      · exact absurd he (by simp)

theorem besideAlarms_bypassed (z : ZoneId) (p : Prop) [Decidable p] : besideAlarms
    (if p then [.troubleRaise .verifyBypassed z.val, .troubleClear .verifyBypassed z.val] else []) := by
  split
  · intro e he
    obtain rfl | he := List.mem_cons.1 he
    · exact .inl ⟨_, _, rfl⟩
    · exact .inr (.inl ⟨_, _, List.mem_singleton.1 he⟩)
  · intro e he
    exact absurd he (by simp)

/-- An alarm that is not verified or that meets another zone in PREALARM on its floor (R13 to R15). -/
theorem conditionActs_newAlarm (hn : s.rge.zones[z].state = .normal ∨ s.rge.zones[z].state = .fault)
    (h : ¬ toBeVerified z s ∨ prealarmBeside z s) :
    ∃ before, besideAlarms before ∧ zoneAlarmed z before s (conditionActs z .alarm s) := by
  obtain ⟨-, -, halarm, -⟩ := conditionActs_applied z .alarm s
  obtain ⟨-, hbeside, hat⟩ := halarm hn rfl
  by_cases hv : toBeVerified z s
  · refine ⟨_, ?_, hbeside hv (h.resolve_left (not_not.2 hv))⟩
    intro e he
    exact .inr (.inr (List.mem_singleton.1 he))
  · exact ⟨_, besideAlarms_bypassed z _, hat hv⟩

theorem alarmEvent_arrival (ht : s.takes (.zoneConditionArrival z .alarm) = true)
    (hz : s.cfg.zones[z].configured = true) (hc : s.rge.zones[z].condition ≠ .alarm)
    (hn : s.rge.zones[z].state = .normal ∨ s.rge.zones[z].state = .fault) (h : ¬ toBeVerified z s ∨ prealarmBeside z s) :
    ∃ t, exec (.zoneConditionArrival z .alarm) s = .next t
      ∧ alarmEvent z (without s (.zoneConditionArrival z .alarm)) s t := by
  obtain ⟨t, he, hends, hframe⟩ := exec_arrival ht hz
  refine ⟨t, he, ?_⟩
  rw [arrive_other (s := s.taken _) hc] at hends
  have honly : rgeOnly (s.taken (.zoneConditionArrival z .alarm))
      (conditionActs z .alarm (recordCondition z .alarm (s.taken (.zoneConditionArrival z .alarm)))) :=
    (setZone_rgeOnly _ z _).trans (conditionActs_rgeOnly _ z _)
  obtain ⟨before, hb, hal⟩ := conditionActs_newAlarm (z := z)
    (s := recordCondition z .alarm (s.taken (.zoneConditionArrival z .alarm)))
    (by rw [recordCondition_self]; exact hn)
    (by rw [toBeVerified_recordCondition, prealarmBeside_recordCondition]; exact h)
  exact ⟨s.rge.zones.set z.val { s.rge.zones[z] with condition := .alarm } z.isLt, before, _, _,
    onlyZone_set z _ s, hal, honly, hframe, hends, hb, besideAlarms_arrivalNews z _ _⟩

end

/-- Settles O14: both ways into ALARM are one event in which the zone and those in PREALARM on its floor enter ALARM. -/
theorem newAlarmRaisesTheRegime : Obligations.NewAlarmRaisesTheRegime := by
  intro z f s c hs hcf hz hf hcase
  have hk : RegimeKept s := hs.kept
  have hevent : s.rge.zones[z].state ≠ .alarm ∧ ∃ t, exec c s = .next t
      ∧ alarmEvent z (if c = .verificationTimerExpiry z then s.deliveries else without s c) s t := by
    obtain ⟨rfl, hd⟩ | ⟨rfl, ht, hc, hn, h⟩ := hcase
    · obtain ⟨hp, ht⟩ := alarmEvent_expiry hk hd
      rw [if_pos rfl, hp]
      exact ⟨by decide, ht⟩
    · rw [if_neg (by simp)]
      refine ⟨by rcases hn with hn | hn <;> rw [hn] <;> decide, alarmEvent_arrival ht hz hc hn ?_⟩
      by_cases hv : toBeVerified z s
      · obtain ⟨h1, h2, h3, h4⟩ := hv
        obtain h | h | h | h | ⟨y, hyc, hyf, hyp⟩ := h
        · exact absurd h1 h
        · rw [h] at h2; exact absurd h2 (by decide)
        · omega
        · omega
        · refine .inr ⟨y, fun e => ?_, hyc, hyf.trans hf.symm, hyp⟩
          rw [e] at hyp
          rw [hyp] at hn
          exact absurd hn (by decide)
      · exact .inl hv
  obtain ⟨hst, t, he, hev⟩ := hevent
  have hr := hev.raised hf
  have hcount := hev.counter hk hcf hst
  have hzones := hev.zones hk
  obtain ⟨before, after, zs, hd, hzs, hb, ha⟩ := hev.news
  have htold := alarmNews_told hr hzs hb ha
  obtain ⟨v, _, _, u, -, -, -, ht, ⟨hcounted, -⟩, -⟩ := hev
  refine ⟨t, he, fun y => (hzones y).1, fun y => (hzones y).2, hcounted, ?_⟩
  have hentry := hr.entry hk
  have hstanding := hr.standing hk ht.cfg
  obtain ⟨h1, h2, h3, h4, h5, h6, h7, h8, h9, -⟩ := hr
  exact ⟨h1, h2, h3, h4, h5, h6, h7, h8, h9, hentry, hstanding, ⟨_, hd, htold⟩, hcount, ht⟩

end Sys2Proof.Machine
end

section
/-! PROOF. A request that RGE decides (R161, R165). -/

namespace Sys2Proof.Machine

/-! ## A request that RGE decides -/

section
variable {p : PortId} {s y : State} {a : Answer} {f : State → State}

theorem rgeChange_end_rgeOnly (f : State → State) (s : State) : rgeOnly (f s) (rgeChange f s) :=
  ((recountFloors_rgeOnly _).trans (settleRegime_rgeOnly _)).trans (deliver_rgeOnly _ _)

/-- The event of RGE that serves a request whose steps leave `y`: it is answered, and it ends as every event of RGE. -/
theorem rge_request_ends (h : s.configFault = false) (hf : f (abandon p s) = prepare p a (s.instantAt 0) y)
    (hy : rgeOnly (asked p s) y) (hc : y.rge.changeCounter = s.rge.changeCounter) :
    ∃ t, event .rge (rgeChange f) (abandon p s) = t ∧ rgeServed p s t ∧ answers p a s t
      ∧ regimeEnds s (y.withLinks t.links) t
      ∧ (asked p s).withLinks t.links = { s with links := t.links, cfs := t.cfs, deliveries := withFrame p s } := by
  have hends : ∀ l, regimeEnds s (y.withLinks l) (event .rge (rgeChange f) (abandon p s)) := fun l =>
    rgeEvent_ends abandon_rge readable_abandon (by rw [hf]; rfl) (by rw [hf]; rfl) (by rw [hf]; exact hc)
  have hframe : rgeOnly (f (abandon p s)) (event .rge (rgeChange f) (abandon p s)) := by
    rw [event_rge]
    exact (rgeChange_end_rgeOnly f (abandon p s)).trans (withRge_rgeOnly _ _)
  rw [hf] at hframe
  have hasked := asked_eq (p := p) h
  have hlinks : (prepare p a (s.instantAt 0) y).links = (prepare p a (s.instantAt 0) (asked p s)).links := by
    rw [hy]
    rfl
  generalize event .rge (rgeChange f) (abandon p s) = t at *
  have htl : t.links = (prepare p a (s.instantAt 0) (asked p s)).links := by rw [hframe]; exact hlinks
  have htc : t.cfs = (asked p s).cfs := by rw [hframe, hy]; rfl
  refine ⟨t, rfl, ?_, answers_of h htl, hends t.links, ?_⟩
  · have hp : t = { asked p s with rge := t.rge, deliveries := t.deliveries, links := t.links } := by
      rw [htl, ← hlinks]
      rw [hy] at hframe ⊢
      exact hframe
    unfold rgeServed
    rw [hasked] at hp
    exact hp
  · rw [htc]
    generalize asked p s = u at hasked
    rw [hasked]
    rfl

end

end Sys2Proof.Machine
end

section
/-! PROOF. ZONE REPORT (R11). -/

namespace Sys2Proof.Machine

/-! ## Zone operations do not see the links -/

section
variable {z : ZoneId} {c : Condition} {p : PortId} {s t : State}

theorem conditionApplied.withLinks (h : conditionApplied z c s t) (l : Links) :
    conditionApplied z c (s.withLinks l) (t.withLinks l) := by
  have hcongr : ∀ {a b : State}, a = b → a.withLinks l = b.withLinks l := fun k => congrArg (State.withLinks · l) k
  obtain ⟨hframe, hstay, halarm, hclear, hfault, hpf, hpc⟩ := h
  refine ⟨hcongr hframe, fun k => hcongr (hstay k), fun k kc => ?_, fun k kc => hcongr (hclear k kc),
    fun k kc => hcongr (hfault k kc), fun k kc => hcongr (hpf k kc), fun k kc => hcongr (hpc k kc)⟩
  obtain ⟨halone, hbeside, hat⟩ := halarm k kc
  exact ⟨fun kv kb => hcongr (halone kv kb), hbeside, hat⟩

theorem conditionArrived.withLinks (h : conditionArrived z c s t) (l : Links) :
    conditionArrived z c (s.withLinks l) (t.withLinks l) := by
  obtain ⟨hsame, hother⟩ := h
  refine ⟨fun k => congrArg (State.withLinks · l) (hsame k), fun k => ?_⟩
  obtain ⟨u, hu, rfl⟩ := hother k
  exact ⟨u.withLinks l, hu.withLinks l, rfl⟩

theorem reportApplied.withLinks {es : List (Byte × Byte)} (h : reportApplied p es s t) (l : Links) :
    reportApplied p es (s.withLinks l) (t.withLinks l) := by
  induction es generalizing s with
  | nil => exact congrArg (State.withLinks · l) h
  | cons e es ih =>
    obtain ⟨u, hzone, hnone, hrest⟩ := h
    exact ⟨u.withLinks l, fun z c hz hc => (hzone z c hz hc).withLinks l,
      fun k => congrArg (State.withLinks · l) (hnone k), ih hrest⟩

end

/-! ## The entries of a ZONE REPORT -/

section
variable {p : PortId} {e : Byte × Byte} {s t : State}

/-- The condition that a code up to 2 names. -/
def namedCondition (b : Byte) : Condition := if b.toNat = 0 then .clear else if b.toNat = 1 then .alarm else .fault

theorem conditionOf_eq (b : Byte) : conditionOf b = if b.toNat ≤ 2 then some (namedCondition b) else none := by
  unfold conditionOf namedCondition
  generalize b.toNat = n
  match n with
  | 0 => rfl
  | 1 => rfl
  | 2 => rfl
  | n + 3 => simp

theorem entryTarget_eq (p : PortId) (e : Byte × Byte) (s : State) : entryTarget p e s =
    if e.2.toNat ≤ 2 then (s.zoneFrom (.link p.val e.1.toNat)).map fun z => (z, namedCondition e.2) else none := by
  unfold entryTarget
  rw [conditionOf_eq]
  by_cases h : e.2.toNat ≤ 2
  · rw [if_pos h, if_pos h]
    cases s.zoneFrom (.link p.val e.1.toNat) <;> rfl
  · rw [if_neg h, if_neg h]
    cases s.zoneFrom (.link p.val e.1.toNat) <;> rfl

theorem reportEntry_taken {z : ZoneId} (hz : s.zoneFrom (.link p.val e.1.toNat) = some z) (h : e.2.toNat ≤ 2) :
    reportEntry p s e = arrive z (namedCondition e.2) s := by
  unfold reportEntry
  rw [entryTarget_eq, if_pos h, hz]
  rfl

theorem reportEntry_ignored (h : s.zoneFrom (.link p.val e.1.toNat) = none ∨ 2 < e.2.toNat) : reportEntry p s e = s := by
  unfold reportEntry
  rw [entryTarget_eq]
  rcases h with h | h
  · rw [h]; split <;> simp_all
  · rw [if_neg (by omega)]

theorem reportEntry_rgeOnly (p : PortId) (s : State) (e : Byte × Byte) : rgeOnly s (reportEntry p s e) := by
  unfold reportEntry
  split
  · exact arrive_rgeOnly s _ _
  · rfl

theorem reportEntry_counter : (reportEntry p s e).rge.changeCounter = s.rge.changeCounter := by
  unfold reportEntry
  split
  · exact arrive_counter _ _ s
  · rfl

theorem zoneReportTaken_counter (es : List (Byte × Byte)) (s : State) :
    (zoneReportTaken p es s).rge.changeCounter = s.rge.changeCounter := by
  induction es generalizing s with
  | nil => rfl
  | cons e es ih => exact (ih _).trans reportEntry_counter

/-- The entries of a ZONE REPORT are applied one after the other (R11). -/
theorem zoneReportTaken_applied (es : List (Byte × Byte)) (s : State) : reportApplied p es s (zoneReportTaken p es s) := by
  induction es generalizing s with
  | nil => rfl
  | cons e es ih =>
    refine ⟨reportEntry p s e, fun z c hz hc => ?_, reportEntry_ignored, ih _⟩
    have hcode : e.2.toNat ≤ 2 ∧ c = namedCondition e.2 := by
      obtain ⟨h, rfl⟩ | ⟨h, rfl⟩ | ⟨h, rfl⟩ := hc <;> rw [h] <;> decide
    rw [reportEntry_taken hz hcode.1, ← hcode.2]
    exact arrive_arrived z c s

theorem zoneFrom_congr (h : t.cfg = s.cfg) (src : Source) : t.zoneFrom src = s.zoneFrom src := by
  unfold State.zoneFrom
  rw [h]

/-- The entries that name a zone. -/
def entriesOf (p : PortId) (y : ZoneId) (s : State) (es : List (Byte × Byte)) : List (Byte × Byte) :=
  es.filter fun e => s.zoneFrom (.link p.val e.1.toNat) == some y && decide (e.2.toNat ≤ 2)

theorem entriesOf_congr (h : t.cfg = s.cfg) (y : ZoneId) (es : List (Byte × Byte)) :
    entriesOf p y t es = entriesOf p y s es := by
  unfold entriesOf
  simp only [zoneFrom_congr h]

/-- The condition that the last of some entries leaves of a condition. -/
def lastCondition (c : Condition) (es : List (Byte × Byte)) : Condition :=
  match es.getLast? with
  | some e => namedCondition e.2
  | none => c

theorem lastCondition_cons (c : Condition) (e : Byte × Byte) (es : List (Byte × Byte)) :
    lastCondition c (e :: es) = lastCondition (namedCondition e.2) es := by
  unfold lastCondition
  rw [List.getLast?_cons]
  cases es.getLast? <;> rfl

theorem reportEntry_condition (y : ZoneId) : (reportEntry p s e).rge.zones[y].condition =
    if s.zoneFrom (.link p.val e.1.toNat) == some y && decide (e.2.toNat ≤ 2) then namedCondition e.2
    else s.rge.zones[y].condition := by
  by_cases h : e.2.toNat ≤ 2
  · rw [decide_eq_true h, Bool.and_true]
    cases hz : s.zoneFrom (.link p.val e.1.toNat) with
    | none => rw [reportEntry_ignored (.inl hz)]; rfl
    | some z =>
      rw [reportEntry_taken hz h]
      by_cases hy : z = y
      · subst hy
        rw [if_pos (beq_self_eq_true _), arrive_condition]
      · rw [if_neg (by simpa using hy), arrive_condition_other (Ne.symm hy)]
  · rw [reportEntry_ignored (.inr (by omega)), decide_eq_false h, Bool.and_false]
    rfl

/-- Each zone that a ZONE REPORT names keeps the condition of the last entry that names it. -/
theorem zoneReportTaken_condition (y : ZoneId) (es : List (Byte × Byte)) (s : State) :
    (zoneReportTaken p es s).rge.zones[y].condition = lastCondition s.rge.zones[y].condition (entriesOf p y s es) := by
  induction es generalizing s with
  | nil => rfl
  | cons e es ih =>
    refine (ih (reportEntry p s e)).trans ?_
    rw [entriesOf_congr (reportEntry_rgeOnly p s e).cfg, reportEntry_condition, entriesOf, entriesOf, List.filter_cons]
    split
    · exact (lastCondition_cons _ _ _).symm
    · rfl

theorem zoneEntries_length (body : List Byte) : (zoneEntries body).length = body.length / 2 := by
  induction body using zoneEntries.induct with
  | case1 a b rest ih =>
    rw [zoneEntries, List.length_cons, ih, List.length_cons, List.length_cons]
    omega
  | case2 body h =>
    match body with
    | [] => simp [zoneEntries]
    | [_] => simp [zoneEntries]
    | a :: b :: rest => exact absurd rfl (h a b rest)

theorem acceptedEntries_eq (h : t.cfg = s.cfg) (es : List (Byte × Byte)) : acceptedEntries p es t =
    (es.filter fun e => (s.zoneFrom (.link p.val e.1.toNat)).isSome && decide (e.2.toNat ≤ 2)).length := by
  unfold acceptedEntries
  refine congrArg List.length (List.filter_congr fun e _ => ?_)
  rw [entryTarget_eq, zoneFrom_congr h]
  by_cases hc : e.2.toNat ≤ 2
  · rw [if_pos hc, decide_eq_true hc, Option.isSome_map, Bool.and_true]
  · rw [if_neg hc, decide_eq_false hc, Bool.and_false]
    rfl

end

/-- Settles O15: the request is one event of RGE whose steps are the entries in order. -/
theorem zoneReportRecordsItsEntries : Obligations.ZoneReportRecordsItsEntries := by
  intro p body s h hrole heven hlen
  have hcheck : s.requestCheck p 2 body = none := by
    simp [State.requestCheck, h.2.1, hrole, knownKind, kindRole, bodyForm, heven, hlen]
  have hhome : serveHome p 2 body s = .rge := by
    rw [serveHome, hcheck]
    rfl
  have hexec := request_served (i := .zoneReport p body) rfl h hlen hcheck hhome (.inl (by decide))
  obtain ⟨t, ht, hserved, hanswers, hends, hbase⟩ := rge_request_ends (p := p) (s := s)
    (y := zoneReportTaken p (zoneEntries body) (asked p s))
    (a := reportAnswer (acceptedEntries p (zoneEntries body) (asked p s))
      ((zoneEntries body).length - acceptedEntries p (zoneEntries body) (asked p s)))
    (f := fun x => prepare p (serveKind p 2 body (presenceOnFrame p x)).2 (s.instantAt 0)
      (serveKind p 2 body (presenceOnFrame p x)).1)
    h.2.1 rfl (zoneReportTaken_rgeOnly _ p _)
    ((zoneReportTaken_counter _ _).trans (congrArg Rge.changeCounter (asked_rge h.2.1)))
  refine ⟨t, hexec.trans (congrArg _ ht), hserved, ?_, ⟨_, ?_, hends⟩, fun y => ?_⟩
  · rw [acceptedEntries_eq (s := s) (asked_cfg h.2.1), zoneEntries_length] at hanswers
    exact hanswers
  · rw [← hbase]
    exact (zoneReportTaken_applied _ _).withLinks t.links
  · obtain ⟨-, -, -, -, hrge, -⟩ := hends
    rw [hrge]
    refine (zoneReportTaken_condition y (zoneEntries body) (asked p s)).trans ?_
    rw [entriesOf_congr (asked_cfg h.2.1), asked_rge h.2.1]
    rfl

end Sys2Proof.Machine
end

section
/-! PROOF. ISOLATE ZONE and RESTORE ZONE (R18, R19). -/

namespace Sys2Proof.Machine

/-! ## The two zone commands (R18, R19) -/

section
variable {p : PortId} {z : ZoneId} {n code : Byte} {s t : State} {i : Instr} {r : Reason}

theorem zoneNamed_eq_some {k : Nat} : s.zoneNamed k = some z ↔ z.val = k ∧ s.cfg.zones[z].configured = true := by
  unfold State.zoneNamed
  by_cases hk : k < 64
  · rw [toIndex_some hk]
    dsimp only
    by_cases hc : s.cfg.zones[(⟨k, hk⟩ : ZoneId)].configured = true
    · rw [if_pos hc, Option.some_inj]
      constructor
      · rintro rfl
        exact ⟨rfl, hc⟩
      · rintro ⟨rfl, -⟩
        rfl
    · rw [if_neg hc]
      refine iff_of_false (by simp) ?_
      rintro ⟨rfl, h⟩
      exact hc h
  · have hnone : toIndex 64 k = none := by simp [toIndex, hk]
    rw [hnone]
    refine iff_of_false (by simp) ?_
    rintro ⟨rfl, -⟩
    exact hk z.isLt

theorem foreignZone_iff : foreignZone p z s = true ↔
    s.role p = .firePanel ∧ ∃ q k, s.cfg.zones[z].source = .link q k ∧ q ≠ p.val := by
  unfold foreignZone
  rw [Bool.and_eq_true, beq_iff_eq]
  refine and_congr_right fun _ => ?_
  cases s.cfg.zones[z].source with
  | link q k => simp
  | loop l => simp

/-- The commands that name a zone. -/
def zoneCommand (code : Byte) : Prop := code = 9 ∨ code = 10

/-- A port that may give the commands of a zone. -/
def mayCommandZones (p : PortId) (s : State) : Prop := s.role p = .commandStation ∨ s.role p = .firePanel

/-- The event of RGE that serves a command of a zone. -/
def zoneCommandEvent (p : PortId) (code n : Byte) (s : State) : State :=
  event .rge (rgeChange fun x =>
    prepare p (commandAnswer code (serveCommand p code [n] (presenceOnFrame p x)).2) (s.instantAt 0)
      (serveCommand p code [n] (presenceOnFrame p x)).1) (abandon p s)

theorem serveCommand_zone (hr : mayCommandZones p s) (hc : zoneCommand code) :
    serveCommand p code [n] s = decideCommand p code.toNat [n] s := by
  unfold serveCommand
  rcases hc with rfl | rfl <;> rcases hr with hr | hr <;> rw [hr] <;> rfl

theorem exec_zoneCommand (hi : frameOf i = some (p, 3, [code, n])) (h : canAsk p .rge s) (hr : mayCommandZones p s)
    (hc : zoneCommand code) : exec i s = .next (zoneCommandEvent p code n s) := by
  have hcheck : s.requestCheck p 3 [code, n] = none := by
    unfold State.requestCheck
    rw [h.2.1]
    rcases hc with rfl | rfl <;> rcases hr with hr | hr <;> rw [hr] <;> rfl
  have hhome : serveHome p 3 [code, n] s = .rge := by
    rw [serveHome, hcheck]
    show commandHome p code s = .rge
    unfold commandHome
    rcases hc with rfl | rfl <;> rcases hr with hr | hr <;> rw [hr] <;> rfl
  exact request_served hi h (by simp) hcheck hhome (.inl (by decide))

/-- A command that RGE leaves without effect is answered. -/
theorem zoneCommand_onlyAnswered (h : s.configFault = false) (hcount : zonesCounted s) (hsettled : regimeSettled s)
    (hcmd : serveCommand p code [n] (asked p s) = (asked p s, r)) :
    rgeServed p s (zoneCommandEvent p code n s) ∧ answers p ⟨0x83, [code, r.code]⟩ s (zoneCommandEvent p code n s)
    ∧ leaves .rge (withFrame p s) [] s (zoneCommandEvent p code n s)
    ∧ (zoneCommandEvent p code n s).rge =
        { s.rge with changeCounter := (zoneCommandEvent p code n s).rge.changeCounter } := by
  have hstate : { asked p s with rge := s.rge, deliveries := (asked p s).deliveries ++ [] } = asked p s := by
    rw [List.append_nil, ← asked_rge h (p := p)]
  obtain ⟨t, rfl, hserved, hanswers, hleaves, hrge⟩ := rge_served (p := p) (a := commandAnswer code r) (R := s.rge) (D := [])
    (f := fun x => prepare p (commandAnswer code (serveCommand p code [n] (presenceOnFrame p x)).2) (s.instantAt 0)
      (serveCommand p code [n] (presenceOnFrame p x)).1) h (by
        show prepare p (commandAnswer code (serveCommand p code [n] (asked p s)).2) (s.instantAt 0)
          (serveCommand p code [n] (asked p s)).1 = _
        rw [hcmd, hstate]) hcount hsettled rfl
  refine ⟨hserved, hanswers, ?_, hrge⟩
  rw [rgeNews_nil (s := s) (t := { s with rge := s.rge }) rfl (fun _ => rfl) rfl rfl] at hleaves
  exact hleaves

/-- A command that RGE accepts is answered, and its event ends as every event of RGE. -/
theorem zoneCommand_accepted {y : State} (h : s.configFault = false)
    (hcmd : serveCommand p code [n] (asked p s) = (y, .accepted)) (hy : rgeOnly (asked p s) y)
    (hc : y.rge.changeCounter = s.rge.changeCounter) :
    ∃ t, zoneCommandEvent p code n s = t ∧ rgeServed p s t ∧ answers p ⟨0x83, [code, 0]⟩ s t
      ∧ regimeEnds s (y.withLinks t.links) t
      ∧ (asked p s).withLinks t.links = { s with links := t.links, cfs := t.cfs, deliveries := withFrame p s } :=
  rge_request_ends (a := commandAnswer code .accepted) h (by
    show prepare p (commandAnswer code (serveCommand p code [n] (asked p s)).2) (s.instantAt 0)
      (serveCommand p code [n] (asked p s)).1 = _
    rw [hcmd]) hy hc

/-! ## ISOLATE ZONE -/

theorem isolate_eq (hi : s.rge.zones[z].state ≠ .isolated) : isolate z s =
    zonesMoved (s.rge.zones.set z.val { s.rge.zones[z] with state := .isolated, timer := none } z.isLt)
      (.troubleRaise .zoneIsolated z.val
        :: if s.rge.zones[z].condition = .fault then [.troubleClear .zoneFault z.val] else []) s := by
  have hnews : ∀ t : State, t.rge.zones[z].state = .isolated → zoneFaultNews z s t =
      if s.rge.zones[z].condition = .fault then [.troubleClear .zoneFault z.val] else [] := by
    intro t ht
    have hafter : t.rge.zones[z].faulty = false := by
      rw [← Bool.not_eq_true, faulty_iff]
      exact fun k => k.2 ht
    unfold zoneFaultNews
    rw [hafter]
    by_cases hf : s.rge.zones[z].condition = .fault
    · rw [faulty_iff.2 ⟨hf, hi⟩, if_pos hf]
      rfl
    · rw [Bool.eq_false_iff.2 fun k => hf (faulty_iff.1 k).1, if_neg hf]
      rfl
  have hstate : ((s.setZone z { s.rge.zones[z] with state := .isolated, timer := none }).raise .zoneIsolated z.val).rge.zones[z].state
      = .isolated := by
    show (s.rge.zones.set z.val _ z.isLt)[z].state = _
    rw [set_fin_same]
  unfold isolate
  dsimp only
  rw [hnews _ hstate]
  simp [State.deliver, State.raise, State.setZone, State.withRge, zonesMoved]

/-- ISOLATE ZONE by the state of the zone that it names. -/
theorem cmdIsolateZone_eq (h : s.zoneNamed n.toNat = some z) : cmdIsolateZone p n s =
    if foreignZone p z s then (s, .authority)
    else if s.rge.zones[z].state = .alarm then (s, .state)
    else if s.rge.zones[z].state = .isolated then (s, .accepted)
    else (isolate z s, .accepted) := by
  unfold cmdIsolateZone
  rw [h]
  dsimp only
  split
  · rfl
  · generalize s.rge.zones[z].state = st
    cases st <;> rfl

/-! ## RESTORE ZONE -/

theorem cmdRestoreZone_eq (h : s.zoneNamed n.toNat = some z) : cmdRestoreZone p n s =
    if foreignZone p z s then (s, .authority)
    else if s.rge.zones[z].state ≠ .isolated then (s, .state)
    else (restore z s, .accepted) := by
  unfold cmdRestoreZone
  rw [h]
  dsimp only
  simp only [bne_iff_ne]

/-- The zone that RESTORE ZONE names, in NORMAL with its ZONE ISOLATED cleared, before its condition acts. -/
def restoring (z : ZoneId) (s : State) : State :=
  zonesMoved (s.rge.zones.set z.val { s.rge.zones[z] with state := .normal } z.isLt) [.troubleClear .zoneIsolated z.val] s

theorem restore_eq (hi : s.rge.zones[z].state = .isolated) : restore z s =
    (conditionActs z s.rge.zones[z].condition (restoring z s)).deliver
      (if s.rge.zones[z].condition = .fault then [.troubleRaise .zoneFault z.val] else []) := by
  obtain ⟨hc, hst⟩ := (conditionActs_recordsKept z s.rge.zones[z].condition (restoring z s)).2 z
  have hz : (restoring z s).rge.zones[z] = { s.rge.zones[z] with state := .normal } := set_fin_same _ _ _
  rw [hz] at hc hst
  have hne : (conditionActs z s.rge.zones[z].condition (restoring z s)).rge.zones[z].state ≠ .isolated := by
    rw [Ne, hst]
    simp
  have hbefore : s.rge.zones[z].faulty = false := Bool.eq_false_iff.2 fun k => (faulty_iff.1 k).2 hi
  have hnews : zoneFaultNews z s (conditionActs z s.rge.zones[z].condition (restoring z s)) =
      if s.rge.zones[z].condition = .fault then [.troubleRaise .zoneFault z.val] else [] := by
    unfold zoneFaultNews
    rw [hbefore]
    by_cases hf : s.rge.zones[z].condition = .fault
    · rw [faulty_iff.2 ⟨hc.trans hf, hne⟩, if_pos hf]
      rfl
    · rw [Bool.eq_false_iff.2 fun k => hf (hc.symm.trans (faulty_iff.1 k).1), if_neg hf]
      rfl
  rw [← hnews]
  rfl

theorem restore_counter (hi : s.rge.zones[z].state = .isolated) : (restore z s).rge.changeCounter = s.rge.changeCounter := by
  rw [restore_eq hi]
  exact (conditionActs_recordsKept z _ (restoring z s)).1

end

section
variable {p : PortId} {z : ZoneId} {n code : Byte} {s t : State} {r : Reason}

theorem zoneNamed_congr (h : t.cfg = s.cfg) (k : Nat) : t.zoneNamed k = s.zoneNamed k := by
  unfold State.zoneNamed
  rw [h]

theorem foreignZone_congr (h : t.cfg = s.cfg) : foreignZone p z t = foreignZone p z s := by
  unfold foreignZone State.role
  rw [h]

theorem zonesMoved_rgeOnly (v : Vector ZoneRec 64) (news : List Instr) (s : State) : rgeOnly s (zonesMoved v news s) := rfl

/-- What a command of a zone does when RGE leaves everything. -/
def onlyAnswered (p : PortId) (code reason : Byte) (s t : State) : Prop :=
  answers p ⟨0x83, [code, reason]⟩ s t ∧ leaves .rge (withFrame p s) [] s t
    ∧ t.rge = { s.rge with changeCounter := t.rge.changeCounter }

/-- A command that names no configured zone. -/
theorem zoneNamed_eq_none {k : Nat} (h : s.zoneNamed k = none) (y : ZoneId) (hy : y.val = k) :
    s.cfg.zones[y].configured = false := by
  by_contra hc
  have := zoneNamed_eq_some.2 ⟨hy, by simpa using hc⟩
  rw [h] at this
  exact absurd this (by simp)

theorem zoneCommand_refused (h : s.configFault = false) (hs : regimeSound s)
    (hcmd : serveCommand p code [n] (asked p s) = (asked p s, r)) :
    rgeServed p s (zoneCommandEvent p code n s) ∧ onlyAnswered p code r.code s (zoneCommandEvent p code n s) := by
  obtain ⟨hcount, hsettled, -⟩ := (regimeSound_iff s).1 hs
  exact zoneCommand_onlyAnswered h hcount hsettled hcmd

/-- An ISOLATE ZONE that takes effect. -/
theorem isolateZone_accepted (h : s.configFault = false)
    (hcmd : serveCommand p 9 [n] (asked p s) = (isolate z (asked p s), .accepted))
    (hi : s.rge.zones[z].state ≠ .isolated) :
    rgeServed p s (zoneCommandEvent p 9 n s) ∧ answers p ⟨0x83, [9, 0]⟩ s (zoneCommandEvent p 9 n s)
    ∧ (zoneCommandEvent p 9 n s).rge.zones[z] = { s.rge.zones[z] with state := .isolated, timer := none }
    ∧ (∀ y : ZoneId, y ≠ z → (zoneCommandEvent p 9 n s).rge.zones[y] = s.rge.zones[y])
    ∧ zonesCounted (zoneCommandEvent p 9 n s) ∧ regimeSettled (zoneCommandEvent p 9 n s)
    ∧ (∀ f : FloorId, (zoneCommandEvent p 9 n s).rge.floors[f].phase = s.rge.floors[f].phase)
    ∧ leaves .rge (withFrame p s)
        (.troubleRaise .zoneIsolated z.val
          :: if s.rge.zones[z].condition = .fault then [.troubleClear .zoneFault z.val] else [])
        s (zoneCommandEvent p 9 n s) := by
  have hrge : (asked p s).rge = s.rge := asked_rge h
  rw [isolate_eq (by rw [hrge]; exact hi), hrge] at hcmd
  obtain ⟨hself, hothers⟩ := onlyZone_set z { s.rge.zones[z] with state := .isolated, timer := none } s
  generalize s.rge.zones.set z.val { s.rge.zones[z] with state := .isolated, timer := none } z.isLt = v
    at hcmd hself hothers
  obtain ⟨t, ht, hserved, hanswers, hends, -⟩ := zoneCommand_accepted h hcmd (zonesMoved_rgeOnly _ _ _)
    (show (asked p s).rge.changeCounter = _ by rw [hrge])
  rw [ht]
  obtain ⟨hz, -, hf, -, hleaves⟩ := hends.quiet (v := v) (congrArg (fun r : Rge => { r with zones := v }) hrge)
  obtain ⟨hcount, hsettled, -⟩ := hends
  refine ⟨hserved, hanswers, by rw [hz, hself], fun y hy => by rw [hz, hothers y hy], hcount, hsettled,
    fun f => by rw [hf], ?_, hleaves.2⟩
  have hd := hleaves.1
  rw [List.append_nil] at hd
  rw [hd, ← asked_deliveries h]
  rfl

theorem deliver_withLinks (x : State) (ds : List Instr) (l : Links) : (x.deliver ds).withLinks l =
    { x.withLinks l with deliveries := (x.withLinks l).deliveries ++ ds } := rfl

theorem restoring_asked (z : ZoneId) (s : State) (l : Links) (k : Cfs) (ds : List Instr) :
    restoring z { s with links := l, cfs := k, deliveries := ds } =
      { s with
        links := l, cfs := k
        rge := { s.rge with zones := s.rge.zones.set z.val { s.rge.zones[z] with state := .normal } z.isLt }
        deliveries := ds ++ [.troubleClear .zoneIsolated z.val] } := rfl

/-- A RESTORE ZONE that takes effect. -/
theorem restoreZone_accepted (h : s.configFault = false)
    (hcmd : serveCommand p 10 [n] (asked p s) = (restore z (asked p s), .accepted))
    (hi : s.rge.zones[z].state = .isolated) :
    rgeServed p s (zoneCommandEvent p 10 n s) ∧ answers p ⟨0x83, [10, 0]⟩ s (zoneCommandEvent p 10 n s)
    ∧ ∃ u, conditionApplied z s.rge.zones[z].condition
        { s with
          links := (zoneCommandEvent p 10 n s).links, cfs := (zoneCommandEvent p 10 n s).cfs
          rge := { s.rge with zones := s.rge.zones.set z.val { s.rge.zones[z] with state := .normal } z.isLt }
          deliveries := withFrame p s ++ [.troubleClear .zoneIsolated z.val] } u
      ∧ regimeEnds s { u with deliveries := u.deliveries ++
          (if s.rge.zones[z].condition = .fault then [.troubleRaise .zoneFault z.val] else []) }
          (zoneCommandEvent p 10 n s) := by
  have hrge : (asked p s).rge = s.rge := asked_rge h
  have hia : (asked p s).rge.zones[z].state = .isolated := by rw [hrge]; exact hi
  obtain ⟨t, rfl, hserved, hanswers, hends, hbase⟩ := zoneCommand_accepted h hcmd (restore_rgeOnly _ z)
    ((restore_counter hia).trans (congrArg Rge.changeCounter hrge))
  rw [restore_eq hia] at hends
  have hacts := conditionActs_applied z (asked p s).rge.zones[z].condition (restoring z (asked p s))
  generalize conditionActs z (asked p s).rge.zones[z].condition (restoring z (asked p s)) = u at hends hacts
  have hacts := hacts.withLinks (zoneCommandEvent p 10 n s).links
  have hstart : ∀ (x : State) (l : Links), (restoring z x).withLinks l = restoring z (x.withLinks l) := fun _ _ => rfl
  rw [hstart, hbase, hrge] at hacts
  rw [hrge] at hends
  rw [restoring_asked] at hacts
  rw [deliver_withLinks] at hends
  exact ⟨hserved, hanswers, u.withLinks _, hacts, hends⟩

/-- A command of a zone is refused RANGE when it names no configured zone, and is else decided by the zone that it names. -/
theorem zoneCommand_decided {Q : ZoneId → Prop} (h : s.configFault = false) (hs : regimeSound s)
    (hnone : s.zoneNamed n.toNat = none → serveCommand p code [n] (asked p s) = (asked p s, .range))
    (hsome : ∀ z, s.zoneNamed n.toNat = some z → rgeServed p s (zoneCommandEvent p code n s) ∧ Q z) :
    rgeServed p s (zoneCommandEvent p code n s)
    ∧ ((∀ z : ZoneId, z.val = n.toNat → s.cfg.zones[z].configured = false) →
        onlyAnswered p code 5 s (zoneCommandEvent p code n s))
    ∧ ∀ z : ZoneId, z.val = n.toNat → s.cfg.zones[z].configured = true → Q z := by
  cases hz : s.zoneNamed n.toNat with
  | none =>
    obtain ⟨hserved, honly⟩ := zoneCommand_refused h hs (hnone hz)
    refine ⟨hserved, fun _ => honly, fun z hzn hzc => ?_⟩
    rw [zoneNamed_eq_none hz z hzn] at hzc
    exact absurd hzc (by decide)
  | some z =>
    obtain ⟨hserved, -⟩ := hsome z hz
    obtain ⟨hzn, hzc⟩ := zoneNamed_eq_some.1 hz
    refine ⟨hserved, fun k => ?_, fun y hyn hyc => (hsome y (zoneNamed_eq_some.2 ⟨hyn, hyc⟩)).2⟩
    rw [k z hzn] at hzc
    exact absurd hzc (by decide)

end

/-- The first half of O17: ISOLATE ZONE (R18). -/
theorem isolateZone_decided (p : PortId) (n : Byte) (s : State) (h : canAsk p .rge s) (hs : regimeSound s)
    (hr : mayCommandZones p s) :
    ∃ t, exec (.isolateZone p [n]) s = .next t ∧ rgeServed p s t
      ∧ ((∀ z : ZoneId, z.val = n.toNat → s.cfg.zones[z].configured = false) → onlyAnswered p 9 5 s t)
      ∧ ∀ z : ZoneId, z.val = n.toNat → s.cfg.zones[z].configured = true →
          let foreign : Prop := s.role p = .firePanel ∧ ∃ q k, s.cfg.zones[z].source = .link q k ∧ q ≠ p.val
          (foreign → onlyAnswered p 9 3 s t)
          ∧ (¬ foreign → s.rge.zones[z].state = .alarm → onlyAnswered p 9 4 s t)
          ∧ (¬ foreign → s.rge.zones[z].state = .isolated → onlyAnswered p 9 0 s t)
          ∧ (¬ foreign → s.rge.zones[z].state ≠ .alarm → s.rge.zones[z].state ≠ .isolated →
              answers p ⟨0x83, [9, 0]⟩ s t
              ∧ t.rge.zones[z] = { s.rge.zones[z] with state := .isolated, timer := none }
              ∧ (∀ y : ZoneId, y ≠ z → t.rge.zones[y] = s.rge.zones[y])
              ∧ zonesCounted t ∧ regimeSettled t
              ∧ (∀ f : FloorId, t.rge.floors[f].phase = s.rge.floors[f].phase)
              ∧ leaves .rge (withFrame p s)
                  (.troubleRaise .zoneIsolated z.val
                    :: if s.rge.zones[z].condition = .fault then [.troubleClear .zoneFault z.val] else []) s t) := by
  have hcfg : (asked p s).cfg = s.cfg := asked_cfg h.2.1
  have hserve : serveCommand p 9 [n] (asked p s) = cmdIsolateZone p n (asked p s) :=
    serveCommand_zone (by unfold mayCommandZones State.role; rw [hcfg]; exact hr) (.inl rfl)
  refine ⟨_, exec_zoneCommand rfl h hr (.inl rfl), zoneCommand_decided h.2.1 hs (fun hz => ?_) fun z hz => ?_⟩
  · rw [hserve, cmdIsolateZone, zoneNamed_congr hcfg, hz]
  have hcmd := hserve.trans (cmdIsolateZone_eq (p := p) ((zoneNamed_congr hcfg _).trans hz))
  rw [foreignZone_congr hcfg, asked_rge h.2.1] at hcmd
  dsimp only
  rw [← foreignZone_iff]
  by_cases hf : foreignZone p z s = true
  · rw [if_pos hf] at hcmd
    obtain ⟨hserved, honly⟩ := zoneCommand_refused h.2.1 hs hcmd
    exact ⟨hserved, fun _ => honly, fun k => absurd hf k, fun k => absurd hf k, fun k => absurd hf k⟩
  rw [if_neg hf] at hcmd
  by_cases ha : s.rge.zones[z].state = .alarm
  · rw [if_pos ha] at hcmd
    obtain ⟨hserved, honly⟩ := zoneCommand_refused h.2.1 hs hcmd
    exact ⟨hserved, fun k => absurd k hf, fun _ _ => honly, fun _ k => absurd (ha.symm.trans k) (by decide),
      fun _ k => absurd ha k⟩
  rw [if_neg ha] at hcmd
  by_cases hi : s.rge.zones[z].state = .isolated
  · rw [if_pos hi] at hcmd
    obtain ⟨hserved, honly⟩ := zoneCommand_refused h.2.1 hs hcmd
    exact ⟨hserved, fun k => absurd k hf, fun _ k => absurd k ha, fun _ _ => honly, fun _ _ k => absurd hi k⟩
  · rw [if_neg hi] at hcmd
    obtain ⟨hserved, heffect⟩ := isolateZone_accepted h.2.1 hcmd hi
    exact ⟨hserved, fun k => absurd k hf, fun _ k => absurd k ha, fun _ k => absurd k hi, fun _ _ _ => heffect⟩

/-- The second half of O17: RESTORE ZONE (R19). -/
theorem restoreZone_decided (p : PortId) (n : Byte) (s : State) (h : canAsk p .rge s) (hs : regimeSound s)
    (hr : mayCommandZones p s) :
    ∃ t, exec (.restoreZone p [n]) s = .next t ∧ rgeServed p s t
      ∧ ((∀ z : ZoneId, z.val = n.toNat → s.cfg.zones[z].configured = false) → onlyAnswered p 10 5 s t)
      ∧ ∀ z : ZoneId, z.val = n.toNat → s.cfg.zones[z].configured = true →
          let foreign : Prop := s.role p = .firePanel ∧ ∃ q k, s.cfg.zones[z].source = .link q k ∧ q ≠ p.val
          let r := s.rge.zones[z]
          (foreign → onlyAnswered p 10 3 s t)
          ∧ (¬ foreign → r.state ≠ .isolated → onlyAnswered p 10 4 s t)
          ∧ (¬ foreign → r.state = .isolated →
              answers p ⟨0x83, [10, 0]⟩ s t
              ∧ ∃ u, conditionApplied z r.condition
                  { s with
                    links := t.links, cfs := t.cfs
                    rge := { s.rge with zones := s.rge.zones.set z.val { r with state := .normal } z.isLt }
                    deliveries := withFrame p s ++ [.troubleClear .zoneIsolated z.val] } u
                ∧ regimeEnds s { u with deliveries := u.deliveries ++
                    (if r.condition = .fault then [.troubleRaise .zoneFault z.val] else []) } t) := by
  have hcfg : (asked p s).cfg = s.cfg := asked_cfg h.2.1
  have hserve : serveCommand p 10 [n] (asked p s) = cmdRestoreZone p n (asked p s) :=
    serveCommand_zone (by unfold mayCommandZones State.role; rw [hcfg]; exact hr) (.inr rfl)
  refine ⟨_, exec_zoneCommand rfl h hr (.inr rfl), zoneCommand_decided h.2.1 hs (fun hz => ?_) fun z hz => ?_⟩
  · rw [hserve, cmdRestoreZone, zoneNamed_congr hcfg, hz]
  have hcmd := hserve.trans (cmdRestoreZone_eq (p := p) ((zoneNamed_congr hcfg _).trans hz))
  rw [foreignZone_congr hcfg, asked_rge h.2.1] at hcmd
  dsimp only
  rw [← foreignZone_iff]
  by_cases hf : foreignZone p z s = true
  · rw [if_pos hf] at hcmd
    obtain ⟨hserved, honly⟩ := zoneCommand_refused h.2.1 hs hcmd
    exact ⟨hserved, fun _ => honly, fun k => absurd hf k, fun k => absurd hf k⟩
  rw [if_neg hf] at hcmd
  by_cases hi : s.rge.zones[z].state ≠ .isolated
  · rw [if_pos hi] at hcmd
    obtain ⟨hserved, honly⟩ := zoneCommand_refused h.2.1 hs hcmd
    exact ⟨hserved, fun k => absurd k hf, fun _ _ => honly, fun _ k => absurd k hi⟩
  · rw [if_neg hi] at hcmd
    obtain ⟨hserved, heffect⟩ := restoreZone_accepted h.2.1 hcmd (not_not.1 hi)
    exact ⟨hserved, fun k => absurd k hf, fun _ k => absurd k hi, fun _ _ => heffect⟩

/-- Settles O17: each command is refused without effect, or is one event of RGE at the zone that it names. -/
theorem isolateAndRestoreAreDecidedInOrder : Obligations.IsolateAndRestoreAreDecidedInOrder :=
  ⟨isolateZone_decided, restoreZone_decided⟩

end Sys2Proof.Machine
end

section
/-! SUPPORT. What the operations of the Lift Coordinator do to the Bank Order records (chapter 3). -/

namespace Sys2Proof.Machine

/-! ## One Bank Order record -/

section
variable (s : State) (b : BankId) (f g : BankRec → BankRec)

theorem mapBank_same : (s.mapBank b f).lfc.banks[b] = f s.lfc.banks[b] := set_fin_same _ _ _

theorem mapBank_other {a : BankId} (h : a ≠ b) : (s.mapBank b f).lfc.banks[a] = s.lfc.banks[a] := set_fin_other _ _ h

theorem mapBank_id : s.mapBank b (fun r => r) = s := by
  have h : s.lfc.banks.set b.val s.lfc.banks[b] b.isLt = s.lfc.banks := Vector.set_getElem_self b.isLt
  unfold State.mapBank State.setBank
  rw [h]
  rfl

theorem mapBank_mapBank : (s.mapBank b f).mapBank b g = s.mapBank b fun r => g (f r) := by
  unfold State.mapBank
  rw [setBank_banks, set_fin_same]
  simp [State.setBank, State.withLfc]

theorem mapBank_ite (c : Prop) [Decidable c] :
    s.mapBank b (fun r => if c then f r else r) = if c then s.mapBank b f else s := by
  by_cases h : c
  · simp only [if_pos h]
  · simp only [if_neg h]
    exact mapBank_id s b

theorem mapBank_congr {f g : BankRec → BankRec} (h : f s.lfc.banks[b] = g s.lfc.banks[b]) :
    s.mapBank b f = s.mapBank b g := congrArg (s.setBank b) h

end

/-! ## Each bank in turn -/

/-- The state with other Bank Order records. -/
def withBanks (v : Vector BankRec 2) (s : State) : State := s.withLfc { s.lfc with banks := v }

/-- Steps that change one bank each, whatever the records of the banks, change every bank by its own step. -/
theorem foldl_banks {s : State} {step : State → BankId → State} (F : BankId → BankRec → BankRec)
    (h : ∀ v b, step (withBanks v s) b = (withBanks v s).mapBank b (F b)) :
    ∃ v : Vector BankRec 2, (List.finRange 2).foldl step s = withBanks v s ∧ ∀ b : BankId, v[b] = F b s.lfc.banks[b] := by
  refine ⟨(s.lfc.banks.set 0 (F 0 s.lfc.banks[(0 : BankId)])).set 1 (F 1 s.lfc.banks[(1 : BankId)]), ?_, fun b => ?_⟩
  · show step (step s 0) 1 = _
    have h0 : step s 0 = withBanks (s.lfc.banks.set 0 (F 0 s.lfc.banks[(0 : BankId)])) s := h s.lfc.banks 0
    have h1 : (s.lfc.banks.set 0 (F 0 s.lfc.banks[(0 : BankId)]))[(1 : BankId)] = s.lfc.banks[(1 : BankId)] :=
      set_fin_other s.lfc.banks (i := 0) _ (by decide)
    rw [h0, h, ← h1]
    rfl
  · match b with
    | 0 => simp
    | 1 => simp

/-! ## Landing (R57) -/

theorem zoneFlag_eq (s : State) (z : ZoneId) (b : BankId) :
    s.zoneFlag z b = if b = 0 then s.cfg.zones[z].flagA else s.cfg.zones[z].flagB := by
  match b with
  | 0 => rfl
  | 1 => rfl

theorem lobbyTest_iff (s : State) (b : BankId) (floor : Nat) : s.lobbyTest b floor = true ↔
    ∃ y : ZoneId, s.cfg.zones[y].configured = true ∧ s.cfg.zones[y].kind = .lobbyDetector
      ∧ (if b = 0 then s.cfg.zones[y].flagA else s.cfg.zones[y].flagB) = true
      ∧ s.cfg.zones[y].floor = floor ∧ s.rge.zones[y].state = .alarm := by
  simp only [State.lobbyTest, List.any_eq_true, List.mem_finRange, true_and, Bool.and_eq_true, beq_iff_eq, zoneFlag_eq,
    and_assoc]

theorem landingFor_alternate_iff (s : State) (b : BankId) : s.landingFor b = .alternate ↔
    s.lobbyTest b s.cfg.banks[b].designated = true ∧ ¬ s.lobbyTest b s.cfg.banks[b].alternate = true := by
  unfold State.landingFor
  cases s.lobbyTest b s.cfg.banks[b].designated <;> cases s.lobbyTest b s.cfg.banks[b].alternate <;> decide

/-! ## Parked banks (R61) -/

theorem carParked_iff (c : CarRec) : carParked c = true ↔
    (c.mode = .atRecallLanding ∧ c.doors = .openDoors) ∨ c.mode = .outOfService := by
  simp only [carParked, Bool.or_eq_true, Bool.and_eq_true, beq_iff_eq]

theorem bankParked_iff (s : State) (b : BankId) : s.bankParked b = true ↔
    (∃ c ∈ s.slotsOf b, s.lfc.cars[c].stale = false)
      ∧ ∀ c ∈ s.slotsOf b, s.lfc.cars[c].stale = false →
          (s.lfc.cars[c].mode = .atRecallLanding ∧ s.lfc.cars[c].doors = .openDoors)
          ∨ s.lfc.cars[c].mode = .outOfService := by
  simp only [State.bankParked, Bool.and_eq_true, Bool.not_eq_true', List.isEmpty_eq_false_iff_exists_mem, List.mem_filter,
    List.all_eq_true, carParked_iff, and_imp]

theorem slotsOf_iff {s : State} {b : BankId} (h : s.cfg.banks[b].configured = true) (c : CarId) :
    c ∈ s.slotsOf b ↔ c.val / 6 = b.val ∧ c.val % 6 < s.cfg.banks[b].cars := by
  have hbank : slotBank c = b ↔ c.val / 6 = b.val := by
    unfold slotBank
    rw [Fin.ext_iff]
    have := c.isLt
    split
    · rw [Fin.val_zero]; omega
    · rw [Fin.val_one]; omega
  simp only [State.slotsOf, State.slotConfigured, slotNumber, List.mem_filter, List.mem_finRange, true_and, Bool.and_eq_true,
    beq_iff_eq, ← hbank]
  refine and_congr_right ?_
  rintro rfl
  exact (and_iff_right h).trans decide_eq_true_iff

/-! ## What each operation makes of the record of its bank -/

/-- A record raised to at least RECALL (R52). -/
def recalledRecord (landing : Landing) (add : Reasons → Reasons) (r : BankRec) : BankRec :=
  { r with
    order := if r.order = .none then .recall else r.order
    landing := if r.order = .none then landing else r.landing
    reasons := add r.reasons }

theorem raiseRecall_eq (b : BankId) (add : Reasons → Reasons) (s : State) :
    raiseRecall b add s = s.mapBank b (recalledRecord (s.landingFor b) add) := by
  refine mapBank_congr s b ?_
  generalize s.lfc.banks[b] = r
  obtain ⟨order, landing, flashing, phaseII, reasons, timer, link, lampOn, lampNext⟩ := r
  cases order <;> rfl

/-- A record whose landing is tested again (R58). -/
def switchedRecord (sameFloor : Prop) [Decidable sameFloor] (landing : Landing) (r : BankRec) : BankRec :=
  if r.order ≠ .none ∧ r.landing = .designated ∧ sameFloor then { r with landing := landing } else r

theorem switchLanding_eq (b : BankId) (z : ZoneId) (s : State) : switchLanding b z s =
    s.mapBank b (switchedRecord (s.cfg.zones[z].floor = s.cfg.banks[b].designated) (s.landingFor b)) := by
  refine mapBank_congr s b ?_
  simp only [switchedRecord, Bool.and_eq_true, bne_iff_ne, beq_iff_eq, and_assoc]

/-- A record whose lamp is FLASHING from `now` on, or as it was when it flashed (R59). -/
def flashingRecord (now : Nat) (r : BankRec) : BankRec :=
  if r.flashing then r else { r with flashing := true, lampOn := true, lampNext := some (now + 500) }

theorem flashLamp_eq (b : BankId) (s : State) : flashLamp b s = s.mapBank b (flashingRecord s.now) := rfl

/-- A tripped record (R63). -/
def trippedRecord (r : BankRec) : BankRec := { r with order := .tripped, phaseII := false, timer := none }

theorem parkedTest_eq (b : BankId) (s : State) :
    parkedTest b s = s.mapBank b fun r => if s.bankParked b = true ∧ s.inAlarm = true then trippedRecord r else r := by
  rw [mapBank_ite]
  simp only [parkedTest, Bool.and_eq_true]
  rfl

/-- A record at a shaft sprinkler's alarm, before the parked test (R60). -/
def shutDownRecord (landing : Landing) (expiry : Nat) (r : BankRec) : BankRec :=
  { r with
    order := if r.order = .none ∨ r.order = .recall then .shutdown else r.order
    landing := if r.order = .none then landing else r.landing
    timer := if r.order = .none ∨ r.order = .recall then some expiry else r.timer
    reasons := { r.reasons with sprinkler := true } }

/-- A record at a shaft sprinkler's alarm (R60, R61). -/
def sprinkledRecord (parked : Prop) [Decidable parked] (landing : Landing) (expiry : Nat) (r : BankRec) : BankRec :=
  if (r.order = .none ∨ r.order = .recall) ∧ parked then trippedRecord (shutDownRecord landing expiry r)
  else shutDownRecord landing expiry r

theorem sprinklerAlarm_eq (b : BankId) (s : State) : sprinklerAlarm b s =
    s.mapBank b (sprinkledRecord (s.bankParked b = true ∧ s.inAlarm = true) (s.landingFor b)
      (s.now + s.cfg.tShutdown * 1000)) := by
  have hparked : ∀ f, parkedTest b (s.mapBank b f) =
      s.mapBank b fun r => if s.bankParked b = true ∧ s.inAlarm = true then trippedRecord (f r) else f r :=
    fun f => (parkedTest_eq b _).trans (mapBank_mapBank s b f _)
  unfold sprinklerAlarm
  dsimp only
  rw [hparked, hparked]
  cases h : s.lfc.banks[b].order
  all_goals
    refine mapBank_congr s b ?_
    simp only [sprinkledRecord, shutDownRecord, h, reduceCtorEq, or_true, true_or, or_self, true_and, false_and, if_true,
      if_false, State.after]

/-- What a newly alarmed zone makes, by its kind, of the record of a bank whose flag it carries (R53). -/
def alarmedRecord (z : ZoneId) (s : State) (b : BankId) (r : BankRec) : BankRec :=
  match s.cfg.zones[z].kind with
  | .lobbyDetector =>
    switchedRecord (s.cfg.zones[z].floor = s.cfg.banks[b].designated) (s.landingFor b)
      (recalledRecord (s.landingFor b) (fun q => { q with lobby := true }) r)
  | .shaftDetector => flashingRecord s.now (recalledRecord (s.landingFor b) (fun q => { q with shaft := true }) r)
  | .shaftSprinkler =>
    sprinkledRecord (s.bankParked b = true ∧ s.inAlarm = true) (s.landingFor b) (s.now + s.cfg.tShutdown * 1000) r
  | .detector | .callPoint | .flowSwitch => r

/-- What a newly alarmed zone makes of the record of a bank (R53). -/
def zoneAlarmRecord (z : ZoneId) (s : State) (b : BankId) (r : BankRec) : BankRec :=
  if s.cfg.banks[b].configured = true ∧ s.zoneFlag z b = true then alarmedRecord z s b r else r

theorem zoneAlarmAtBank_eq (z : ZoneId) (s : State) (b : BankId) :
    zoneAlarmAtBank z s b = s.mapBank b (zoneAlarmRecord z s b) := by
  unfold zoneAlarmRecord
  rw [mapBank_ite]
  simp only [zoneAlarmAtBank, Bool.and_eq_true]
  refine ite_congr rfl (fun _ => ?_) fun _ => rfl
  show _ = s.mapBank b fun r => alarmedRecord z s b r
  unfold alarmedRecord
  cases s.cfg.zones[z].kind with
  | lobbyDetector => dsimp only; rw [raiseRecall_eq, switchLanding_eq, mapBank_mapBank]; rfl
  | shaftDetector => dsimp only; rw [raiseRecall_eq, flashLamp_eq, mapBank_mapBank]; rfl
  | shaftSprinkler => exact sprinklerAlarm_eq b s
  | detector | callPoint | flowSwitch => exact (mapBank_id s b).symm

theorem zoneAlarmAtLfc_eq (z : ZoneId) (s : State) : ∃ v : Vector BankRec 2, zoneAlarmAtLfc z s = withBanks v s
    ∧ ∀ b : BankId, v[b] = zoneAlarmRecord z s b s.lfc.banks[b] :=
  foldl_banks (zoneAlarmRecord z s) fun v b => zoneAlarmAtBank_eq z (withBanks v s) b

/-- What the entry to ALARM makes of the record of a bank (R54). -/
def alarmEntryRecord (s : State) (b : BankId) (r : BankRec) : BankRec :=
  if s.cfg.banks[b].configured = true ∧ s.cfg.banks[b].recallOnGeneral = true then
    recalledRecord (s.landingFor b) (fun q => { q with general := true }) r
  else r

theorem alarmEntryAtLfc_eq (s : State) : ∃ v : Vector BankRec 2, alarmEntryAtLfc s = withBanks v s
    ∧ ∀ b : BankId, v[b] = alarmEntryRecord s b s.lfc.banks[b] := by
  refine foldl_banks (alarmEntryRecord s) fun v b => ?_
  unfold alarmEntryRecord
  rw [mapBank_ite]
  simp only [Bool.and_eq_true, raiseRecall_eq]
  rfl

theorem resetAtLfc_eq (s : State) : ∃ v : Vector BankRec 2, resetAtLfc s = withBanks v s
    ∧ ∀ b : BankId, v[b] = if s.cfg.banks[b].configured then resetBank s.lfc.banks[b] else s.lfc.banks[b] := by
  refine foldl_banks (fun b r => if s.cfg.banks[b].configured then resetBank r else r) fun v b => ?_
  rw [mapBank_ite]
  rfl

/-! ## Events of LFC -/

/-- An event that changes the Lift Coordinator alone. -/
theorem lfcEvent_leaves {f : State → State} {x s : State} {L : Lfc} (hx : x = { s with deliveries := x.deliveries })
    (hf : f x = x.withLfc L) :
    ∃ t, event .lfc f x = t ∧ t = { s with lfc := t.lfc, deliveries := t.deliveries } ∧ leaves .lfc x.deliveries [] s t
      ∧ t.lfc = L := by
  refine ⟨_, rfl, ?_, ?_, ?_⟩
  · rw [event_other (by decide), hf]
    rw [hx]
    rfl
  · refine leaves_event_other (by decide) ?_ ?_ ?_
    · rw [hx]; rfl
    · rw [hf, List.append_nil]; rfl
    · rw [hf, hx]; rfl
  · rw [event_lfc, hf]; rfl

/-- A delivery to LFC whose event changes the Lift Coordinator alone. -/
theorem lfcDelivery_leaves {e : Instr} {f : State → State} {s : State} {L : Lfc} (h : s.takes e = true)
    (hf : f (s.taken e) = (s.taken e).withLfc L) :
    ∃ t, onDelivery e (event .lfc f) s = t ∧ t = { s with lfc := t.lfc, deliveries := t.deliveries }
      ∧ leaves .lfc (without s e) [] s t ∧ t.lfc = L := by
  rw [onDelivery_takes h]
  exact lfcEvent_leaves (s := s) (x := s.taken e) rfl hf

/-- A delivery to LFC that replaces the Bank Order records. -/
theorem lfcDelivery_banks {e : Instr} {f : State → State} {s : State} {F : BankId → BankRec} (h : s.takes e = true)
    (hf : ∃ v : Vector BankRec 2, f (s.taken e) = withBanks v (s.taken e) ∧ ∀ b : BankId, v[b] = F b) :
    ∃ t, onDelivery e (event .lfc f) s = t ∧ t = { s with lfc := t.lfc, deliveries := t.deliveries }
      ∧ leaves .lfc (without s e) [] s t ∧ t.lfc.cars = s.lfc.cars ∧ ∀ b : BankId, t.lfc.banks[b] = F b := by
  obtain ⟨v, hv, hF⟩ := hf
  obtain ⟨t, ht, hframe, hleaves, hlfc⟩ := lfcDelivery_leaves h hv
  refine ⟨t, ht, hframe, hleaves, ?_, fun b => ?_⟩
  · rw [hlfc]; rfl
  · rw [hlfc]; exact hF b

end Sys2Proof.Machine
end

section
/-! PROOF. Zone alarms and the entry to ALARM at the Lift Coordinator (R52 to R61). -/

namespace Sys2Proof.Machine

/-! ## The records of a zone alarm by the zone's kind -/

section
variable {landing : Landing} {r : BankRec} {add : Reasons → Reasons}

/-- The landing after a recall and, for an alarm on the designated landing, the test repeated (R57, R58). -/
theorem switchedRecord_recalledRecord {sameFloor : Prop} [Decidable sameFloor] :
    switchedRecord sameFloor landing (recalledRecord landing add r) =
      { recalledRecord landing add r with
        landing := if r.order = .none ∨ (r.landing = .designated ∧ sameFloor) then landing else r.landing } := by
  obtain ⟨order, l, flashing, phaseII, reasons, timer, link, lampOn, lampNext⟩ := r
  by_cases h : order = .none
  · simp [switchedRecord, recalledRecord, h]
  · by_cases hl : l = .designated ∧ sameFloor <;> simp [switchedRecord, recalledRecord, h, hl]

/-- The lamp of a recalled bank: a new flash, or the cycle that runs (R59). -/
theorem flashingRecord_eq {now : Nat} : flashingRecord now r =
    { r with
      flashing := true
      lampOn := if r.flashing then r.lampOn else true
      lampNext := if r.flashing then r.lampNext else some (now + 500) } := by
  obtain ⟨order, l, flashing, phaseII, reasons, timer, link, lampOn, lampNext⟩ := r
  cases flashing <;> rfl

/-- What a sprinkler's alarm does to a record whether or not the bank is parked (R60). -/
theorem sprinkledRecord_fields (parked : Prop) [Decidable parked] (landing : Landing) (expiry : Nat) (r : BankRec) :
    (sprinkledRecord parked landing expiry r).reasons = { r.reasons with sprinkler := true }
    ∧ (sprinkledRecord parked landing expiry r).flashing = r.flashing
    ∧ (sprinkledRecord parked landing expiry r).link = r.link
    ∧ (sprinkledRecord parked landing expiry r).landing = if r.order = .none then landing else r.landing := by
  unfold sprinkledRecord
  split <;> exact ⟨rfl, rfl, rfl, rfl⟩

/-- A bank in SHUTDOWN or tripped keeps its order (R60). -/
theorem sprinkledRecord_stays {parked : Prop} [Decidable parked] {expiry : Nat}
    (h : r.order = .shutdown ∨ r.order = .tripped) :
    sprinkledRecord parked landing expiry r = { r with reasons := { r.reasons with sprinkler := true } } := by
  obtain ⟨order, l, flashing, phaseII, reasons, timer, link, lampOn, lampNext⟩ := r
  obtain rfl | rfl : order = .shutdown ∨ order = .tripped := h <;> rfl

/-- A bank below SHUTDOWN trips when it is parked in ALARM, else it is shut down with a new timer (R60, R61). -/
theorem sprinkledRecord_shuts {parked : Prop} [Decidable parked] {expiry : Nat}
    (h : r.order = .none ∨ r.order = .recall) :
    sprinkledRecord parked landing expiry r =
      if parked then trippedRecord (shutDownRecord landing expiry r) else shutDownRecord landing expiry r := by
  simp only [sprinkledRecord, h, true_and]

end

section
variable {z : ZoneId} {s : State} {b : BankId} {r : BankRec}

theorem alarmedRecord_lobby (hk : s.cfg.zones[z].kind = .lobbyDetector) : alarmedRecord z s b r =
    { recalledRecord (s.landingFor b) (fun q => { q with lobby := true }) r with
      landing :=
        if r.order = .none ∨ (r.landing = .designated ∧ s.cfg.zones[z].floor = s.cfg.banks[b].designated) then
          s.landingFor b
        else r.landing } := by
  simp only [alarmedRecord, hk, switchedRecord_recalledRecord]

theorem alarmedRecord_shaft (hk : s.cfg.zones[z].kind = .shaftDetector) : alarmedRecord z s b r =
    { recalledRecord (s.landingFor b) (fun q => { q with shaft := true }) r with
      flashing := true
      lampOn := if r.flashing then r.lampOn else true
      lampNext := if r.flashing then r.lampNext else some (s.now + 500) } := by
  simp only [alarmedRecord, hk, flashingRecord_eq]
  rfl

theorem alarmedRecord_sprinkler (hk : s.cfg.zones[z].kind = .shaftSprinkler) : alarmedRecord z s b r =
    sprinkledRecord (s.bankParked b = true ∧ s.inAlarm = true) (s.landingFor b) (s.now + s.cfg.tShutdown * 1000) r := by
  simp only [alarmedRecord, hk]

theorem alarmedRecord_other (hk : s.cfg.zones[z].kind = .detector ∨ s.cfg.zones[z].kind = .callPoint
    ∨ s.cfg.zones[z].kind = .flowSwitch) : alarmedRecord z s b r = r := by
  obtain hk | hk | hk := hk <;> simp only [alarmedRecord, hk]

end

/-- Settles O26: the event changes each bank by the record function of the zone's kind. -/
theorem zoneAlarmActsOnFlaggedBanks : Obligations.ZoneAlarmActsOnFlaggedBanks := by
  intro z s h
  obtain ⟨t, ht, hframe, hleaves, hcars, hbanks⟩ := lfcDelivery_banks h (zoneAlarmAtLfc_eq z (s.taken (.lfcZoneAlarm z)))
  refine ⟨t, congrArg _ ht, hframe, hleaves, hcars, fun b => ?_⟩
  have hq : t.lfc.banks[b] = zoneAlarmRecord z s b s.lfc.banks[b] := hbanks b
  have htested := landingFor_alternate_iff s b
  simp only [lobbyTest_iff] at htested
  dsimp only
  rw [← zoneFlag_eq, ← bankParked_iff, hq, zoneAlarmRecord]
  generalize s.lfc.banks[b] = r
  refine ⟨fun hn => if_neg hn, fun hf hk => ?_, fun hf hk => ?_, fun hf hk => ?_, fun hk => ?_⟩
  · rw [if_pos hf, alarmedRecord_lobby hk]
    refine ⟨⟨rfl, rfl, rfl, rfl⟩, rfl, rfl, fun hl => ?_, fun ho hl => if_neg ?_⟩
    · dsimp only; rw [if_pos hl]; exact htested
    · rintro (h1 | ⟨h1, h2⟩)
      · exact ho h1
      · exact hl.elim (by simp [h1]) fun k => k h2
  · rw [if_pos hf, alarmedRecord_shaft hk]
    refine ⟨⟨rfl, rfl, rfl, rfl⟩, rfl, fun ho => ?_, fun ho => if_neg ho, rfl, fun hr => ?_, fun hr => ?_⟩
    · dsimp only [recalledRecord]; rw [if_pos ho]; exact htested
    · exact ⟨if_pos hr, if_pos hr⟩
    · exact ⟨if_neg (by simp [hr]), if_neg (by simp [hr])⟩
  · rw [if_pos hf, alarmedRecord_sprinkler hk]
    obtain ⟨hreasons, hflashing, hlink, hlanding⟩ := sprinkledRecord_fields (s.bankParked b = true ∧ s.inAlarm = true)
      (s.landingFor b) (s.now + s.cfg.tShutdown * 1000) r
    refine ⟨hreasons, hflashing, hlink, fun ho => ?_, fun ho => hlanding.trans (if_neg ho), fun ho => ?_,
      fun ho => ⟨fun hp => ?_, fun hp => ?_⟩⟩
    · rw [hlanding, if_pos ho]; exact htested
    · rw [sprinkledRecord_stays ho]; exact ⟨rfl, rfl, rfl⟩
    · rw [sprinkledRecord_shuts ho, if_pos hp]; exact ⟨rfl, rfl, rfl⟩
    · rw [sprinkledRecord_shuts ho, if_neg hp]; exact ⟨if_pos ho, if_pos ho, rfl⟩
  · rw [alarmedRecord_other hk, ite_self]

/-- Settles O27: a bank with recall on general alarm is recalled, another keeps its record. -/
theorem alarmEntryRecallsGeneralBanks : Obligations.AlarmEntryRecallsGeneralBanks := by
  intro s h
  obtain ⟨t, ht, hframe, hleaves, hcars, hbanks⟩ := lfcDelivery_banks h (alarmEntryAtLfc_eq (s.taken .lfcAlarmEntry))
  exact ⟨t, congrArg _ ht, hframe, hleaves, hcars, fun b =>
    ⟨fun hb => (hbanks b).trans (if_neg hb), fun hc hg => (hbanks b).trans (if_pos ⟨hc, hg⟩)⟩⟩

end Sys2Proof.Machine
end

section
/-! PROOF. Resets, links, timers and lamps of the banks (R51, R59, R62, R63, R66). -/

namespace Sys2Proof.Machine

/-! ## The accepted REGIME RESET (R66) -/

theorem resetBank_eq (r : BankRec) : resetBank r =
    { order := if r.phaseII then .recall else .none
      landing := if r.phaseII then r.landing else .designated
      flashing := false
      phaseII := r.phaseII
      reasons := ⟨false, false, false, false, false⟩
      timer := none
      link := r.link
      lampOn := false
      lampNext := none } := by
  obtain ⟨order, landing, flashing, phaseII, reasons, timer, link, lampOn, lampNext⟩ := r
  cases phaseII <;> rfl

/-! ## The bank link (R51) -/

section
variable {p : PortId} {b : BankId} {s : State}

theorem portBank_eq (hr : s.role p = .liftGroup) (hb : s.cfg.ports[p].bank = some b)
    (hc : s.cfg.banks[b].configured = true) : s.portBank p = some b := by
  unfold State.portBank
  rw [hr, hb]
  exact if_pos hc

/-- Presence at the bank that a port names: the link status, and every car stale at LOST (R51). -/
theorem presenceAtLfc_eq (h : s.portBank p = some b) (q : Presence) : presenceAtLfc p q s = s.withLfc
    { cars := if q = .lost then
        tab fun c => if c ∈ s.slotsOf b then { s.lfc.cars[c] with stale := true } else s.lfc.cars[c]
      else s.lfc.cars
      banks := s.lfc.banks.set b.val { s.lfc.banks[b] with link := q } b.isLt } := by
  unfold presenceAtLfc
  rw [h]
  simp only [beq_iff_eq, List.contains_iff_mem]
  split <;> rfl

end

/-! ## Timers (R59, R62, R63) -/

theorem shutdownExpires_eq (b : BankId) (s : State) : shutdownExpires b s =
    s.mapBank b fun r => if s.inAlarm then trippedRecord r else { r with timer := none } := by
  unfold shutdownExpires
  split
  · exact mapBank_congr s b (by simp only [trippedRecord, *])
  · exact mapBank_congr s b (by simp only [*])

theorem due_some {s : State} {i : Nat} : s.due (some i) = true ↔ i ≤ s.now := by
  simp only [State.due, Option.any_some, decide_eq_true_eq]

/-- Settles O28: each event by what it makes of the Bank Order records and the cars. -/
theorem banksFollowTimersLinksAndResets : Obligations.BanksFollowTimersLinksAndResets := by
  refine ⟨fun s h => ?_, fun p q b s h hr hb hc => ?_, fun b s => ⟨fun h => ?_, fun i hi hn => ?_⟩⟩
  · obtain ⟨t, ht, hframe, hleaves, hcars, hbanks⟩ := lfcDelivery_banks h (resetAtLfc_eq (s.taken .lfcRegimeReset))
    exact ⟨t, congrArg _ ht, hframe, hleaves, hcars, fun b => ⟨fun hb => (hbanks b).trans (if_neg (ne_true_of_eq_false hb)),
      fun hb => (hbanks b).trans ((if_pos hb).trans (resetBank_eq _))⟩⟩
  · obtain ⟨t, ht, hframe, hleaves, hlfc⟩ :=
      lfcDelivery_leaves h (presenceAtLfc_eq (s := s.taken (.lfcPresenceChange p q)) (portBank_eq hr hb hc) q)
    refine ⟨t, congrArg _ ht, hframe, hleaves, ?_, fun a ha => ?_, fun c => ?_⟩
    · rw [hlfc]; exact set_fin_same _ _ _
    · rw [hlfc]; exact set_fin_other _ _ ha
    · rw [hlfc]
      by_cases hq : q = .lost
      · have hslot := slotsOf_iff hc c
        rw [if_pos hq]
        refine (tab_fin _ c).trans ?_
        simp only [hq, true_and, ← hslot]
        rfl
      · rw [if_neg hq, if_neg fun k => hq k.1]
        rfl
  · obtain ⟨t, ht, hframe, hleaves, hlfc⟩ := lfcEvent_leaves (s := s) (x := s) rfl (shutdownExpires_eq b s)
    refine ⟨t, congrArg _ ((if_pos h).trans ht), hframe, hleaves, ?_, fun a ha => ?_, ?_⟩
    · rw [hlfc]
    · rw [hlfc]; exact set_fin_other _ _ ha
    · rw [hlfc]; exact set_fin_same _ _ _
  · refine ⟨lampToggles b s, congrArg _ (if_pos ?_), rfl, rfl, fun a ha => mapBank_other s b _ ha, ?_⟩
    · rw [hi]; exact due_some.2 hn
    · refine (mapBank_same s b _).trans ?_
      rw [hi]
      rfl

end Sys2Proof.Machine
end

section
/-! PROOF. The lift commands of the COMMAND STATION (R55, R56, R64, R65). -/

namespace Sys2Proof.Machine

/-! ## A request that LFC decides -/

/-- The event of LFC that serves a request whose steps leave `y` (R161). -/
theorem lfc_request_ends {p : PortId} {s y : State} {a : Answer} {f : State → State} (h : s.configFault = false)
    (hf : f (abandon p s) = prepare p a (s.instantAt 0) y) (hy : lfcOnly (asked p s) y) :
    ∃ t, event .lfc f (abandon p s) = t ∧ lfcServed p s t ∧ answers p a s t ∧ leaves .lfc y.deliveries [] s t
      ∧ t.lfc = y.lfc := by
  have hasked := asked_eq (p := p) h
  have hlinks : (prepare p a (s.instantAt 0) y).links = (prepare p a (s.instantAt 0) (asked p s)).links := by
    rw [hy]
    rfl
  refine ⟨_, rfl, ?_, answers_of h ?_, leaves_event_other (by decide) readable_abandon ?_ ?_, ?_⟩
  · unfold lfcServed
    rw [event_other (by decide), hf]
    rw [lfcOnly] at hy
    generalize asked p s = u at hasked hy
    rw [hy, hasked]
    rfl
  · rw [event_links, hf, hlinks]
  · rw [hf, List.append_nil]; rfl
  · rw [hf, hy]
    exact congrArg Rge.changeCounter (asked_rge h)
  · rw [event_lfc, hf]; rfl

/-! ## The named bank -/

section
variable {s t : State} {b : BankId} {k : Nat}

theorem bankNamed_eq_some : s.bankNamed k = some b ↔ b.val = k ∧ s.cfg.banks[b].configured = true := by
  unfold State.bankNamed
  cases hk : toIndex 2 k with
  | none =>
    refine iff_of_false (by simp) fun h => ?_
    have := toIndex_eq_none.1 hk
    omega
  | some a =>
    obtain rfl := toIndex_eq_some.1 hk
    by_cases ha : s.cfg.banks[a].configured = true
    · dsimp only
      rw [if_pos ha, Option.some_inj]
      exact ⟨by rintro rfl; exact ⟨rfl, ha⟩, fun h => (Fin.ext h.1).symm⟩
    · dsimp only
      rw [if_neg ha]
      exact iff_of_false (by simp) fun h => ha (Fin.ext h.1 ▸ h.2)

theorem bankNamed_congr (h : t.cfg = s.cfg) (k : Nat) : t.bankNamed k = s.bankNamed k := by
  unfold State.bankNamed
  rw [h]

theorem landingFor_congr (hc : t.cfg = s.cfg) (hr : t.rge = s.rge) (b : BankId) : t.landingFor b = s.landingFor b := by
  unfold State.landingFor State.lobbyTest State.zoneFlag
  rw [hc, hr]

theorem setBank_self (s : State) (b : BankId) : s.setBank b s.lfc.banks[b] = s := mapBank_id s b

end

/-! ## The four commands as decisions on the record of the bank they name -/

/-- A command on a bank: RANGE when none is named, else the record and the reason that `decision` gives. -/
def decidedAtBank (decision : BankId → BankRec → BankRec × Reason) (n : Byte) (s : State) : State × Reason :=
  match s.bankNamed n.toNat with
  | none => (s, .range)
  | some b => (s.setBank b (decision b s.lfc.banks[b]).1, (decision b s.lfc.banks[b]).2)

/-- RECALL BANK is accepted (R55). -/
def recallDecision (s : State) (b : BankId) (r : BankRec) : BankRec × Reason :=
  (recalledRecord (s.landingFor b) (fun q => { q with manual := true }) r, .accepted)

/-- CANCEL RECALL ends a recall whose only reason is MANUAL, without phase II (R56). -/
def cancelDecision (r : BankRec) : BankRec × Reason :=
  if r.order = .recall ∧ r.reasons = ⟨false, false, false, false, true⟩ ∧ r.phaseII = false then
    ({ r with order := .none, landing := .designated, reasons := noReasons }, .accepted)
  else (r, .state)

/-- AUTHORISE PHASE II needs an order that is not TRIPPED (R64). -/
def authoriseDecision (r : BankRec) : BankRec × Reason :=
  if r.order = .none ∨ r.order = .tripped then (r, .state) else ({ r with phaseII := true }, .accepted)

/-- WITHDRAW PHASE II also ends a recall that has no reason left (R65). -/
def withdrawDecision (r : BankRec) : BankRec × Reason :=
  if r.phaseII = false then (r, .state)
  else
    (if r.order = .recall ∧ r.reasons = noReasons then
      { r with phaseII := false, order := .none, landing := .designated }
    else { r with phaseII := false }, .accepted)

section
variable (n : Byte) (s : State)

theorem cmdRecallBank_eq : cmdRecallBank n s = decidedAtBank (recallDecision s) n s := by
  unfold cmdRecallBank decidedAtBank
  cases s.bankNamed n.toNat with
  | none => rfl
  | some b => exact congrArg (·, Reason.accepted) (raiseRecall_eq b _ s)

theorem cmdCancelRecall_eq : cmdCancelRecall n s = decidedAtBank (fun _ => cancelDecision) n s := by
  unfold cmdCancelRecall decidedAtBank
  cases s.bankNamed n.toNat with
  | none => rfl
  | some b =>
    simp only [cancelDecision, Bool.and_eq_true, beq_iff_eq, Bool.not_eq_true', and_assoc]
    by_cases h : s.lfc.banks[b].order = .recall ∧ s.lfc.banks[b].reasons = ⟨false, false, false, false, true⟩
        ∧ s.lfc.banks[b].phaseII = false
    · rw [if_pos h]
      exact if_pos h
    · rw [if_neg h, setBank_self]
      exact if_neg h

theorem cmdAuthorisePhaseII_eq : cmdAuthorisePhaseII n s = decidedAtBank (fun _ => authoriseDecision) n s := by
  unfold cmdAuthorisePhaseII decidedAtBank
  cases s.bankNamed n.toNat with
  | none => rfl
  | some b =>
    cases h : s.lfc.banks[b].order with
    | none | tripped => simp only [authoriseDecision, h, or_true, true_or, if_true, setBank_self]
    | _ => simp only [authoriseDecision, h, reduceCtorEq, or_self, if_false, State.mapBank]

theorem cmdWithdrawPhaseII_eq : cmdWithdrawPhaseII n s = decidedAtBank (fun _ => withdrawDecision) n s := by
  unfold cmdWithdrawPhaseII decidedAtBank
  cases s.bankNamed n.toNat with
  | none => rfl
  | some b =>
    simp only [withdrawDecision, Bool.not_eq_true', Bool.and_eq_true, beq_iff_eq]
    by_cases h : s.lfc.banks[b].phaseII = false
    · rw [if_pos h, if_pos h, setBank_self]
    · rw [if_neg h, if_neg h]
      rfl

end

/-! ## A lift command as an event of LFC -/

/-- The codes of the lift commands. -/
def liftCommand (code : Byte) : Prop := code = 14 ∨ code = 15 ∨ code = 16 ∨ code = 17

section
variable {p : PortId} {n code : Byte} {s : State} {i : Instr}

theorem exec_liftCommand (hi : frameOf i = some (p, 3, [code, n])) (h : canAsk p .lfc s)
    (hr : s.role p = .commandStation) (hc : liftCommand code) : exec i s = .next (event .lfc (fun x =>
      prepare p (commandAnswer code (serveCommand p code [n] (presenceOnFrame p x)).2) (s.instantAt 0)
        (serveCommand p code [n] (presenceOnFrame p x)).1) (abandon p s)) := by
  have hcheck : s.requestCheck p 3 [code, n] = none := by
    unfold State.requestCheck
    rw [h.2.1, hr]
    rcases hc with rfl | rfl | rfl | rfl <;> rfl
  have hhome : serveHome p 3 [code, n] s = .lfc := by
    rw [serveHome, hcheck]
    show commandHome p code s = .lfc
    unfold commandHome
    rw [hr]
    rcases hc with rfl | rfl | rfl | rfl <;> rfl
  exact request_served hi h (by simp) hcheck hhome (.inr (by rw [hr]; decide))

theorem serveCommand_lift (hr : s.role p = .commandStation) (hc : liftCommand code) :
    serveCommand p code [n] s = decideCommand p code.toNat [n] s := by
  unfold serveCommand
  rw [hr]
  rcases hc with rfl | rfl | rfl | rfl <;> rfl

/-- A command is answered with the reason of a decision, and the bank's record is the one it gives. -/
def decisionTaken (p : PortId) (code : Byte) (b : BankId) (s t : State) (d : BankRec × Reason) : Prop :=
  answers p ⟨0x83, [code, d.2.code]⟩ s t ∧ t.lfc.banks[b] = d.1

/-- What a lift command does that is a decision on the record of the bank it names. -/
theorem liftCommand_decided {D : BankId → BankRec → BankRec × Reason} (hi : frameOf i = some (p, 3, [code, n]))
    (h : canAsk p .lfc s) (hr : s.role p = .commandStation) (hc : liftCommand code)
    (hcmd : decideCommand p code.toNat [n] (asked p s) = decidedAtBank D n (asked p s)) :
    ∃ t, exec i s = .next t ∧ lfcServed p s t ∧ leaves .lfc (withFrame p s) [] s t ∧ t.lfc.cars = s.lfc.cars
      ∧ (∀ b : BankId, b.val ≠ n.toNat → t.lfc.banks[b] = s.lfc.banks[b])
      ∧ ((∀ b : BankId, b.val = n.toNat → s.cfg.banks[b].configured = false) →
          answers p ⟨0x83, [code, 5]⟩ s t ∧ t.lfc = s.lfc)
      ∧ ∀ b : BankId, b.val = n.toNat → s.cfg.banks[b].configured = true →
          decisionTaken p code b s t (D b s.lfc.banks[b]) := by
  have hcfg := asked_cfg (p := p) h.2.1
  have hlfc := asked_lfc (p := p) h.2.1
  have hserve := (serveCommand_lift (n := n) (by rw [State.role, hcfg]; exact hr) hc).trans hcmd
  have hframe : lfcOnly (asked p s) (decidedAtBank D n (asked p s)).1 ∧
      (decidedAtBank D n (asked p s)).1.deliveries = withFrame p s := by
    unfold decidedAtBank
    split <;> exact ⟨rfl, asked_deliveries h.2.1⟩
  obtain ⟨t, ht, hserved, hanswers, hleaves, htl⟩ := lfc_request_ends (p := p) h.2.1
    (f := fun x => prepare p (commandAnswer code (serveCommand p code [n] (presenceOnFrame p x)).2) (s.instantAt 0)
      (serveCommand p code [n] (presenceOnFrame p x)).1) (by
        show prepare p (commandAnswer code (serveCommand p code [n] (asked p s)).2) (s.instantAt 0)
          (serveCommand p code [n] (asked p s)).1 = _
        rw [hserve]) hframe.1
  rw [hframe.2] at hleaves
  refine ⟨t, (exec_liftCommand hi h hr hc).trans (congrArg _ ht), hserved, hleaves, ?_⟩
  unfold decidedAtBank at hanswers htl
  rw [bankNamed_congr hcfg, hlfc] at hanswers htl
  cases hb : s.bankNamed n.toNat with
  | none =>
    rw [hb] at hanswers htl
    have hsame : t.lfc = s.lfc := htl.trans hlfc
    refine ⟨by rw [hsame], fun b _ => by rw [hsame], fun _ => ⟨hanswers, hsame⟩, fun b hn hcb => ?_⟩
    rw [bankNamed_eq_some.2 ⟨hn, hcb⟩] at hb
    cases hb
  | some a =>
    rw [hb] at hanswers htl
    obtain ⟨ha, hca⟩ := bankNamed_eq_some.1 hb
    have hset : t.lfc = { s.lfc with banks := s.lfc.banks.set a.val (D a s.lfc.banks[a]).1 a.isLt } := by
      rw [htl, ← hlfc]; rfl
    refine ⟨by rw [hset], fun b hn => ?_, fun hnone => ?_, fun b hn _ => ?_⟩
    · rw [hset]
      exact set_fin_other _ _ fun k => hn (k ▸ ha)
    · exact absurd hca (ne_true_of_eq_false (hnone a ha))
    · obtain rfl : b = a := Fin.ext (hn.trans ha.symm)
      refine ⟨hanswers, ?_⟩
      rw [hset]
      exact set_fin_same _ _ _

end

/-- Settles O30: each command is its decision on the record of the bank it names. -/
theorem liftCommandsActOnTheNamedBank : Obligations.LiftCommandsActOnTheNamedBank := by
  intro p n s h hr c hc
  obtain rfl | rfl | rfl | rfl := hc
  · have hdecision : recallDecision (asked p s) = recallDecision s := by
      funext b r
      unfold recallDecision
      rw [landingFor_congr (asked_cfg h.2.1) (asked_rge h.2.1)]
    obtain ⟨t, ht, hserved, hleaves, hcars, hother, hrange, hnamed⟩ :=
      liftCommand_decided (i := .recallBank p [n]) rfl h hr (.inl rfl) (cmdRecallBank_eq n (asked p s))
    rw [hdecision] at hnamed
    exact ⟨t, ht, hserved, hleaves, hcars, hother, hrange, fun b hb hcb =>
      ⟨fun _ => hnamed b hb hcb, nofun, nofun, nofun⟩⟩
  · obtain ⟨t, ht, hserved, hleaves, hcars, hother, hrange, hnamed⟩ :=
      liftCommand_decided (i := .cancelRecall p [n]) rfl h hr (.inr (.inl rfl)) (cmdCancelRecall_eq n (asked p s))
    exact ⟨t, ht, hserved, hleaves, hcars, hother, hrange, fun b hb hcb =>
      ⟨nofun, fun _ => (apply_ite (decisionTaken p 15 b s t) _ _ _).mp (hnamed b hb hcb), nofun, nofun⟩⟩
  · obtain ⟨t, ht, hserved, hleaves, hcars, hother, hrange, hnamed⟩ :=
      liftCommand_decided (i := .authorisePhaseII p [n]) rfl h hr (.inr (.inr (.inl rfl)))
        (cmdAuthorisePhaseII_eq n (asked p s))
    exact ⟨t, ht, hserved, hleaves, hcars, hother, hrange, fun b hb hcb =>
      ⟨nofun, nofun, fun _ => (apply_ite (decisionTaken p 16 b s t) _ _ _).mp (hnamed b hb hcb), nofun⟩⟩
  · obtain ⟨t, ht, hserved, hleaves, hcars, hother, hrange, hnamed⟩ :=
      liftCommand_decided (i := .withdrawPhaseII p [n]) rfl h hr (.inr (.inr (.inr rfl)))
        (cmdWithdrawPhaseII_eq n (asked p s))
    exact ⟨t, ht, hserved, hleaves, hcars, hother, hrange, fun b hb hcb =>
      ⟨nofun, nofun, nofun, fun _ => (apply_ite (decisionTaken p 17 b s t) _ _ _).mp (hnamed b hb hcb)⟩⟩

end Sys2Proof.Machine
end

section
/-! PROOF. CAR REPORT (R49 to R51, R61). -/

namespace Sys2Proof.Machine

/-! ## The codes of an entry (10.8) -/

theorem motionOf_eq {c : Byte} (h : c.toNat ≤ 2) : ∃ m, motionOf c = some m ∧ byteOf (motionCode m) = c := by
  obtain rfl | rfl | rfl : c = 0 ∨ c = 1 ∨ c = 2 := by bv_omega
  · exact ⟨.up, rfl, rfl⟩
  · exact ⟨.down, rfl, rfl⟩
  · exact ⟨.stopped, rfl, rfl⟩

theorem carDoorsOf_eq {c : Byte} (h : c.toNat ≤ 2) : ∃ d, carDoorsOf c = some d ∧ byteOf (carDoorsCode d) = c := by
  obtain rfl | rfl | rfl : c = 0 ∨ c = 1 ∨ c = 2 := by bv_omega
  · exact ⟨.openDoors, rfl, rfl⟩
  · exact ⟨.closed, rfl, rfl⟩
  · exact ⟨.moving, rfl, rfl⟩

theorem carModeOf_eq {c : Byte} (h : c.toNat ≤ 5) : ∃ m, carModeOf c = some m ∧ byteOf (carModeCode m) = c := by
  obtain rfl | rfl | rfl | rfl | rfl | rfl : c = 0 ∨ c = 1 ∨ c = 2 ∨ c = 3 ∨ c = 4 ∨ c = 5 := by bv_omega
  · exact ⟨.normal, rfl, rfl⟩
  · exact ⟨.independent, rfl, rfl⟩
  · exact ⟨.outOfService, rfl, rfl⟩
  · exact ⟨.recalling, rfl, rfl⟩
  · exact ⟨.atRecallLanding, rfl, rfl⟩
  · exact ⟨.phaseII, rfl, rfl⟩

theorem motionOf_some {c : Byte} {x : Motion} (h : motionOf c = some x) : c.toNat ≤ 2 := by
  unfold motionOf at h
  split at h <;> simp_all

theorem carDoorsOf_some {c : Byte} {x : CarDoors} (h : carDoorsOf c = some x) : c.toNat ≤ 2 := by
  unfold carDoorsOf at h
  split at h <;> simp_all

theorem carModeOf_some {c : Byte} {x : CarMode} (h : carModeOf c = some x) : c.toNat ≤ 5 := by
  unfold carModeOf at h
  split at h <;> simp_all

/-! ## One entry (R49) -/

/-- The car number and the codes of an entry are in range. -/
def entryStands (k : BankCfg) (e : CarEntry) : Prop :=
  e.car < k.cars ∧ e.motion.toNat ≤ 2 ∧ e.doors.toNat ≤ 2 ∧ e.mode.toNat ≤ 5

/-- What an entry that stands makes of the car it names. -/
def carRewritten (k : BankCfg) (e : CarEntry) : CarRec :=
  carFrom k e ((motionOf e.motion).getD .stopped) ((carDoorsOf e.doors).getD .closed) ((carModeOf e.mode).getD .normal)

/-- The fields of a rewritten car: fresh, its position held within the served range, its codes those of the entry. -/
theorem carRewritten_fields {k : BankCfg} {e : CarEntry} (hk : k.lowest ≤ k.highest) (he : entryStands k e) :
    (carRewritten k e).stale = false ∧ (carRewritten k e).position = max k.lowest (min k.highest e.position)
    ∧ byteOf (motionCode (carRewritten k e).motion) = e.motion
    ∧ byteOf (carDoorsCode (carRewritten k e).doors) = e.doors
    ∧ byteOf (carModeCode (carRewritten k e).mode) = e.mode := by
  obtain ⟨-, hmotion, hdoors, hmode⟩ := he
  obtain ⟨m, hm, hmc⟩ := motionOf_eq hmotion
  obtain ⟨d, hd, hdc⟩ := carDoorsOf_eq hdoors
  obtain ⟨o, ho, hoc⟩ := carModeOf_eq hmode
  unfold carRewritten
  rw [hm, hd, ho]
  refine ⟨rfl, ?_, hmc, hdc, hoc⟩
  show (if e.position < k.lowest then k.lowest else if k.highest < e.position then k.highest else e.position) = _
  split
  · omega
  · split <;> omega

section
variable {s : State} {b : BankId} {e : CarEntry}

theorem carEntryTaken_stands {c : CarId} (hcars : s.cfg.banks[b].cars ≤ 6) (he : entryStands s.cfg.banks[b] e)
    (hc : c.val = 6 * b.val + e.car) : carEntryTaken b s e =
      s.withLfc { s.lfc with cars := s.lfc.cars.set c.val (carRewritten s.cfg.banks[b] e) c.isLt } := by
  obtain ⟨hcar, hmotion, hdoors, hmode⟩ := he
  obtain ⟨m, hm, -⟩ := motionOf_eq hmotion
  obtain ⟨d, hd, -⟩ := carDoorsOf_eq hdoors
  obtain ⟨o, ho, -⟩ := carModeOf_eq hmode
  have hslot : carSlot b e.car = some c := by
    rw [carSlot, if_pos (by omega), ← hc, toIndex_val]
  unfold carEntryTaken carRewritten
  rw [hslot, hm, hd, ho]
  exact if_pos hcar

theorem carEntryTaken_ignored (he : ¬ entryStands s.cfg.banks[b] e) : carEntryTaken b s e = s := by
  unfold carEntryTaken
  split
  · rename_i hm hd ho
    exact if_neg fun hcar => he ⟨hcar, motionOf_some hm, carDoorsOf_some hd, carModeOf_some ho⟩
  · rfl

/-- An entry names a car and stands. -/
def entryNames (k : BankCfg) (b : BankId) (c : CarId) (e : CarEntry) : Bool :=
  decide (c.val = 6 * b.val + e.car ∧ e.car < k.cars ∧ e.motion.toNat ≤ 2 ∧ e.doors.toNat ≤ 2 ∧ e.mode.toNat ≤ 5)

theorem entryNames_iff {k : BankCfg} {c : CarId} :
    entryNames k b c e = true ↔ c.val = 6 * b.val + e.car ∧ entryStands k e := decide_eq_true_iff

/-- An entry changes the car that it names, if it stands, and nothing else. -/
theorem carEntryTaken_eq (e : CarEntry) (hcars : s.cfg.banks[b].cars ≤ 6) : ∃ v : Vector CarRec 12,
    carEntryTaken b s e = s.withLfc { s.lfc with cars := v }
    ∧ ∀ c : CarId, v[c] =
        if entryNames s.cfg.banks[b] b c e then carRewritten s.cfg.banks[b] e else s.lfc.cars[c] := by
  by_cases he : entryStands s.cfg.banks[b] e
  · obtain ⟨a, ha⟩ : ∃ a : CarId, a.val = 6 * b.val + e.car :=
      ⟨⟨6 * b.val + e.car, by have := he.1; omega⟩, rfl⟩
    refine ⟨_, carEntryTaken_stands hcars he ha, fun c => (set_fin _ _ _ _).trans (if_congr ?_ rfl rfl)⟩
    rw [entryNames_iff, Fin.ext_iff, ha]
    exact (and_iff_left he).symm
  · exact ⟨s.lfc.cars, carEntryTaken_ignored he, fun c => (if_neg fun h => he (entryNames_iff.1 h).2).symm⟩

end

/-! ## The entries in order (R49) -/

/-- The car that the last of some entries leaves. -/
def lastRewritten (k : BankCfg) (r : CarRec) (es : List CarEntry) : CarRec :=
  match es.getLast? with
  | none => r
  | some e => carRewritten k e

theorem lastRewritten_cons (k : BankCfg) (r : CarRec) (e : CarEntry) (es : List CarEntry) :
    lastRewritten k r (e :: es) = lastRewritten k (carRewritten k e) es := by
  unfold lastRewritten
  rw [List.getLast?_cons]
  cases es.getLast? <;> rfl

/-- Each car keeps what the last entry that names it and stands makes of it; nothing but the cars changes. -/
theorem carEntries_eq (b : BankId) (es : List CarEntry) (s : State) (hcars : s.cfg.banks[b].cars ≤ 6) :
    ∃ v : Vector CarRec 12, es.foldl (carEntryTaken b) s = s.withLfc { s.lfc with cars := v }
      ∧ ∀ c : CarId, v[c] =
          lastRewritten s.cfg.banks[b] s.lfc.cars[c] (es.filter (entryNames s.cfg.banks[b] b c)) := by
  induction es generalizing s with
  | nil => exact ⟨s.lfc.cars, rfl, fun _ => rfl⟩
  | cons e es ih =>
    obtain ⟨v, hv, hcar⟩ := carEntryTaken_eq e hcars
    obtain ⟨w, hw, hlast⟩ := ih (s.withLfc { s.lfc with cars := v }) hcars
    refine ⟨w, by rw [List.foldl_cons, hv]; exact hw, fun c => (hlast c).trans ?_⟩
    rw [withLfc_cfg, withLfc_lfc, hcar, List.filter_cons]
    split
    · exact (lastRewritten_cons _ _ _ _).symm
    · rfl

/-! ## The report and the parked test (R49, R61) -/

/-- The report rewrites cars, and trips its bank when that is in SHUTDOWN and then parked in ALARM. -/
theorem carReportTaken_eq (b : BankId) (es : List CarEntry) (s : State) (hcars : s.cfg.banks[b].cars ≤ 6) :
    ∃ v : Vector CarRec 12, carReportTaken b es s = (s.withLfc { s.lfc with cars := v }).mapBank b (fun r =>
        if r.order = .shutdown ∧ (s.withLfc { s.lfc with cars := v }).bankParked b = true ∧ s.inAlarm = true then
          trippedRecord r
        else r)
      ∧ ∀ c : CarId, v[c] =
          lastRewritten s.cfg.banks[b] s.lfc.cars[c] (es.filter (entryNames s.cfg.banks[b] b c)) := by
  obtain ⟨v, hv, hlast⟩ := carEntries_eq b es s hcars
  refine ⟨v, ?_, hlast⟩
  unfold carReportTaken
  rw [hv]
  dsimp only
  have halarm : (s.withLfc { s.lfc with cars := v }).inAlarm = s.inAlarm := rfl
  rw [← halarm, parkedTest_eq]
  generalize s.withLfc { s.lfc with cars := v } = u
  by_cases h : u.lfc.banks[b].order = .shutdown
  · rw [if_pos (beq_iff_eq.2 h)]
    exact mapBank_congr u b (by simp only [h, true_and])
  · rw [if_neg fun k => h (beq_iff_eq.1 k)]
    exact (mapBank_id u b).symm.trans (mapBank_congr u b (if_neg fun k => h k.1).symm)

/-- The test of R61 sees the configuration and the cars. -/
theorem bankParked_congr {s t : State} (hc : t.cfg = s.cfg) (hl : t.lfc.cars = s.lfc.cars) (b : BankId) :
    t.bankParked b = s.bankParked b := by
  unfold State.bankParked State.slotsOf State.slotConfigured
  rw [hc, hl]

/-! ## The presence that the report's own frame delivers (R51, R152) -/

section
variable {p : PortId} {b : BankId} {s y : State} {W : List Instr}

theorem takeOwnPresence_none (hW : ∀ e ∈ y.deliveries, route e ≠ some (.port p, .lfc)) : takeOwnPresence p y = y := by
  unfold takeOwnPresence
  rw [List.find?_eq_none.2 fun e he => by simpa using hW e he]

theorem takeOwnPresence_last {q : Presence} (hd : y.deliveries = W ++ [.lfcPresenceChange p q])
    (hW : ∀ e ∈ W, route e ≠ some (.port p, .lfc)) :
    takeOwnPresence p y = presenceAtLfc p q { y with deliveries := W } := by
  have hfind : y.deliveries.find? (fun e => route e == some (.port p, .lfc)) = some (.lfcPresenceChange p q) := by
    rw [hd, List.find?_append, List.find?_eq_none.2 fun e he => by simpa using hW e he]
    simp [route]
  have htaken : y.taken (.lfcPresenceChange p q) = { y with deliveries := W } := by
    unfold State.taken
    rw [hd, List.erase_append_right _ fun h => hW _ h rfl]
    simp
  unfold takeOwnPresence
  rw [hfind]
  dsimp only
  rw [htaken]

/-- What a valid frame at a LIFT GROUP port delivers: at most one change of its presence to LFC, which is no loss, after
deliveries to other blocks. -/
theorem frameDeliveries_liftGroup (hr : s.role p = .liftGroup) :
    ∃ pre, (∀ e ∈ pre, route e ≠ some (.port p, .lfc)) ∧ (frameDeliveries p s = pre
      ∨ ∃ q, q ≠ .lost ∧ frameDeliveries p s = pre ++ [.lfcPresenceChange p q]) := by
  simp only [frameDeliveries, hr, if_true]
  have hnil : ∀ e ∈ ([] : List Instr), route e ≠ some (.port p, .lfc) := by simp
  cases s.links.ports[p].presence with
  | absent | lost => exact ⟨[], hnil, .inr ⟨.attaching, by decide, rfl⟩⟩
  | present => exact ⟨[], hnil, .inl rfl⟩
  | attaching =>
    by_cases ha : 2 ≤ s.links.ports[p].attach
    · exact ⟨[.troubleClear .partyLost p.val], by simp [route], .inr ⟨.present, by decide, if_pos ha⟩⟩
    · exact ⟨[], hnil, .inl (if_neg ha)⟩

/-- The state in which a CAR REPORT is served: the bank link as the frame leaves it, its own presence delivery taken. -/
theorem takeOwnPresence_asked (h : canAsk p .lfc s) (hr : s.role p = .liftGroup) (hb : s.portBank p = some b) :
    ∃ q, takeOwnPresence p (asked p s) =
      { asked p s with
        lfc := { s.lfc with banks := s.lfc.banks.set b.val { s.lfc.banks[b] with link := q } b.isLt }
        deliveries := (withFrame p s).filter fun e => route e != some (.port p, .lfc) } := by
  obtain ⟨pre, hpre, hframe⟩ := frameDeliveries_liftGroup hr
  have hway : ∀ e ∈ s.deliveries ++ pre, route e ≠ some (.port p, .lfc) := fun e he =>
    (List.mem_append.1 he).elim (h.2.2 e) (hpre e)
  have hfilter : (s.deliveries ++ pre).filter (fun e => route e != some (.port p, .lfc)) = s.deliveries ++ pre :=
    List.filter_eq_self.2 fun e he => bne_iff_ne.2 (hway e he)
  have hd := asked_deliveries (p := p) h.2.1
  rw [← asked_lfc (p := p) h.2.1]
  unfold withFrame at hd ⊢
  obtain hframe | ⟨q, hq, hframe⟩ := hframe <;> rw [hframe] at hd ⊢
  · refine ⟨(asked p s).lfc.banks[b].link, ?_⟩
    rw [takeOwnPresence_none (by rw [hd]; exact hway), hfilter, ← hd]
    exact (mapBank_id _ b).symm
  · refine ⟨q, ?_⟩
    rw [← List.append_assoc] at hd ⊢
    rw [takeOwnPresence_last hd hway, presenceAtLfc_eq (b := b), if_neg hq, List.filter_append, hfilter]
    · rw [List.filter_eq_nil_iff.2 fun e he => by simp [List.mem_singleton.1 he, route], List.append_nil]
      rfl
    · unfold State.portBank State.role
      dsimp only
      rw [asked_cfg h.2.1]
      exact hb

theorem portBank_congr {t : State} (h : t.cfg = s.cfg) (p : PortId) : t.portBank p = s.portBank p := by
  unfold State.portBank State.role
  rw [h]

/-- The checks of R164 see the configuration and the configuration fault. -/
theorem requestCheck_congr {t : State} (hc : t.cfg = s.cfg) (hf : t.configFault = s.configFault) (kind : Byte)
    (body : List Byte) : t.requestCheck p kind body = s.requestCheck p kind body := by
  unfold State.requestCheck State.role
  rw [hc, hf]

/-! ## The request -/

/-- A CAR REPORT is served with the bank link as its frame left it, and answered with the order it left. -/
theorem serveFrame_carReport {body : List Byte} {x : State} (hr : s.role p = .liftGroup)
    (hx : takeOwnPresence p (asked p s) = x) (hcheck : x.requestCheck p 4 body = none)
    (hb : x.portBank p = some b) :
    serveFrame p .lfc 4 body (s.instantAt 0) (abandon p s) =
      prepare p (bankAnswer (carReportTaken b (carEntries body) x) b) (s.instantAt 0)
        (carReportTaken b (carEntries body) x) := by
  have hbefore : beforeService p .lfc (abandon p s) = x := by
    refine (if_pos ?_).trans hx
    rw [abandon_role, hr]
    rfl
  have hserve : serve p 4 body x =
      (carReportTaken b (carEntries body) x, bankAnswer (carReportTaken b (carEntries body) x) b) := by
    unfold serve
    rw [hcheck]
    show serveCarReport p body x = _
    unfold serveCarReport
    rw [hb]
  unfold serveFrame
  rw [hbefore, hserve]

/-- The event of a CAR REPORT: the bank link as the frame leaves it, the cars as the entries leave them, and the parked test of
a bank in SHUTDOWN. -/
theorem carReport_next {body : List Byte} (h : canAsk p .lfc s) (hr : s.role p = .liftGroup) (hb : s.portBank p = some b)
    (hcars : s.cfg.banks[b].cars ≤ 6) (hfive : body.length % 5 = 0) (hlen : body.length ≤ 55) :
    ∃ q t, exec (.carReport p body) s = .next t ∧ lfcServed p s t ∧ answers p ⟨0x84, orderFields t.lfc.banks[b]⟩ s t
      ∧ leaves .lfc ((withFrame p s).filter fun e => route e != some (.port p, .lfc)) [] s t
      ∧ (∀ a : BankId, a ≠ b → t.lfc.banks[a] = s.lfc.banks[a])
      ∧ (t.lfc.banks[b] =
          if s.lfc.banks[b].order = .shutdown ∧ t.bankParked b = true ∧ s.inAlarm = true then
            trippedRecord { s.lfc.banks[b] with link := q }
          else { s.lfc.banks[b] with link := q })
      ∧ ∀ c : CarId, t.lfc.cars[c] =
          lastRewritten s.cfg.banks[b] s.lfc.cars[c] ((carEntries body).filter (entryNames s.cfg.banks[b] b c)) := by
  have hcheck : s.requestCheck p 4 body = none := by
    simp [State.requestCheck, h.2.1, hr, knownKind, kindRole, bodyForm, hfive, hlen]
  have hhome : serveHome p 4 body s = .lfc := by
    rw [serveHome, hcheck]
    rfl
  obtain ⟨q, hx⟩ := takeOwnPresence_asked h hr hb
  generalize (withFrame p s).filter (fun e => route e != some (.port p, .lfc)) = way at hx ⊢
  have hserve := serveFrame_carReport (body := body) hr hx
    ((requestCheck_congr (asked_cfg h.2.1) ((asked_configFault h.2.1).trans h.2.1.symm) _ _).trans hcheck)
    ((portBank_congr (asked_cfg h.2.1) p).trans hb)
  generalize hxd : ({ asked p s with lfc := _, deliveries := way } : State) = x at hserve
  have hxc : x.cfg = s.cfg := by rw [← hxd]; exact asked_cfg h.2.1
  have hxl : x.lfc = { s.lfc with banks := s.lfc.banks.set b.val { s.lfc.banks[b] with link := q } b.isLt } := by
    rw [← hxd]
  have hxa : x.inAlarm = s.inAlarm := by
    rw [← hxd]; exact congrArg (fun r : Rge => r.regime == .alarm) (asked_rge h.2.1)
  have hxf : lfcOnly (asked p s) x := by rw [← hxd]; rfl
  have hxw : x.deliveries = way := by rw [← hxd]
  obtain ⟨v, hy, hlast⟩ := carReportTaken_eq b (carEntries body) x (by rw [hxc]; exact hcars)
  obtain ⟨t, ht, hserved, hanswers, hleaves, hlfc⟩ := lfc_request_ends h.2.1 hserve
    (hxf.trans (carReportTaken_lfcOnly x b _))
  have htc : t.cfg = s.cfg := by rw [hserved]
  rw [hxc, hxl] at hlast
  rw [bankAnswer, ← hlfc] at hanswers
  rw [hy] at hleaves hlfc
  have hparked : (x.withLfc { x.lfc with cars := v }).bankParked b = t.bankParked b :=
    bankParked_congr (t := x.withLfc { x.lfc with cars := v }) (hxc.trans htc.symm) (by rw [hlfc]; rfl) b
  rw [hparked, hxa] at hlfc
  refine ⟨q, t, (request_next rfl h.1 (by omega) hhome h.2.2).trans (congrArg _ ht), hserved, hanswers, ?_, fun a ha => ?_,
    ?_, fun c => ?_⟩
  · rw [← hxw]; exact hleaves
  · rw [hlfc, mapBank_other _ _ _ ha, withLfc_lfc, hxl]
    exact set_fin_other _ _ ha
  · rw [hlfc, mapBank_same, withLfc_lfc, hxl]
    dsimp only
    rw [set_fin_same]
  · rw [hlfc]
    exact hlast c

end

/-- Settles O29: the report as one event of LFC, its own presence change taken, its entries in order, then the parked test. -/
theorem carReportRewritesNamedCars : Obligations.CarReportRewritesNamedCars := by
  intro p b body s h hr hb hc hcars hrange hfive hlen
  obtain ⟨q, t, ht, hserved, hanswers, hleaves, hother, hbank, hcar⟩ :=
    carReport_next h hr (portBank_eq hr hb hc) hcars hfive hlen
  refine ⟨t, ht, hserved, hanswers, hleaves, hother, fun c => ?_, fun hstays => ?_, fun ho ha hp => ?_⟩
  · dsimp only
    have hlast := hcar c
    unfold lastRewritten at hlast
    change match ((carEntries body).filter (entryNames s.cfg.banks[b] b c)).getLast? with | none => _ | some e => _
    cases he : ((carEntries body).filter (entryNames s.cfg.banks[b] b c)).getLast? with
    | none => rw [he] at hlast; exact hlast
    | some e =>
      rw [he] at hlast
      dsimp only
      rw [hlast]
      exact carRewritten_fields hrange (entryNames_iff.1 (List.mem_filter.1 (List.mem_of_getLast? he)).2).2
  · have hno : ¬ (s.lfc.banks[b].order = .shutdown ∧ t.bankParked b = true ∧ s.inAlarm = true) := by
      rintro ⟨ho, hp, ha⟩
      obtain k | k | k := hstays
      · exact k ho
      · exact ne_true_of_eq_false k ha
      · exact ne_true_of_eq_false k hp
    rw [hbank, if_neg hno]
  · rw [hbank, if_pos ⟨ho, hp, ha⟩]
    rfl

end Sys2Proof.Machine
end

section
/-! SUPPORT. Release queues as lists: what appending at the tail of a class does to a queue (R74), and promotion (R75). -/

namespace Sys2Proof.Machine

/-! ## Appending at the tail of a class (R74) -/

section
variable {q : List QueueEntry} {e x : QueueEntry} {k : Nat}

/-- A queue stands in class order (R74). -/
def inClassOrder (q : List QueueEntry) : Prop := q.Pairwise fun a b => a.cls ≤ b.cls

theorem insertEntry_perm (q : List QueueEntry) (e : QueueEntry) : (insertEntry q e).Perm (e :: q) := by
  unfold insertEntry
  refine List.perm_middle.trans (List.Perm.of_eq ?_)
  rw [List.takeWhile_append_dropWhile]

/-- In a queue in class order, the entries behind the tail of a class are of later classes. -/
theorem lt_of_mem_dropWhile (hq : inClassOrder q) (hx : x ∈ q.dropWhile fun y => decide (y.cls ≤ k)) : k < x.cls := by
  induction q with
  | nil => cases hx
  | cons a q ih =>
    obtain ⟨hle, hq⟩ := List.pairwise_cons.1 hq
    by_cases ha : a.cls ≤ k
    · rw [List.dropWhile_cons_of_pos (by simpa using ha)] at hx
      exact ih hq hx
    · rw [List.dropWhile_cons_of_neg (by simpa using ha)] at hx
      obtain rfl | hx := List.mem_cons.1 hx
      · omega
      · have := hle x hx
        omega

theorem insertEntry_inClassOrder (hq : inClassOrder q) : inClassOrder (insertEntry q e) := by
  have hfront : ∀ a ∈ q.takeWhile (fun y => decide (y.cls ≤ e.cls)), a.cls ≤ e.cls := fun a ha => by
    simpa using List.mem_takeWhile_imp ha
  have hback : ∀ b ∈ q.dropWhile (fun y => decide (y.cls ≤ e.cls)), e.cls < b.cls := fun b hb => lt_of_mem_dropWhile hq hb
  refine List.pairwise_append.2 ⟨hq.sublist (List.takeWhile_sublist _),
    List.pairwise_cons.2 ⟨fun b hb => (hback b hb).le, hq.sublist (List.dropWhile_sublist _)⟩, fun a ha b hb => ?_⟩
  obtain rfl | hb := List.mem_cons.1 hb
  · exact hfront a ha
  · exact (hfront a ha).trans (hback b hb).le

/-- The new entry stands last in its class; the other classes keep their entries. -/
theorem insertEntry_class (hq : inClassOrder q) (k : Nat) : (insertEntry q e).filter (fun y => decide (y.cls = k)) =
    q.filter (fun y => decide (y.cls = k)) ++ [e].filter fun y => decide (y.cls = k) := by
  have hsplit := congrArg (List.filter fun y => decide (y.cls = k))
    (List.takeWhile_append_dropWhile (p := fun y : QueueEntry => decide (y.cls ≤ e.cls)) (l := q))
  rw [List.filter_append] at hsplit
  unfold insertEntry
  rw [List.filter_append, ← List.singleton_append, List.filter_append, ← hsplit]
  by_cases hk : e.cls = k
  · have hback : (q.dropWhile fun y => decide (y.cls ≤ e.cls)).filter (fun y => decide (y.cls = k)) = [] :=
      List.filter_eq_nil_iff.2 fun b hb => by have := lt_of_mem_dropWhile hq hb; simp; omega
    rw [hback, List.append_nil, List.append_nil]
  · simp [hk]

/-- A selection that does not see the new entry is as it was. -/
theorem insertEntry_filter {p : QueueEntry → Bool} (he : p e = false) : (insertEntry q e).filter p = q.filter p := by
  unfold insertEntry
  rw [List.filter_append, List.filter_cons_of_neg (by simp [he]), ← List.filter_append, List.takeWhile_append_dropWhile]

end

/-! ## Several entries -/

section
variable {es q : List QueueEntry}

theorem insertEntries_perm (es q : List QueueEntry) : (es.foldl insertEntry q).Perm (es ++ q) := by
  induction es generalizing q with
  | nil => rfl
  | cons e es ih => exact (ih _).trans (((insertEntry_perm q e).append_left es).trans List.perm_middle)

theorem insertEntries_inClassOrder (hq : inClassOrder q) : inClassOrder (es.foldl insertEntry q) := by
  induction es generalizing q with
  | nil => exact hq
  | cons e es ih => exact ih (insertEntry_inClassOrder hq)

theorem insertEntries_class (hq : inClassOrder q) (k : Nat) :
    (es.foldl insertEntry q).filter (fun y => decide (y.cls = k)) =
      q.filter (fun y => decide (y.cls = k)) ++ es.filter fun y => decide (y.cls = k) := by
  induction es generalizing q with
  | nil => simp
  | cons e es ih =>
    rw [List.foldl_cons, ih (insertEntry_inClassOrder hq), insertEntry_class hq, List.append_assoc, ← List.filter_append,
      List.singleton_append]

theorem insertEntries_filter {p : QueueEntry → Bool} (he : ∀ e ∈ es, p e = false) :
    (es.foldl insertEntry q).filter p = q.filter p := by
  induction es generalizing q with
  | nil => rfl
  | cons e es ih =>
    rw [List.foldl_cons, ih fun x hx => he x (List.mem_cons_of_mem _ hx), insertEntry_filter (he e List.mem_cons_self)]

end

/-! ## Promotion (R75) -/

section
variable {floors : List FloorId} {s : State} {q : List QueueEntry}

/-- Promotion keeps which doors a queue names. -/
theorem promoteQueue_doors (floors : List FloorId) (s : State) (q : List QueueEntry) :
    ((promoteQueue floors s q).map (·.door)).Perm (q.map (·.door)) := by
  refine ((insertEntries_perm _ _).map _).trans ?_
  rw [List.map_append, List.map_map]
  exact (List.Perm.of_eq List.map_append.symm).trans ((List.filter_append_perm (promotable floors s) q).map _)

theorem promoteQueue_inClassOrder (hq : inClassOrder q) : inClassOrder (promoteQueue floors s q) :=
  insertEntries_inClassOrder (hq.filter _)

/-- In each class the promoted entries stand behind those that keep it, in the order in which they stood. -/
theorem promoteQueue_class (hq : inClassOrder q) (k : Nat) :
    (promoteQueue floors s q).filter (fun e => decide (e.cls = k)) =
      q.filter (fun e => decide (e.cls = k) && !promotable floors s e)
        ++ (q.filter fun e => promotable floors s e && decide (s.floorClass s.cfg.doors[e.door].floor = k)).map
          fun e => { e with cls := k } := by
  unfold promoteQueue
  rw [insertEntries_class (hq.filter _), List.filter_filter, List.filter_map, List.filter_filter]
  congr 1
  have hsame : ∀ e ∈ q.filter (fun e => decide (s.floorClass s.cfg.doors[e.door].floor = k) && promotable floors s e),
      { e with cls := s.floorClass s.cfg.doors[e.door].floor } = { e with cls := k } := fun e he => by
    simp only [List.mem_filter, Bool.and_eq_true, decide_eq_true_eq] at he
    rw [he.2.1]
  refine (List.map_congr_left hsame).trans ?_
  simp only [Bool.and_comm]

theorem promoteQueue_nil (s : State) (q : List QueueEntry) : promoteQueue [] s q = q := by
  have hnone : promotable [] s = fun _ => false := rfl
  unfold promoteQueue
  rw [hnone, List.filter_false]
  exact List.filter_true q

/-- Without a floor named nothing is promoted. -/
theorem promote_nil (s : State) : promote [] s = s := by
  have hsame : (tab fun g => { s.dsq.groups[g] with queue := promoteQueue [] s s.dsq.groups[g].queue }) = s.dsq.groups :=
    table_ext fun g => by rw [tab_fin, promoteQueue_nil]
  unfold promote
  rw [hsame]
  rfl

end

end Sys2Proof.Machine
end

section
/-! SUPPORT. The records of the Door Sequencer: strikes, groups, and what the end of a handover makes of a group (R94). -/

namespace Sys2Proof.Machine

/-! ## Strikes and records of groups -/

section
variable (s : State) (b : Dsq) (g : GroupId) (d : DoorId)

theorem withDsq_isStrike : (s.withDsq b).isStrike d = s.isStrike d := rfl

theorem withDsq_strikeOf : (s.withDsq b).strikeOf g d = s.strikeOf g d := rfl

theorem withDsq_floorClass (n : Nat) : (s.withDsq b).floorClass n = s.floorClass n := rfl

theorem strikeOf_iff : s.strikeOf g d = true ↔ s.isStrike d = true ∧ s.cfg.doors[d].group = g.val := by
  unfold State.strikeOf
  rw [Bool.and_eq_true, beq_iff_eq]

theorem not_isMagnet_of_isStrike {s : State} {d : DoorId} (h : s.isStrike d = true) : s.isMagnet d = false := by
  unfold State.isStrike at h
  unfold State.isMagnet
  simp only [Bool.and_eq_true, beq_iff_eq] at h
  rw [h.2]
  exact Bool.and_false _

end

section
variable (s : State) (g : GroupId) (f : GroupRec → GroupRec)

theorem mapGroup_same : (s.mapGroup g f).dsq.groups[g] = f s.dsq.groups[g] := set_fin_same _ _ _

theorem mapGroup_other {h : GroupId} (hh : h ≠ g) : (s.mapGroup g f).dsq.groups[h] = s.dsq.groups[h] :=
  set_fin_other _ _ hh

theorem mapGroup_id : s.mapGroup g (fun r => r) = s := by
  have h : s.dsq.groups.set g.val s.dsq.groups[g] g.isLt = s.dsq.groups := Vector.set_getElem_self g.isLt
  unfold State.mapGroup State.setGroup
  rw [h]
  rfl

theorem mapGroup_congr {f f' : GroupRec → GroupRec} (h : f s.dsq.groups[g] = f' s.dsq.groups[g]) :
    s.mapGroup g f = s.mapGroup g f' := congrArg (s.setGroup g) h

end

/-- The state with other records of the groups. -/
def withGroups (v : Vector GroupRec 4) (s : State) : State := s.withDsq { s.dsq with groups := v }

theorem withGroups_withDsq (v : Vector GroupRec 4) (b : Dsq) (s : State) :
    withGroups v (s.withDsq b) = s.withDsq { b with groups := v } := rfl

/-- Steps that change one group each, whatever the records of the groups, change each group of a list by its own step. -/
theorem foldl_groups {s : State} {step : State → GroupId → State} (F : GroupId → GroupRec → GroupRec)
    (h : ∀ v g, step (withGroups v s) g = (withGroups v s).mapGroup g (F g)) {gs : List GroupId} (hgs : gs.Nodup)
    (v : Vector GroupRec 4) : ∃ w : Vector GroupRec 4, gs.foldl step (withGroups v s) = withGroups w s
      ∧ ∀ g : GroupId, w[g] = if g ∈ gs then F g v[g] else v[g] := by
  induction gs generalizing v with
  | nil => exact ⟨v, rfl, fun g => rfl⟩
  | cons a gs ih =>
    obtain ⟨ha, hgs⟩ := List.nodup_cons.1 hgs
    obtain ⟨w, hw, hrec⟩ := ih hgs (v.set a.val (F a v[a]) a.isLt)
    refine ⟨w, ?_, fun g => ?_⟩
    · rw [List.foldl_cons, h]
      exact hw
    · rw [hrec, set_fin]
      by_cases hg : g = a
      · subst hg
        rw [if_neg ha, if_pos rfl, if_pos List.mem_cons_self]
      · rw [if_neg hg]
        simp only [List.mem_cons, hg, false_or]

/-! ## The end of a handover (R94) -/

section
variable {s : State} {g : GroupId} {d : DoorId}

theorem anyRamp_eq_false : s.anyRamp g = false ↔
    ∀ d : DoorId, s.strikeOf g d = true → s.dsq.doors[d].inRamp = false := by
  unfold State.anyRamp
  simp only [List.any_eq_false, List.mem_finRange, true_implies, Bool.and_eq_true, not_and, Bool.not_eq_true]

/-- The strike that leaves its ramp is the last of its group in RAMP exactly when no other strike of the group is. -/
theorem anyRamp_setDoor {r : DoorState} (hr : r.inRamp = false) : (s.setDoor d r).anyRamp g = false ↔
    ∀ e : DoorId, e ≠ d → s.strikeOf g e = true → s.dsq.doors[e].inRamp = false := by
  refine anyRamp_eq_false.trans ⟨fun h e he hg => ?_, fun h e hg => ?_⟩
  · have hkept := h e hg
    rwa [setDoor_doors, set_fin_other _ _ he] at hkept
  · rw [setDoor_doors, set_fin]
    split
    next => exact hr
    next he => exact h e he hg

/-- What the end of a handover makes of the record of a group, when it comes (R94 to R96). -/
def handoverEnded (s : State) (g : GroupId) (r : GroupRec) : GroupRec :=
  if r.takeover = .handingOver ∧ s.anyRamp g = false then
    if r.request then { r with takeover := .taken, limited := false }
    else { r with
      takeover := .reacquiring, carry := 0, nextRelease := s.now + s.cfg.groups[g].gMin
      pacing := some (s.now + s.cfg.groups[g].gMin) }
  else r

theorem endHandover_eq (g : GroupId) (s : State) : endHandover g s = s.mapGroup g (handoverEnded s g) := by
  unfold endHandover
  by_cases h : s.dsq.groups[g].takeover = .handingOver ∧ s.anyRamp g = false
  · rw [if_pos (by simpa using h)]
    split
    next hr => exact mapGroup_congr s g (by simp only [handoverEnded, h, hr, and_self, if_true]; rfl)
    next hr => exact mapGroup_congr s g (by simp only [handoverEnded, h, hr, and_self, if_true]; rfl)
  · have hsame : handoverEnded s g s.dsq.groups[g] = s.dsq.groups[g] := if_neg h
    rw [if_neg (by simpa using h), mapGroup_congr s g (f' := fun r => r) hsame, mapGroup_id]

/-- The ends of the handovers of all groups. -/
theorem foldl_endHandover (s : State) : ∃ w : Vector GroupRec 4,
    (List.finRange 4).foldl (fun u g => endHandover g u) s = withGroups w s
      ∧ ∀ g : GroupId, w[g] = handoverEnded s g s.dsq.groups[g] := by
  obtain ⟨w, hw, hrec⟩ := foldl_groups (s := s) (step := fun u g => endHandover g u) (handoverEnded s)
    (fun v g => endHandover_eq g (withGroups v s)) (List.nodup_finRange 4) s.dsq.groups
  exact ⟨w, hw, fun g => (hrec g).trans (if_pos (List.mem_finRange g))⟩

end

end Sys2Proof.Machine
end

section
/-! SUPPORT. What an event of the Door Sequencer delivers at its end (R81, R82, R90, R94 to R98), and what it leaves. -/

namespace Sys2Proof.Machine

/-! ## The deliveries at the end of an event -/

/-- What an event of DSQ that took `s` to `t` delivers behind what its own steps delivered (log entry 37). -/
def dsqNews (s t : State) : List Instr := doorTroubles s t ++ groupTroubles s t ++ impairedWrites s t

theorem dsqChange_eq (f : State → State) (s : State) : dsqChange f s = (f s).deliver (dsqNews s (f s)) := rfl

theorem mem_troubleChange {e : Instr} {k : TroubleKind} {n : Nat} {before after : Bool} :
    e ∈ troubleChange k n before after ↔
      (before = false ∧ after = true ∧ e = .troubleRaise k n) ∨ (before = true ∧ after = false ∧ e = .troubleClear k n) := by
  cases before <;> cases after <;> simp [troubleChange]

theorem troubleChange_self (k : TroubleKind) (n : Nat) (b : Bool) : troubleChange k n b b = [] := by cases b <;> rfl

section
variable {s t : State} {e : Instr}

theorem mem_doorTroubles : e ∈ doorTroubles s t ↔ ∃ d : DoorId, s.isStrike d = true
    ∧ ((s.dsq.doors[d] ≠ .failed ∧ t.dsq.doors[d] = .failed ∧ e = .troubleRaise .doorFailed d.val)
      ∨ (s.dsq.doors[d] = .failed ∧ t.dsq.doors[d] ≠ .failed ∧ e = .troubleClear .doorFailed d.val)) := by
  unfold doorTroubles
  simp only [List.mem_flatMap, List.mem_finRange, true_and, List.mem_ite_nil_right, mem_troubleChange, beq_iff_eq,
    beq_eq_false_iff_ne]

theorem mem_groupTroubles : e ∈ groupTroubles s t ↔ ∃ g : GroupId,
    (s.dsq.groups[g].limited = true ∧ t.dsq.groups[g].limited = false ∧ e = .troubleClear .supplyLimit g.val)
    ∨ (s.dsq.groups[g].takeover ≠ .taken ∧ t.dsq.groups[g].takeover = .taken ∧ e = .troubleRaise .takeoverActive g.val)
    ∨ (s.dsq.groups[g].takeover = .taken ∧ t.dsq.groups[g].takeover ≠ .taken
      ∧ e = .troubleClear .takeoverActive g.val) := by
  unfold groupTroubles
  simp only [List.mem_flatMap, List.mem_finRange, true_and, List.mem_append, List.mem_ite_nil_right, mem_troubleChange,
    beq_iff_eq, beq_eq_false_iff_ne, Bool.and_eq_true, Bool.not_eq_true', List.mem_singleton, and_assoc]

theorem someFailed_iff {f : FloorId} : someFailed s f ↔ s.failedStrikes f ≠ 0 := by
  unfold State.failedStrikes someFailed
  simp only [ne_eq, List.length_eq_zero_iff, List.filter_eq_nil_iff, List.mem_finRange, true_implies, Bool.and_eq_true,
    beq_iff_eq, and_assoc, not_forall, not_not]

theorem mem_impairedWrites : e ∈ impairedWrites s t ↔ ∃ f : FloorId,
    (¬ someFailed s f ∧ someFailed t f ∧ e = .reentryImpairedWrite f true)
    ∨ (someFailed s f ∧ ¬ someFailed t f ∧ e = .reentryImpairedWrite f false) := by
  unfold impairedWrites
  simp only [List.mem_flatMap, List.mem_finRange, true_and]
  refine exists_congr fun f => ?_
  rw [someFailed_iff, someFailed_iff]
  cases s.failedStrikes f <;> cases t.failedStrikes f <;> simp

theorem someFailed_congr {u : State} (hc : t.cfg = u.cfg) (hd : t.dsq = u.dsq) (f : FloorId) :
    someFailed t f ↔ someFailed u f := by
  unfold someFailed State.isStrike
  rw [hc, hd]

/-- What an event delivers depends on the configuration and on the records of DSQ before and after it. -/
theorem dsqNews_congr {s' t' : State} (hsc : s'.cfg = s.cfg) (hsd : s'.dsq = s.dsq) (htc : t'.cfg = t.cfg)
    (htd : t'.dsq = t.dsq) : dsqNews s' t' = dsqNews s t := by
  unfold dsqNews doorTroubles groupTroubles impairedWrites State.failedStrikes State.isStrike
  rw [hsc, hsd, htc, htd]

/-- Groups that keep LIMITED and takeover raise and clear nothing. -/
theorem groupTroubles_same (h : ∀ g : GroupId, t.dsq.groups[g].limited = s.dsq.groups[g].limited
    ∧ t.dsq.groups[g].takeover = s.dsq.groups[g].takeover) : groupTroubles s t = [] := by
  unfold groupTroubles
  refine List.flatMap_eq_nil_iff.2 fun g _ => ?_
  rw [(h g).1, (h g).2, troubleChange_self, Bool.and_not_self]
  rfl

/-- Groups that keep their takeover state clear SUPPLY LIMIT at most. -/
theorem mem_groupTroubles_of_takeover (h : ∀ g : GroupId, t.dsq.groups[g].takeover = s.dsq.groups[g].takeover) :
    e ∈ groupTroubles s t ↔ ∃ g : GroupId,
      s.dsq.groups[g].limited = true ∧ t.dsq.groups[g].limited = false ∧ e = .troubleClear .supplyLimit g.val := by
  rw [mem_groupTroubles]
  refine exists_congr fun g => or_iff_left ?_
  rw [h g]
  rintro (⟨hs, ht, -⟩ | ⟨hs, ht, -⟩)
  · exact hs ht
  · exact ht hs

/-- Behind SUPPLY LIMIT raises of attempts, groups that keep their takeover state deliver what R90 names. -/
theorem supplyNews_of_takeover {raised : GroupId → Prop} {news : List Instr}
    (h : ∀ g : GroupId, t.dsq.groups[g].takeover = s.dsq.groups[g].takeover)
    (hn : ∀ e, e ∈ news ↔ ∃ g, raised g ∧ e = .troubleRaise .supplyLimit g.val) :
    supplyNews raised s t (news ++ groupTroubles s t) := by
  unfold supplyNews
  simp only [List.mem_append, hn, mem_groupTroubles_of_takeover h]
  refine ⟨fun g => ?_, fun g => ?_, fun e he => ?_⟩
  · simp [Fin.val_inj]
  · simp [Fin.val_inj]
  · obtain ⟨g, -, rfl⟩ | ⟨g, -, -, rfl⟩ := he
    · exact ⟨g, .inl rfl⟩
    · exact ⟨g, .inr rfl⟩

/-- A strike is FAILED after an event exactly when it was before. -/
def keepsFailed (s t : State) : Prop :=
  ∀ d : DoorId, s.isStrike d = true → (t.dsq.doors[d] = .failed ↔ s.dsq.doors[d] = .failed)

theorem doorTroubles_same (h : keepsFailed s t) : doorTroubles s t = [] := by
  refine List.eq_nil_iff_forall_not_mem.2 fun e he => ?_
  obtain ⟨d, hd, ⟨hs, ht, -⟩ | ⟨hs, ht, -⟩⟩ := mem_doorTroubles.1 he
  · exact hs ((h d hd).1 ht)
  · exact ht ((h d hd).2 hs)

theorem someFailed_same (hc : t.cfg = s.cfg) (h : keepsFailed s t) (f : FloorId) : someFailed t f ↔ someFailed s f := by
  unfold someFailed State.isStrike
  rw [hc]
  exact exists_congr fun d => and_congr_right fun hd => and_congr_right fun _ => h d hd

theorem impairedWrites_same (hc : t.cfg = s.cfg) (h : keepsFailed s t) : impairedWrites s t = [] := by
  refine List.eq_nil_iff_forall_not_mem.2 fun e he => ?_
  obtain ⟨f, ⟨hs, ht, -⟩ | ⟨hs, ht, -⟩⟩ := mem_impairedWrites.1 he
  · exact hs ((someFailed_same hc h f).1 ht)
  · exact ht ((someFailed_same hc h f).2 hs)

/-- An event that keeps every FAILED state delivers what its groups raise and clear. -/
theorem dsqNews_keepsFailed (hc : t.cfg = s.cfg) (h : keepsFailed s t) : dsqNews s t = groupTroubles s t := by
  unfold dsqNews
  rw [doorTroubles_same h, impairedWrites_same hc h, List.nil_append, List.append_nil]

/-- An event that leaves the groups delivers what the FAILED states call for (R81, R82). -/
theorem dsqNews_failedNews (hg : t.dsq.groups = s.dsq.groups) : failedNews s t (dsqNews s t) := by
  have hmem : ∀ e, e ∈ dsqNews s t ↔ e ∈ doorTroubles s t ∨ e ∈ impairedWrites s t := fun e => by
    unfold dsqNews
    rw [groupTroubles_same fun g => by rw [hg]; exact ⟨rfl, rfl⟩, List.append_nil, List.mem_append]
  unfold failedNews
  simp only [hmem, mem_doorTroubles, mem_impairedWrites]
  refine ⟨fun d => ?_, fun d => ?_, fun f v => ?_, fun e he => ?_⟩
  · simp [Fin.val_inj]
  · simp [Fin.val_inj]
  · cases v <;> simp
  · obtain ⟨d, -, ⟨-, -, rfl⟩ | ⟨-, -, rfl⟩⟩ | ⟨f, ⟨-, -, rfl⟩ | ⟨-, -, rfl⟩⟩ := he
    · exact .inl ⟨d, .inl rfl⟩
    · exact .inl ⟨d, .inr rfl⟩
    · exact .inr ⟨f, true, rfl⟩
    · exact .inr ⟨f, false, rfl⟩

end

/-! ## Events of DSQ -/

/-- An event of DSQ whose own steps deliver `raised`. -/
theorem dsqEvent_leaves {f : State → State} {s x : State} {raised : List Instr} (hx : x = { s with deliveries := x.deliveries })
    (hf : dsqOnly x (f x)) (hd : (f x).deliveries = x.deliveries ++ raised) :
    ∃ t, dsqEvent f x = t ∧ dsqOnly s t ∧ t.dsq = (f x).dsq
      ∧ leaves .dsq x.deliveries (raised ++ dsqNews s t) s t := by
  have hnews : dsqNews s (dsqEvent f x) = dsqNews x (f x) := by
    refine dsqNews_congr ?_ ?_ rfl rfl <;> rw [hx]
  refine ⟨_, rfl, ?_, rfl, ?_⟩
  · unfold dsqEvent dsqOnly
    rw [event_other (by decide), dsqChange_eq]
    rw [dsqOnly] at hf
    rw [hf, hx]
    rfl
  · rw [hnews]
    refine leaves_event_other (by decide) ?_ ?_ ?_
    · rw [hx]; rfl
    · rw [dsqChange_eq, deliver_deliveries, hd, List.append_assoc]
    · rw [dsqChange_eq, deliver_rge, hf, hx]

/-- A delivery to DSQ whose event's own steps deliver `raised`. -/
theorem dsqDelivery_leaves {e : Instr} {f : State → State} {s : State} {raised : List Instr} (h : s.takes e = true)
    (hf : dsqOnly (s.taken e) (f (s.taken e))) (hd : (f (s.taken e)).deliveries = without s e ++ raised) :
    ∃ t, onDelivery e (dsqEvent f) s = t ∧ dsqOnly s t ∧ t.dsq = (f (s.taken e)).dsq
      ∧ leaves .dsq (without s e) (raised ++ dsqNews s t) s t := by
  rw [onDelivery_takes h]
  exact dsqEvent_leaves (s := s) (x := s.taken e) rfl hf hd

/-- An event of DSQ whose own steps deliver nothing. -/
theorem dsqEvent_quiet {f : State → State} {s x : State} (hx : x = { s with deliveries := x.deliveries })
    (hf : dsqOnly x (f x)) (hd : (f x).deliveries = x.deliveries) :
    ∃ t, dsqEvent f x = t ∧ dsqOnly s t ∧ t.dsq = (f x).dsq ∧ leaves .dsq x.deliveries (dsqNews s t) s t :=
  dsqEvent_leaves hx hf (hd.trans (List.append_nil _).symm)

/-- A delivery to DSQ whose event's own steps deliver nothing. -/
theorem dsqDelivery_quiet {e : Instr} {f : State → State} {s : State} (h : s.takes e = true)
    (hf : dsqOnly (s.taken e) (f (s.taken e))) (hd : (f (s.taken e)).deliveries = (s.taken e).deliveries) :
    ∃ t, onDelivery e (dsqEvent f) s = t ∧ dsqOnly s t ∧ t.dsq = (f (s.taken e)).dsq
      ∧ leaves .dsq (without s e) (dsqNews s t) s t :=
  dsqDelivery_leaves h hf (hd.trans (List.append_nil _).symm)

/-- An event of DSQ that changes nothing delivers nothing. -/
theorem dsqEvent_idle (f : State → State) (s : State) (h : f s = s) : dsqEvent f s = s := by
  have hsame : dsqNews s s = [] :=
    (dsqNews_keepsFailed rfl fun _ _ => Iff.rfl).trans (groupTroubles_same fun _ => ⟨rfl, rfl⟩)
  have hdeliver : s.deliver [] = s := by
    unfold State.deliver
    rw [List.append_nil]
  unfold dsqEvent
  rw [event_other (by decide), dsqChange_eq, h, hsame, hdeliver, changed_self]
  exact hdeliver

/-- What an event of a block leaves holds each delivery of the event. -/
theorem mem_of_leaves {home : Agent} {way news : List Instr} {s t : State} {e : Instr} (h : leaves home way news s t)
    (he : e ∈ news) : e ∈ t.deliveries := by
  rw [h.1]
  exact List.mem_append_left _ (List.mem_append_right _ he)

/-- The counter's increase is no other delivery. -/
theorem mem_append_increaseOf {home : Agent} {news : List Instr} {s t : State} {e : Instr}
    (he : e ≠ .changeCounterIncrease home) : e ∈ news ++ increaseOf home s t ↔ e ∈ news := by
  refine List.mem_append.trans (or_iff_left fun h => he ?_)
  unfold increaseOf at h
  split at h
  · exact List.mem_singleton.1 h
  · cases h

/-! ## A request that DSQ decides -/

/-- The event of DSQ that serves a request whose steps leave `y` (R161). -/
theorem dsq_request_ends {p : PortId} {s y : State} {a : Answer} {f : State → State} (h : s.configFault = false)
    (hf : f (abandon p s) = prepare p a (s.instantAt 0) y) (hy : dsqOnly (asked p s) y) :
    ∃ t, event .dsq (dsqChange f) (abandon p s) = t ∧ dsqServed p s t ∧ answers p a s t
      ∧ leaves .dsq y.deliveries (dsqNews s t) s t ∧ t.dsq = y.dsq := by
  have hasked := asked_eq (p := p) h
  have hlinks : (prepare p a (s.instantAt 0) y).links = (prepare p a (s.instantAt 0) (asked p s)).links := by
    rw [hy]
    rfl
  have hcfg : y.cfg = s.cfg := by rw [hy, hasked]
  have hrge : y.rge = s.rge := by rw [hy, hasked]
  have hnews : ∀ t : State, t.cfg = y.cfg → t.dsq = y.dsq →
      dsqNews (abandon p s) (f (abandon p s)) = dsqNews s t := fun t hc hd => by
    rw [hf]
    exact dsqNews_congr abandon_cfg abandon_dsq hc.symm hd.symm
  have hend : dsqChange f (abandon p s) =
      (prepare p a (s.instantAt 0) y).deliver (dsqNews (abandon p s) (f (abandon p s))) := by
    rw [dsqChange_eq, hf]
  refine ⟨_, rfl, ?_, answers_of h ?_, leaves_event_other (by decide) readable_abandon ?_ ?_, ?_⟩
  · unfold dsqServed
    rw [event_other (by decide), hend]
    rw [dsqOnly] at hy
    generalize asked p s = u at hasked hy
    rw [hy, hasked]
    rfl
  · rw [event_links, hend]
    exact hlinks
  · rw [← hnews _ (by rw [event_cfg, hend]; rfl) (by rw [event_dsq, hend]; rfl), hend]
    rfl
  · rw [hend]
    exact congrArg Rge.changeCounter hrge
  · rw [event_dsq, hend]
    rfl

end Sys2Proof.Machine
end

section
/-! PROOF. Feedback bands, the ends of ramps and verify timers, and the REGIME RESET at DSQ (R77 to R83, R94 to R98). -/

namespace Sys2Proof.Machine

/-! ## Feedback (R79, R80) -/

/-- Settles O34: the event replaces the doors alone, so what it delivers follows from the FAILED states. -/
theorem feedbackBandMovesStrikes : Obligations.FeedbackBandMovesStrikes := by
  intro l b s h
  obtain ⟨t, ht, hframe, hdsq, hleaves⟩ := dsqDelivery_quiet (f := feedbackAtDsq l b) h
    (feedbackAtDsq_dsqOnly _ l b) (withDsq_deliveries _ _)
  have hgroups : t.dsq.groups = s.dsq.groups := by rw [hdsq, feedbackAtDsq, withDsq_dsq]; rfl
  have hdoor : ∀ d : DoorId, t.dsq.doors[d] =
      if s.isStrike d && s.cfg.doors[d].feedback == some l.val then feedbackActs b s.dsq.doors[d]
      else s.dsq.doors[d] := fun d => by
    rw [hdsq]
    exact tab_fin _ d
  refine ⟨t, congrArg _ ht, hframe, hgroups, fun d => ⟨fun hd => ?_, fun hd => ?_⟩, dsqNews s t,
    dsqNews_failedNews hgroups, hleaves⟩
  · rw [hdoor, if_neg (by simpa using hd)]
  · rw [hdoor, if_pos (by simpa using hd)]
    cases s.dsq.doors[d] <;> cases b <;> rfl

/-! ## REGIME RESET (R83, R98) -/

/-- The doors and groups of an accepted REGIME RESET. -/
theorem resetAtDsq_records (s : State) : ∃ w : Vector GroupRec 4,
    resetAtDsq s = s.withDsq { doors := tab fun d => resetDoor s d, groups := w }
      ∧ ∀ g : GroupId, w[g] =
        let r := s.dsq.groups[g]
        let q : GroupRec := { r with queue := [], holdSum := 0, carry := 0, limited := false, zeroGap := false }
        match r.takeover with
        | .owned => { q with nextRelease := s.now, pacing := none }
        | .taken => q
        | .reacquiring => q
        | .handingOver =>
          if r.request then { q with takeover := .taken }
          else { q with
            takeover := .reacquiring, nextRelease := s.now + s.cfg.groups[g].gMin
            pacing := some (s.now + s.cfg.groups[g].gMin) } := by
  obtain ⟨w, hw, hrec⟩ := foldl_endHandover (s.withDsq
    { doors := tab fun d => resetDoor s d, groups := tab fun g => resetGroup s s.dsq.groups[g] })
  have hramp : ∀ g : GroupId, (s.withDsq
      { doors := tab fun d => resetDoor s d, groups := tab fun g => resetGroup s s.dsq.groups[g] }).anyRamp g = false :=
    fun g => anyRamp_eq_false.2 fun d hd => by
      rw [withDsq_strikeOf] at hd
      rw [withDsq_dsq, tab_fin, resetDoor, if_pos ((strikeOf_iff s g d).1 hd).1]
      rfl
  refine ⟨w, hw.trans (withGroups_withDsq _ _ _), fun g => ?_⟩
  rw [hrec g]
  unfold handoverEnded
  simp only [hramp, and_true, withDsq_dsq, tab_fin, withDsq_now, withDsq_cfg]
  unfold resetGroup
  cases s.dsq.groups[g].takeover <;> simp

/-- Settles O35: the records as the reset and the end of each handover leave them, and what their change clears. -/
theorem regimeResetSecuresTheDoors : Obligations.RegimeResetSecuresTheDoors := by
  intro s h
  obtain ⟨w, hw, hrec⟩ := resetAtDsq_records (s.taken .dsqRegimeReset)
  obtain ⟨t, ht, hframe, hdsq, hleaves⟩ := dsqDelivery_quiet (f := resetAtDsq) h
    (resetAtDsq_dsqOnly _) (by rw [hw]; rfl)
  rw [hw] at hdsq
  have hdoor : ∀ d : DoorId, t.dsq.doors[d] =
      if s.isStrike d then .secured else if s.isMagnet d then .holding else s.dsq.doors[d] := fun d => by
    rw [hdsq]
    exact tab_fin _ d
  have hgroup : ∀ g : GroupId, t.dsq.groups[g] = w[g] := fun g => by rw [hdsq]; rfl
  have hsecured : ∀ d : DoorId, s.isStrike d = true → t.dsq.doors[d] ≠ .failed := fun d hd => by
    rw [hdoor, if_pos hd]
    exact nofun
  have hnews : ∀ e ∈ dsqNews s t, e ∈ t.deliveries := fun e he => mem_of_leaves hleaves he
  simp only [dsqNews, List.mem_append] at hnews
  refine ⟨t, congrArg _ ht, hframe, hdoor, fun g => (hgroup g).trans (hrec g), fun d hd hf => ?_, fun d f hd hf hfloor => ?_,
    fun g hg => ?_⟩
  · exact hnews _ (.inl (.inl (mem_doorTroubles.2 ⟨d, hd, .inr ⟨hf, hsecured d hd, rfl⟩⟩)))
  · refine hnews _ (.inr (mem_impairedWrites.2 ⟨f, .inr ⟨⟨d, hd, hfloor, hf⟩, ?_, rfl⟩⟩))
    rintro ⟨e, he, -, hfailed⟩
    have hsame : t.isStrike e = s.isStrike e := by rw [hframe]; rfl
    exact hsecured e (hsame ▸ he) hfailed
  · refine hnews _ (.inl (.inr (mem_groupTroubles.2 ⟨g, .inl ⟨hg, ?_, rfl⟩⟩)))
    rw [hgroup, hrec]
    dsimp only
    split
    case h_4 => split <;> rfl
    all_goals rfl

/-! ## The ends of ramps and verify timers (R78, R79) -/

section
variable {s : State} {d : DoorId} {g : GroupId}

theorem afterRamp_unmonitored (h : s.cfg.doors[d].feedback = none) : s.afterRamp d = .released := by
  unfold State.afterRamp State.feedbackBand
  rw [h]

theorem afterRamp_monitored {l : LoopId} (h : s.cfg.doors[d].feedback = some l.val) : s.afterRamp d =
    if s.lsc.loops[l].stable = .normal then .released else .verify (s.now + s.cfg.tDoorVerify) := by
  unfold State.afterRamp State.feedbackBand
  rw [h]
  simp only [rowAt_fin, Option.map_some]
  cases s.lsc.loops[l].stable <;> rfl

theorem afterRamp_inRamp (s : State) (d : DoorId) : (s.afterRamp d).inRamp = false := by
  unfold State.afterRamp
  split <;> rfl

theorem rampEnds_eq (h : s.cfg.doors[d].group = g.val) :
    rampEnds d s = (s.setDoor d (s.afterRamp d)).mapGroup g (handoverEnded (s.setDoor d (s.afterRamp d)) g) := by
  unfold rampEnds State.groupOf
  rw [h, toIndex_val]
  exact endHandover_eq g _

end

/-- The end of a ramp (R78), and with the last ramp of its group the end of a handover (R94 to R96). -/
theorem rampEnd_verifies (d : DoorId) (g : GroupId) (s : State) (ends : Nat) (hd : s.dsq.doors[d] = .ramp ends)
    (hends : ends ≤ s.now) (hg : s.cfg.doors[d].group = g.val) :
    ∃ t, exec (.rampEnd d) s = .next t ∧ dsqOnly s t ∧ (∀ e : DoorId, e ≠ d → t.dsq.doors[e] = s.dsq.doors[e])
      ∧ (∀ h : GroupId, h ≠ g → t.dsq.groups[h] = s.dsq.groups[h]) ∧ t.dsq.doors[d] = s.afterRamp d
      ∧ t.dsq.groups[g] = handoverEnded (s.setDoor d (s.afterRamp d)) g s.dsq.groups[g]
      ∧ leaves .dsq s.deliveries (dsqNews s t) s t := by
  obtain ⟨t, ht, hframe, hdsq, hleaves⟩ := dsqEvent_quiet (s := s) (x := s) (f := rampEnds d) rfl
    (rampEnds_dsqOnly s d) (by rw [rampEnds_eq hg]; rfl)
  rw [rampEnds_eq hg] at hdsq
  have hdue : s.due s.dsq.doors[d].rampTimer = true := by
    rw [hd]
    exact due_some.2 hends
  refine ⟨t, congrArg _ ((if_pos hdue).trans ht), hframe, fun e he => ?_, fun h hh => ?_, ?_, ?_, hleaves⟩
  · rw [hdsq]; exact set_fin_other _ _ he
  · rw [hdsq]; exact mapGroup_other _ _ _ hh
  · rw [hdsq]; exact set_fin_same _ _ _
  · rw [hdsq]; exact mapGroup_same _ _ _

section
variable {s t : State} {d : DoorId} {f : FloorId}

/-- A strike that fails makes its floor one with a FAILED strike. -/
theorem someFailed_setDoor (hstrike : s.isStrike d = true) (hfloor : s.cfg.doors[d].floor = f.val) (h : FloorId) :
    someFailed (s.setDoor d .failed) h ↔ h = f ∨ someFailed s h := by
  have hdoor : ∀ e : DoorId, (s.setDoor d .failed).dsq.doors[e] = if e = d then .failed else s.dsq.doors[e] := fun e => by
    rw [setDoor_doors, set_fin]
  unfold someFailed
  simp only [hdoor]
  constructor
  · rintro ⟨e, he, hon, hf⟩
    by_cases hed : e = d
    · subst hed
      exact .inl (Fin.ext (hon.symm.trans hfloor))
    · exact .inr ⟨e, he, hon, (if_neg hed).symm.trans hf⟩
  · rintro (rfl | ⟨e, he, hon, hf⟩)
    · exact ⟨d, hstrike, hfloor, if_pos rfl⟩
    · exact ⟨e, he, hon, by rw [hf, ite_self]⟩

/-- An event in which one strike fails raises its DOOR FAILED alone (R81). -/
theorem raise_mem_of_failing {news : List Instr} (hnews : failedNews s t news) (hstrike : s.isStrike d = true)
    (hd : s.dsq.doors[d] ≠ .failed) (ht : t.dsq.doors = s.dsq.doors.set d.val .failed d.isLt) (k : TroubleKind) (n : Nat) :
    .troubleRaise k n ∈ news ↔ k = .doorFailed ∧ n = d.val := by
  obtain ⟨hraise, -, -, hall⟩ := hnews
  constructor
  · intro he
    obtain ⟨e, heq | heq⟩ | ⟨_, _, heq⟩ := hall _ he <;> cases heq
    obtain ⟨-, hs, hte⟩ := (hraise e).1 he
    rw [ht, set_fin] at hte
    by_cases hed : e = d
    · exact ⟨rfl, congrArg Fin.val hed⟩
    · exact absurd ((if_neg hed).symm.trans hte) hs
  · rintro ⟨rfl, rfl⟩
    exact (hraise d).2 ⟨hstrike, hd, by rw [ht]; exact set_fin_same _ _ _⟩

/-- An event in which one strike fails writes the flag of its floor yes, when it is the floor's first (R82). -/
theorem write_mem_of_failing {news : List Instr} (hnews : failedNews s t news)
    (ht : ∀ h, someFailed t h ↔ h = f ∨ someFailed s h) (h : FloorId) (v : Bool) :
    .reentryImpairedWrite h v ∈ news ↔ h = f ∧ v = true
      ∧ ∀ e : DoorId, s.isStrike e = true → s.cfg.doors[e].floor = f.val → s.dsq.doors[e] ≠ .failed := by
  have hnone : ¬ someFailed s f ↔
      ∀ e : DoorId, s.isStrike e = true → s.cfg.doors[e].floor = f.val → s.dsq.doors[e] ≠ .failed := by
    unfold someFailed
    simp only [not_exists, not_and, ne_eq]
  obtain ⟨-, -, hwrite, -⟩ := hnews
  rw [hwrite, ht, ← hnone]
  constructor
  · rintro (⟨rfl, hs, rfl | hs'⟩ | ⟨-, hs, ht⟩)
    · exact ⟨rfl, rfl, hs⟩
    · exact absurd hs' hs
    · exact absurd (.inr hs) ht
  · rintro ⟨rfl, rfl, hs⟩
    exact .inl ⟨rfl, hs, .inl rfl⟩

end

/-- The expiry of a verify timer fails its strike (R79, R81, R82). -/
theorem doorVerifyTimerExpiry_fails (d : DoorId) (f : FloorId) (s : State) (expiry : Nat)
    (hd : s.dsq.doors[d] = .verify expiry) (hdue : expiry ≤ s.now) (hstrike : s.isStrike d = true)
    (hfloor : s.cfg.doors[d].floor = f.val) :
    ∃ t, exec (.doorVerifyTimerExpiry d) s = .next t ∧ t = { s with dsq := t.dsq, deliveries := t.deliveries }
      ∧ t.dsq.doors = s.dsq.doors.set d.val .failed d.isLt ∧ t.dsq.groups = s.dsq.groups
      ∧ ∃ news, t.deliveries = s.deliveries ++ news
        ∧ (∀ k n, .troubleRaise k n ∈ news ↔ k = .doorFailed ∧ n = d.val)
        ∧ ∀ h v, .reentryImpairedWrite h v ∈ news ↔ h = f ∧ v = true
          ∧ ∀ e : DoorId, s.isStrike e = true → s.cfg.doors[e].floor = f.val → s.dsq.doors[e] ≠ .failed := by
  obtain ⟨t, ht, hframe, hdsq, hleaves⟩ := dsqEvent_quiet (s := s) (x := s)
    (f := fun s => s.setDoor d .failed) rfl (setDoor_dsqOnly s d .failed) rfl
  have hcfg : t.cfg = (s.setDoor d .failed).cfg := by rw [hframe]; rfl
  have hdoors : t.dsq.doors = s.dsq.doors.set d.val .failed d.isLt := by rw [hdsq]; rfl
  have hgroups : t.dsq.groups = s.dsq.groups := by rw [hdsq]; rfl
  have hfailed : ∀ h : FloorId, someFailed t h ↔ h = f ∨ someFailed s h := fun h =>
    (someFailed_congr hcfg hdsq h).trans (someFailed_setDoor hstrike hfloor h)
  have hexpired : s.due s.dsq.doors[d].verifyTimer = true := by
    rw [hd]
    exact due_some.2 hdue
  refine ⟨t, congrArg _ ((if_pos hexpired).trans ht), hframe, hdoors, hgroups, dsqNews s t ++ increaseOf .dsq s t,
    hleaves.1.trans (List.append_assoc _ _ _), fun k n => ?_, fun h v => ?_⟩
  · refine (mem_append_increaseOf (by nofun)).trans ?_
    exact raise_mem_of_failing (dsqNews_failedNews hgroups) hstrike (by rw [hd]; exact nofun) hdoors k n
  · refine (mem_append_increaseOf (by nofun)).trans ?_
    exact write_mem_of_failing (dsqNews_failedNews hgroups) hfailed h v

/-- Settles O33: the records that the end of a ramp and the expiry of a verify timer leave, and what their change delivers. -/
theorem strikesVerifyAndFail : Obligations.StrikesVerifyAndFail := by
  refine ⟨fun d g s ends hd hends hg => ?_, doorVerifyTimerExpiry_fails⟩
  obtain ⟨t, ht, hframe, hdoors, hgroups, hdoor, hgroup, hleaves⟩ := rampEnd_verifies d g s ends hd hends hg
  have hlast := anyRamp_setDoor (s := s) (d := d) (g := g) (afterRamp_inRamp s d)
  refine ⟨t, ht, hframe, hdoors, hgroups, fun h => hdoor.trans (afterRamp_unmonitored h),
    fun l h => hdoor.trans (afterRamp_monitored h), fun hno => ?_, fun hends hr => ?_, fun hends hr => ?_⟩
  · rw [hgroup]
    exact if_neg fun k => hno ⟨k.1, hlast.1 k.2⟩
  · have htaken : t.dsq.groups[g] = { s.dsq.groups[g] with takeover := .taken, limited := false } :=
      hgroup.trans ((if_pos ⟨hends.1, hlast.2 hends.2⟩).trans (if_pos hr))
    refine ⟨htaken, mem_of_leaves hleaves (List.mem_append_left _ (List.mem_append_right _ ?_))⟩
    exact mem_groupTroubles.2 ⟨g, .inr (.inl ⟨by rw [hends.1]; exact nofun, by rw [htaken], rfl⟩)⟩
  · exact hgroup.trans ((if_pos ⟨hends.1, hlast.2 hends.2⟩).trans (if_neg (ne_true_of_eq_false hr)))

end Sys2Proof.Machine
end

section
/-! SUPPORT. Release attempts (R89 to R91): one attempt, and the attempts of an event that appended entries. -/

namespace Sys2Proof.Machine

/-! ## One attempt -/

section
variable {s t u : State} {g : GroupId} {r : GroupRec} {d : DoorId}

theorem pauseAndCarry_eq (k : GroupCfg) (w carry : Nat) : pauseAndCarry k w carry = (gap k w carry, gapCarry k w carry) := by
  unfold pauseAndCarry gap
  rcases k.mode with _ | _ | _ <;> rfl

/-- An attempt sees the configuration and the time base. -/
theorem attempted_congr (hc : t.cfg = s.cfg) (hn : t.now = s.now) : attempted g r t u ↔ attempted g r s u := by
  unfold attempted
  rw [hc, hn]

theorem issuedDoor_congr (hc : t.cfg = s.cfg) : issuedDoor g r t = issuedDoor g r s := by
  unfold issuedDoor
  rw [hc]

/-- An attempt is a statement about its group and the strike that it issues. -/
theorem attempted_kept (h : attempted g r s t) (hg : u.dsq.groups[g] = t.dsq.groups[g])
    (hd : ∀ d, issuedDoor g r s = some d → u.dsq.doors[d] = t.dsq.doors[d]) : attempted g r s u := by
  unfold attempted at h ⊢
  unfold issuedDoor at hd
  split at h
  next e he =>
    rw [he] at hd
    exact ⟨(hd e.door rfl).trans h.1, hg.trans h.2⟩
  next => exact hg.trans h

theorem attempted_issued (h : attempted g r s t) (hd : issuedDoor g r s = some d) :
    t.dsq.doors[d] = .ramp (s.now + 50) := by
  unfold attempted at h
  unfold issuedDoor at hd
  split at h
  next e he =>
    rw [he] at hd
    cases hd
    exact h.1
  next he =>
    rw [he] at hd
    cases hd

theorem attempted_takeover (h : attempted g r s t) : t.dsq.groups[g].takeover = r.takeover := by
  unfold attempted at h
  split at h
  next => rw [h.2]
  next => rw [h]

/-- The strike that an attempt issues is one of the queue. -/
theorem mem_of_issuedDoor (h : issuedDoor g r s = some d) : ∃ e ∈ r.queue, e.door = d := by
  unfold issuedDoor at h
  obtain ⟨e, he, hd⟩ := Option.map_eq_some_iff.1 h
  exact ⟨e, List.mem_of_find?_eq_some he, hd⟩

theorem issuedDoor_group (hown : ∀ e ∈ r.queue, s.cfg.doors[e.door].group = g.val) (h : issuedDoor g r s = some d) :
    s.cfg.doors[d].group = g.val := by
  obtain ⟨e, he, rfl⟩ := mem_of_issuedDoor h
  exact hown e he

/-- A group that attempts a release: OWNED, in ALARM, with a queue that is not empty (R89). -/
structure MayAttempt (s : State) (g : GroupId) : Prop where
  alarm : s.inAlarm = true
  owned : s.dsq.groups[g].takeover = .owned
  entries : s.dsq.groups[g].queue.isEmpty = false

theorem attempt_issues {e : QueueEntry} (h : MayAttempt s g) (hf : s.fitting g = some e) :
    attempt g s = issueRelease g e s := by
  unfold attempt
  rw [h.alarm, h.owned, h.entries, hf]
  rfl

theorem attempt_limits (h : MayAttempt s g) (hf : s.fitting g = none) :
    attempt g s = (s.mapGroup g fun r => { r with limited := true }).raise .supplyLimit g.val := by
  unfold attempt
  rw [h.alarm, h.owned, h.entries, hf]
  rfl

/-- What a release attempt does (R90, R91). -/
theorem attempt_attempted (h : MayAttempt s g) :
    attempted g s.dsq.groups[g] s (attempt g s)
      ∧ (∀ a : GroupId, a ≠ g → (attempt g s).dsq.groups[a] = s.dsq.groups[a])
      ∧ (∀ d : DoorId, issuedDoor g s.dsq.groups[g] s ≠ some d → (attempt g s).dsq.doors[d] = s.dsq.doors[d])
      ∧ (attempt g s).deliveries = s.deliveries ++
          if issuedDoor g s.dsq.groups[g] s = none then [.troubleRaise .supplyLimit g.val] else [] := by
  have hissued : issuedDoor g s.dsq.groups[g] s = (s.fitting g).map (·.door) := rfl
  rw [hissued]
  cases hf : s.fitting g with
  | some e =>
    have hfind : s.dsq.groups[g].queue.find? _ = some e := hf
    unfold attempted
    rw [attempt_issues h hf, hfind]
    refine ⟨⟨set_fin_same _ _ _, (set_fin_same _ _ _).trans ?_⟩, fun a ha => set_fin_other _ _ ha,
      fun d hd => set_fin_other _ _ fun k => hd (congrArg some k.symm), (List.append_nil _).symm⟩
    simp only [issuedGroup, pauseAndCarry_eq, beq_iff_eq, State.after]
    rfl
  | none =>
    have hfind : s.dsq.groups[g].queue.find? _ = none := hf
    unfold attempted
    rw [attempt_limits h hf, hfind]
    exact ⟨set_fin_same _ _ _, fun a ha => set_fin_other _ _ ha, fun _ _ => rfl, rfl⟩

end

/-! ## The attempts of an event (R89) -/

section
variable {before u x : State} {g : GroupId} {done : List GroupId}

/-- A group that appended an entry and whose next release may be issued makes an attempt, when it is OWNED. -/
def triesAfter (before u : State) (g : GroupId) : Prop :=
  before.dsq.groups[g].queue.length < u.dsq.groups[g].queue.length
    ∧ u.dsq.groups[g].takeover = .owned ∧ u.dsq.groups[g].nextRelease ≤ u.now

/-- What the attempts of the groups `done` make of the state `u` in which entries have been appended. -/
structure AttemptsMade (before u : State) (done : List GroupId) (x : State) : Prop where
  frame : dsqOnly u x
  tried : ∀ g ∈ done, triesAfter before u g → attempted g u.dsq.groups[g] u x
  other : ∀ g : GroupId, ¬ (g ∈ done ∧ triesAfter before u g) → x.dsq.groups[g] = u.dsq.groups[g]
  doors : ∀ d : DoorId, (∀ g ∈ done, triesAfter before u g → issuedDoor g u.dsq.groups[g] u ≠ some d) →
    x.dsq.doors[d] = u.dsq.doors[d]
  raised : ∃ news, x.deliveries = u.deliveries ++ news ∧ ∀ e, e ∈ news ↔ ∃ g ∈ done, triesAfter before u g
    ∧ issuedDoor g u.dsq.groups[g] u = none ∧ e = .troubleRaise .supplyLimit g.val

theorem AttemptsMade.nil (before u : State) : AttemptsMade before u [] u where
  frame := dsqOnly.refl u
  tried := nofun
  other _ _ := rfl
  doors _ _ := rfl
  raised := ⟨[], (List.append_nil _).symm, by simp⟩

theorem attemptIfAppended_tries (hg : x.dsq.groups[g] = u.dsq.groups[g]) (hn : x.now = u.now) (h : triesAfter before u g) :
    attemptIfAppended before x g = attempt g x := by
  unfold attemptIfAppended
  rw [hg, hn]
  exact if_pos (by simpa using ⟨h.1, h.2.2⟩)

theorem attemptIfAppended_stays (hg : x.dsq.groups[g] = u.dsq.groups[g]) (hn : x.now = u.now)
    (h : ¬ triesAfter before u g) :
    attemptIfAppended before x g = x := by
  unfold attemptIfAppended
  rw [hg, hn]
  split
  next hc =>
    have ho : u.dsq.groups[g].takeover ≠ .owned := fun ho => by
      simp only [Bool.and_eq_true, decide_eq_true_eq] at hc
      exact h ⟨hc.1, ho, hc.2⟩
    unfold attempt
    rw [hg, beq_eq_false_iff_ne.2 ho]
    rfl
  next => rfl

/-- The turn of one more group, whose strikes are not those of the groups before it. -/
theorem AttemptsMade.cons (h : AttemptsMade before u done x) (hg : g ∉ done) (ha : u.inAlarm = true)
    (hown : ∀ a : GroupId, ∀ e ∈ u.dsq.groups[a].queue, u.cfg.doors[e.door].group = a.val) :
    AttemptsMade before u (g :: done) (attemptIfAppended before x g) := by
  have hcfg : x.cfg = u.cfg := by rw [h.frame]
  have hnow : x.now = u.now := by rw [h.frame]
  have hrge : x.rge = u.rge := by rw [h.frame]
  have hrec : x.dsq.groups[g] = u.dsq.groups[g] := h.other g fun k => hg k.1
  by_cases ht : triesAfter before u g
  · have hmay : MayAttempt x g := by
      refine ⟨?_, ?_, ?_⟩
      · unfold State.inAlarm
        rw [hrge]
        exact ha
      · rw [hrec]
        exact ht.2.1
      · rw [hrec]
        exact List.isEmpty_eq_false_iff.2 (List.ne_nil_of_length_pos (Nat.zero_lt_of_lt ht.1))
    obtain ⟨hmade, hother, hdoors, hnews⟩ := attempt_attempted hmay
    rw [attemptIfAppended_tries hrec hnow ht]
    rw [hrec, attempted_congr hcfg hnow] at hmade
    rw [hrec, issuedDoor_congr hcfg] at hnews
    simp only [hrec, issuedDoor_congr hcfg] at hdoors
    refine ⟨h.frame.trans (attempt_dsqOnly x g), fun a hmem hta => ?_, fun a hno => ?_, fun d hno => ?_, ?_⟩
    · obtain rfl | hmem := List.mem_cons.1 hmem
      · exact hmade
      · have hne : a ≠ g := fun k => hg (k ▸ hmem)
        refine attempted_kept (h.tried a hmem hta) (hother a hne) fun d hd => hdoors d fun hd' => ?_
        exact hne (Fin.ext ((issuedDoor_group (hown a) hd).symm.trans (issuedDoor_group (hown g) hd')))
    · have hne : a ≠ g := fun k => hno (k.symm ▸ ⟨List.mem_cons_self, ht⟩)
      exact (hother a hne).trans (h.other a fun k => hno ⟨List.mem_cons_of_mem _ k.1, k.2⟩)
    · exact (hdoors d (hno g List.mem_cons_self ht)).trans
        (h.doors d fun a hmem => hno a (List.mem_cons_of_mem _ hmem))
    · obtain ⟨news, hdel, hmem⟩ := h.raised
      refine ⟨news ++ if issuedDoor g u.dsq.groups[g] u = none then [.troubleRaise .supplyLimit g.val] else [],
        by rw [hnews, hdel, List.append_assoc], fun e => ?_⟩
      rw [List.mem_append, hmem, List.mem_ite_nil_right, List.mem_singleton, or_comm]
      simp only [List.mem_cons, exists_eq_or_imp, ht, true_and]
  · rw [attemptIfAppended_stays hrec hnow ht]
    have hmem : ∀ a : GroupId, triesAfter before u a → (a ∈ g :: done ↔ a ∈ done) := fun a hta =>
      List.mem_cons.trans (or_iff_right fun k => ht (k ▸ hta))
    obtain ⟨news, hdel, hnews⟩ := h.raised
    refine ⟨h.frame, fun a ha hta => h.tried a ((hmem a hta).1 ha) hta,
      fun a hno => h.other a fun k => hno ⟨(hmem a k.2).2 k.1, k.2⟩,
      fun d hno => h.doors d fun a ha hta => hno a ((hmem a hta).2 ha) hta, news, hdel, fun e => (hnews e).trans ?_⟩
    exact exists_congr fun a => ⟨fun k => ⟨(hmem a k.2.1).2 k.1, k.2⟩, fun k => ⟨(hmem a k.2.1).1 k.1, k.2⟩⟩

/-- The attempts of groups, in turn. -/
theorem AttemptsMade.foldl (ha : u.inAlarm = true)
    (hown : ∀ a : GroupId, ∀ e ∈ u.dsq.groups[a].queue, u.cfg.doors[e.door].group = a.val) {gs : List GroupId}
    (hgs : gs.Nodup) (hdone : ∀ g ∈ gs, g ∉ done) (h : AttemptsMade before u done x) :
    AttemptsMade before u (gs.reverse ++ done) (gs.foldl (attemptIfAppended before) x) := by
  induction gs generalizing done x with
  | nil => exact h
  | cons g gs ih =>
    obtain ⟨hg, hgs⟩ := List.nodup_cons.1 hgs
    rw [List.reverse_cons, List.append_assoc]
    refine ih hgs (fun a hmem => ?_) (h.cons (hdone g List.mem_cons_self) ha hown)
    exact List.not_mem_cons_of_ne_of_not_mem (fun k => hg (k ▸ hmem)) (hdone a (List.mem_cons_of_mem _ hmem))

theorem attemptsAfter_made (before u : State) (ha : u.inAlarm = true)
    (hown : ∀ a : GroupId, ∀ e ∈ u.dsq.groups[a].queue, u.cfg.doors[e.door].group = a.val) :
    AttemptsMade before u ((List.finRange 4).reverse ++ []) (attemptsAfter before u) :=
  (AttemptsMade.nil before u).foldl ha hown (List.nodup_finRange 4) fun _ _ => List.not_mem_nil

end

end Sys2Proof.Machine
end

section
/-! SUPPORT. What queueing strikes and promoting entries makes of the doors and queues (R73 to R75), and the attempts behind it
(R89, R90). -/

namespace Sys2Proof.Machine

/-! ## Strikes queued and entries promoted (R74, R75) -/

section
variable {s : State} {names : DoorId → Bool} {fs floors : List FloorId} {g : GroupId} {d : DoorId}

theorem queueable_iff : s.queueable names d = true ↔
    s.isStrike d = true ∧ names d = true ∧ s.dsq.doors[d] = .secured := by
  unfold State.queueable
  rw [Bool.and_eq_true, Bool.and_eq_true, beq_iff_eq, and_assoc]

theorem dropMagnets_door (d : DoorId) : (dropMagnets fs s).dsq.doors[d] =
    if s.isMagnet d = true ∧ s.doorOn fs d = true ∧ s.dsq.doors[d] = .holding then .dropped else s.dsq.doors[d] := by
  unfold dropMagnets
  rw [withDsq_dsq, tab_fin]
  simp only [Bool.and_eq_true, beq_iff_eq, and_assoc]

/-- Dropping magnets leaves the strikes. -/
theorem dropMagnets_strike (h : s.isStrike d = true) : (dropMagnets fs s).dsq.doors[d] = s.dsq.doors[d] := by
  rw [dropMagnets_door, if_neg fun k => ne_true_of_eq_false (not_isMagnet_of_isStrike h) k.1]

theorem dropMagnets_isStrike (d : DoorId) : (dropMagnets fs s).isStrike d = s.isStrike d := withDsq_isStrike s _ d

theorem dropMagnets_strikeOf (g : GroupId) (d : DoorId) : (dropMagnets fs s).strikeOf g d = s.strikeOf g d :=
  withDsq_strikeOf s _ g d

theorem dropMagnets_floorClass (n : Nat) : (dropMagnets fs s).floorClass n = s.floorClass n := withDsq_floorClass s _ n

theorem dropMagnets_cfg : (dropMagnets fs s).cfg = s.cfg := withDsq_cfg s _

theorem dropMagnets_groups : (dropMagnets fs s).dsq.groups = s.dsq.groups := by
  unfold dropMagnets
  rw [withDsq_dsq]

theorem queueable_dropMagnets : (dropMagnets fs s).queueable names d = s.queueable names d := by
  rw [Bool.eq_iff_iff, queueable_iff, queueable_iff, dropMagnets_isStrike]
  exact and_congr_right fun h => by rw [dropMagnets_strike h]

/-- The queue of a group behind an event that queues the strikes `names` and promotes entries of `floors`. -/
def requeuedQueue (names : DoorId → Bool) (floors : List FloorId) (s : State) (g : GroupId) : List QueueEntry :=
  promoteQueue floors s ((newEntries s names g).foldl insertEntry s.dsq.groups[g].queue)

/-- The records of a phase change before its attempts: magnets of `fs` drop, the strikes `names` are queued, entries of `floors`
are promoted (R73 to R75). RELEASE ALL DOORS is the case without floors. -/
def requeuedState (fs : List FloorId) (names : DoorId → Bool) (floors : List FloorId) (s : State) : State :=
  promote floors (queueStrikes names (dropMagnets fs s))

theorem requeuedState_dsqOnly : dsqOnly s (requeuedState fs names floors s) :=
  ((dropMagnets_dsqOnly s fs).trans (queueStrikes_dsqOnly _ names)).trans (promote_dsqOnly _ floors)

theorem requeuedState_deliveries : (requeuedState fs names floors s).deliveries = s.deliveries := by
  unfold requeuedState promote queueStrikes dropMagnets
  simp only [withDsq_deliveries]

theorem newEntries_dropMagnets : newEntries (dropMagnets fs s) names g = newEntries s names g := by
  unfold newEntries
  simp only [queueable_dropMagnets, dropMagnets_strikeOf, dropMagnets_floorClass, dropMagnets_cfg]

theorem promote_doors : (promote floors s).dsq.doors = s.dsq.doors := by
  unfold promote
  rw [withDsq_dsq]

theorem promote_group (g : GroupId) : (promote floors s).dsq.groups[g] =
    { s.dsq.groups[g] with queue := promoteQueue floors s s.dsq.groups[g].queue } := by
  unfold promote
  rw [withDsq_dsq, tab_fin]

theorem promoteQueue_withDsq (s : State) (b : Dsq) (q : List QueueEntry) :
    promoteQueue floors (s.withDsq b) q = promoteQueue floors s q := rfl

/-- The record of a group behind that event. -/
def requeuedGroup (names : DoorId → Bool) (floors : List FloorId) (s : State) (g : GroupId) : GroupRec :=
  { s.dsq.groups[g] with queue := requeuedQueue names floors s g }

/-- The state of a door point behind that event. -/
def requeuedDoor (fs : List FloorId) (names : DoorId → Bool) (s : State) (d : DoorId) : DoorState :=
  if s.isMagnet d = true ∧ s.doorOn fs d = true ∧ s.dsq.doors[d] = .holding then .dropped
  else if s.isStrike d = true ∧ names d = true ∧ s.dsq.doors[d] = .secured then .queued
  else s.dsq.doors[d]

theorem requeuedState_group (g : GroupId) :
    (requeuedState fs names floors s).dsq.groups[g] = requeuedGroup names floors s g := by
  have hqueued : (queueStrikes names (dropMagnets fs s)).dsq.groups[g] =
      { s.dsq.groups[g] with queue := (newEntries s names g).foldl insertEntry s.dsq.groups[g].queue } := by
    unfold queueStrikes
    rw [withDsq_dsq, tab_fin, newEntries_dropMagnets, dropMagnets_groups]
  have hpromote : ∀ q, promoteQueue floors (queueStrikes names (dropMagnets fs s)) q = promoteQueue floors s q := fun q =>
    (promoteQueue_withDsq _ _ q).trans (promoteQueue_withDsq _ _ q)
  unfold requeuedState
  rw [promote_group, hpromote, hqueued]
  rfl

theorem requeuedState_door (d : DoorId) : (requeuedState fs names floors s).dsq.doors[d] = requeuedDoor fs names s d := by
  have hdoor : (requeuedState fs names floors s).dsq.doors[d] =
      if s.queueable names d = true then .queued else (dropMagnets fs s).dsq.doors[d] := by
    rw [← queueable_dropMagnets (fs := fs)]
    exact tab_fin _ d
  unfold requeuedDoor
  rw [hdoor, dropMagnets_door]
  by_cases hq : s.queueable names d = true
  · have hstrike := queueable_iff.1 hq
    rw [if_pos hq, if_neg fun k => ne_true_of_eq_false (not_isMagnet_of_isStrike hstrike.1) k.1, if_pos hstrike]
  · have hno : ¬ (s.isStrike d = true ∧ names d = true ∧ s.dsq.doors[d] = .secured) := fun k => hq (queueable_iff.2 k)
    rw [if_neg hq, if_neg hno]

/-- The event keeps the FAILED strikes. -/
theorem requeuedDoor_failed (h : s.isStrike d = true) : requeuedDoor fs names s d = .failed ↔ s.dsq.doors[d] = .failed := by
  unfold requeuedDoor
  rw [if_neg fun k => ne_true_of_eq_false (not_isMagnet_of_isStrike h) k.1]
  split
  next hs => rw [hs.2.2]; exact iff_of_false nofun nofun
  next => exact Iff.rfl

/-! ## The new queue (R74, R75, log entry 14) -/

theorem mem_newEntries {e : QueueEntry} : e ∈ newEntries s names g ↔ s.strikeOf g e.door = true
    ∧ s.dsq.doors[e.door] = .secured ∧ names e.door = true ∧ e.cls = s.floorClass s.cfg.doors[e.door].floor := by
  unfold newEntries
  simp only [List.mem_map, List.mem_filter, List.mem_finRange, true_and, Bool.and_eq_true, queueable_iff]
  constructor
  · rintro ⟨d, ⟨hg, -, hn, hs⟩, rfl⟩
    exact ⟨hg, hs, hn, rfl⟩
  · rintro ⟨hg, hs, hn, hc⟩
    exact ⟨e.door, ⟨hg, ((strikeOf_iff s g e.door).1 hg).1, hn, hs⟩, by rw [← hc]⟩

theorem requeuedQueue_doors (names : DoorId → Bool) (floors : List FloorId) (s : State) (g : GroupId) :
    ((requeuedQueue names floors s g).map (·.door)).Perm
      ((newEntries s names g ++ s.dsq.groups[g].queue).map (·.door)) :=
  (promoteQueue_doors _ _ _).trans ((insertEntries_perm _ _).map _)

/-- A queue grows exactly when a SECURED strike of its group is named. -/
theorem length_lt_requeuedQueue : s.dsq.groups[g].queue.length < (requeuedQueue names floors s g).length ↔
    ∃ d : DoorId, s.strikeOf g d = true ∧ s.dsq.doors[d] = .secured ∧ names d = true := by
  have hlen : (requeuedQueue names floors s g).length = (newEntries s names g).length + s.dsq.groups[g].queue.length := by
    simpa using (requeuedQueue_doors names floors s g).length_eq
  rw [hlen, Nat.lt_add_left_iff_pos, List.length_pos_iff_exists_mem]
  constructor
  · rintro ⟨e, he⟩
    obtain ⟨hg, hs, hn, -⟩ := mem_newEntries.1 he
    exact ⟨e.door, hg, hs, hn⟩
  · rintro ⟨d, hg, hs, hn⟩
    exact ⟨⟨d, s.floorClass s.cfg.doors[d].floor⟩, mem_newEntries.2 ⟨hg, hs, hn, rfl⟩⟩

/-- The entries of the new queue name strikes of the group that were SECURED or QUEUED. -/
theorem requeuedQueue_strikes (h : queuesInOrder s) {e : QueueEntry} (he : e ∈ requeuedQueue names floors s g) :
    s.strikeOf g e.door = true ∧ s.dsq.doors[e.door] ≠ .failed := by
  have hall : ∀ d ∈ (newEntries s names g ++ s.dsq.groups[g].queue).map (·.door),
      s.strikeOf g d = true ∧ s.dsq.doors[d] ≠ .failed := by
    intro d hd
    obtain ⟨a, ha, rfl⟩ := List.mem_map.1 hd
    obtain ha | ha := List.mem_append.1 ha
    · obtain ⟨hg, hs, -, -⟩ := mem_newEntries.1 ha
      exact ⟨hg, by rw [hs]; exact nofun⟩
    · obtain ⟨-, -, hentries⟩ := h g
      obtain ⟨hg, hq⟩ := hentries a ha
      exact ⟨hg, by rw [hq]; exact nofun⟩
  exact hall _ ((requeuedQueue_doors names floors s g).subset (List.mem_map_of_mem he))

/-- A new entry already has the class of its floor. -/
theorem promotable_newEntry {e : QueueEntry} (he : e ∈ newEntries s names g) : promotable floors s e = false := by
  obtain ⟨-, -, -, hclass⟩ := mem_newEntries.1 he
  unfold promotable
  rw [hclass, decide_eq_false (lt_irrefl _), Bool.and_false]

theorem newEntries_class (k : Nat) : (newEntries s names g).filter (fun e => decide (e.cls = k)) =
    ((List.finRange 128).filter fun d => s.strikeOf g d && decide (s.dsq.doors[d] = .secured) && names d
      && decide (s.floorClass s.cfg.doors[d].floor = k)).map (⟨·, k⟩) := by
  unfold newEntries
  rw [List.filter_map, List.filter_filter]
  have hsame : ∀ d : DoorId,
      (((fun e : QueueEntry => decide (e.cls = k)) ∘ fun d => ⟨d, s.floorClass s.cfg.doors[d].floor⟩) d
          && (s.strikeOf g d && s.queueable names d)) =
        (s.strikeOf g d && decide (s.dsq.doors[d] = .secured) && names d
          && decide (s.floorClass s.cfg.doors[d].floor = k)) := fun d => by
    rw [Bool.eq_iff_iff]
    simp only [Function.comp_apply, Bool.and_eq_true, decide_eq_true_eq, queueable_iff]
    constructor
    · rintro ⟨hk, hg, -, hn, hs⟩
      exact ⟨⟨⟨hg, hs⟩, hn⟩, hk⟩
    · rintro ⟨⟨⟨hg, hs⟩, hn⟩, hk⟩
      exact ⟨hk, hg, ((strikeOf_iff s g d).1 hg).1, hn, hs⟩
  rw [List.filter_congr fun d _ => hsame d]
  refine List.map_congr_left fun d hd => ?_
  simp only [List.mem_filter, Bool.and_eq_true, decide_eq_true_eq] at hd
  rw [hd.2.2]

/-- In each class stand the entries that keep it, then the new ones, then the promoted ones. -/
theorem requeuedQueue_requeued {touched : Nat → Bool} (ht : ∀ n, touched n = floors.any fun f => n == f.val) :
    requeued g names touched s (requeuedQueue names floors s g) := by
  intro hord
  have hpromoted : ∀ e, (touched s.cfg.doors[e.door].floor
      && decide (s.floorClass s.cfg.doors[e.door].floor < e.cls)) = promotable floors s e := fun e => by
    rw [ht]
    rfl
  have hnew : ∀ e ∈ newEntries s names g, promotable floors s e = false := fun e he => promotable_newEntry he
  simp only [hpromoted]
  refine ⟨promoteQueue_inClassOrder (insertEntries_inClassOrder hord), fun k => ?_⟩
  have hkept : ((newEntries s names g).foldl insertEntry s.dsq.groups[g].queue).filter
        (fun e => decide (e.cls = k) && !promotable floors s e) =
      (s.dsq.groups[g].queue.filter fun e => decide (e.cls = k) && !promotable floors s e)
        ++ (newEntries s names g).filter fun e => decide (e.cls = k) := by
    simp only [Bool.and_comm (decide _), ← List.filter_filter]
    rw [insertEntries_class hord, List.filter_append]
    congr 1
    exact List.filter_eq_self.2 fun e he => by rw [hnew e (List.mem_filter.1 he).1]; rfl
  unfold requeuedQueue
  rw [promoteQueue_class (insertEntries_inClassOrder hord), hkept, newEntries_class,
    insertEntries_filter fun e he => by rw [hnew e he]; rfl]

end

/-! ## The attempts behind it (R89, R90) -/

section
variable {s t : State} {fs : List FloorId} {names : DoorId → Bool} {floors : List FloorId}

/-- A group that appends an entry and whose next release may be issued makes an attempt, when it is OWNED (R89). -/
def attemptsRelease (names : DoorId → Bool) (s : State) (g : GroupId) : Prop :=
  (∃ d : DoorId, s.strikeOf g d = true ∧ s.dsq.doors[d] = .secured ∧ names d = true)
    ∧ s.dsq.groups[g].takeover = .owned ∧ s.dsq.groups[g].nextRelease ≤ s.now

/-- What an event that queues and promotes leaves in `t` and delivers: each group as the event or its attempt leaves it, SUPPLY
LIMIT by the attempts, and each door that no attempt issues. -/
structure AttemptsLeft (fs : List FloorId) (names : DoorId → Bool) (floors : List FloorId) (s t : State)
    (news : List Instr) : Prop where
  tried : ∀ g, attemptsRelease names s g → attempted g (requeuedGroup names floors s g) s t
  other : ∀ g, ¬ attemptsRelease names s g → t.dsq.groups[g] = requeuedGroup names floors s g
  supply : supplyNews (fun g => attemptsRelease names s g ∧ issuedDoor g (requeuedGroup names floors s g) s = none) s t news
  doors : ∀ d : DoorId, (∀ g, attemptsRelease names s g → issuedDoor g (requeuedGroup names floors s g) s ≠ some d) →
    t.dsq.doors[d] = requeuedDoor fs names s d

/-- What the attempts leave does not depend on the ports, the Configuration Store or what was on its way. -/
theorem AttemptsLeft.of_bookkeeping {x : State} {l : Links} {c : Cfs} {way news : List Instr}
    (hx : x = { s with links := l, cfs := c, deliveries := way })
    (h : AttemptsLeft fs names floors x t (news ++ dsqNews x t)) :
    AttemptsLeft fs names floors s t (news ++ dsqNews s t) := by
  have hnews : dsqNews x t = dsqNews s t := by
    subst hx
    exact dsqNews_congr rfl rfl rfl rfl
  rw [hnews] at h
  subst hx
  exact ⟨h.tried, h.other, h.supply, h.doors⟩

theorem triesAfter_requeuedState (g : GroupId) :
    triesAfter s (requeuedState fs names floors s) g ↔ attemptsRelease names s g := by
  have hnow : (requeuedState fs names floors s).now = s.now := by rw [requeuedState_dsqOnly (s := s)]
  unfold triesAfter attemptsRelease
  rw [requeuedState_group, hnow]
  exact and_congr_left' length_lt_requeuedQueue

/-- Behind the attempts a group has the takeover state that it had. -/
theorem takeover_of_attempts (htried : ∀ g, attemptsRelease names s g → attempted g (requeuedGroup names floors s g) s t)
    (hother : ∀ g, ¬ attemptsRelease names s g → t.dsq.groups[g] = requeuedGroup names floors s g) (g : GroupId) :
    t.dsq.groups[g].takeover = s.dsq.groups[g].takeover := by
  by_cases hg : attemptsRelease names s g
  · exact (attempted_takeover (htried g hg)).trans rfl
  · rw [hother g hg]
    rfl

/-- Behind the attempts the strikes that were FAILED are FAILED: an attempt issues a strike that was not. -/
theorem keepsFailed_of_attempts (hord : queuesInOrder s)
    (htried : ∀ g, attemptsRelease names s g → attempted g (requeuedGroup names floors s g) s t)
    (hdoors : ∀ d : DoorId, (∀ g, attemptsRelease names s g → issuedDoor g (requeuedGroup names floors s g) s ≠ some d) →
      t.dsq.doors[d] = requeuedDoor fs names s d) : keepsFailed s t := by
  intro d hd
  by_cases hissued : ∃ g, attemptsRelease names s g ∧ issuedDoor g (requeuedGroup names floors s g) s = some d
  · obtain ⟨g, hg, hi⟩ := hissued
    obtain ⟨e, he, rfl⟩ := mem_of_issuedDoor hi
    rw [attempted_issued (htried g hg) hi]
    exact iff_of_false nofun (requeuedQueue_strikes hord he).2
  · rw [hdoors d fun g hg hi => hissued ⟨g, hg, hi⟩]
    exact requeuedDoor_failed hd

/-- The attempts of the groups that appended entries, stated of every state that has the doors and groups they leave. -/
theorem requeuedState_attempts (hin : s.inAlarm = true) (hord : queuesInOrder s) :
    ∃ raised, (attemptsAfter s (requeuedState fs names floors s)).deliveries = s.deliveries ++ raised
      ∧ ∀ t : State, t.cfg = s.cfg → t.dsq = (attemptsAfter s (requeuedState fs names floors s)).dsq →
        AttemptsLeft fs names floors s t (raised ++ dsqNews s t) := by
  have hframe := requeuedState_dsqOnly (s := s) (fs := fs) (names := names) (floors := floors)
  have hdel := requeuedState_deliveries (s := s) (fs := fs) (names := names) (floors := floors)
  have hgroup := requeuedState_group (s := s) (fs := fs) (names := names) (floors := floors)
  have hdoor := requeuedState_door (s := s) (fs := fs) (names := names) (floors := floors)
  have htries := triesAfter_requeuedState (s := s) (fs := fs) (names := names) (floors := floors)
  generalize requeuedState fs names floors s = u at hframe hdel hgroup hdoor htries ⊢
  have hcfg : u.cfg = s.cfg := by rw [hframe]
  have hnow : u.now = s.now := by rw [hframe]
  have hrge : u.rge = s.rge := by rw [hframe]
  have hmade := attemptsAfter_made s u (by unfold State.inAlarm; rw [hrge]; exact hin) fun g e he => by
    rw [hgroup] at he
    rw [hcfg]
    exact ((strikeOf_iff _ _ _).1 (requeuedQueue_strikes hord he).1).2
  have hmem : ∀ g : GroupId, g ∈ (List.finRange 4).reverse ++ [] := fun g =>
    List.mem_append_left _ (List.mem_reverse.2 (List.mem_finRange g))
  obtain ⟨raised, hraised, hnews⟩ := hmade.raised
  refine ⟨raised, by rw [hraised, hdel], fun t htc htd => ?_⟩
  have htried : ∀ g, attemptsRelease names s g → attempted g (requeuedGroup names floors s g) s t := fun g hg => by
    have h := hmade.tried g (hmem g) ((htries g).2 hg)
    rw [hgroup, attempted_congr hcfg hnow] at h
    exact attempted_kept h (by rw [htd]) fun d _ => by rw [htd]
  have hother : ∀ g, ¬ attemptsRelease names s g → t.dsq.groups[g] = requeuedGroup names floors s g := fun g hg => by
    rw [htd, hmade.other g fun k => hg ((htries g).1 k.2), hgroup]
  have hdoors : ∀ d : DoorId,
      (∀ g, attemptsRelease names s g → issuedDoor g (requeuedGroup names floors s g) s ≠ some d) →
      t.dsq.doors[d] = requeuedDoor fs names s d := fun d hd => by
    rw [htd, ← hdoor]
    refine hmade.doors d fun g _ hg => ?_
    rw [hgroup, issuedDoor_congr hcfg]
    exact hd g ((htries g).1 hg)
  refine ⟨htried, hother, ?_, hdoors⟩
  rw [dsqNews_keepsFailed htc (keepsFailed_of_attempts hord htried hdoors)]
  refine supplyNews_of_takeover (takeover_of_attempts htried hother) fun e => (hnews e).trans (exists_congr fun g => ?_)
  rw [htries, hgroup, issuedDoor_congr hcfg, and_assoc]
  exact and_iff_right (hmem g)

end

end Sys2Proof.Machine
end

section
/-! PROOF. Phase changes, list appends and RELEASE ALL DOORS at DSQ (R72 to R76, R89, R90). -/

namespace Sys2Proof.Machine

/-! ## Phase changes (R72 to R75) -/

section
variable {s : State} {fs : List (FloorId × Phase)}

/-- A door point lies on a floor that a phase change raises, by the phase that it carries (log entry 54). -/
def onRaisedFloor (fs : List (FloorId × Phase)) (s : State) (d : DoorId) : Bool :=
  fs.any fun x => x.2 != .quiet && x.1.val == s.cfg.doors[d].floor

theorem doorOn_raisedFloors (fs : List (FloorId × Phase)) (s : State) :
    s.doorOn (raisedFloors fs) = onRaisedFloor fs s := by
  funext d
  unfold State.doorOn raisedFloors onRaisedFloor
  simp only [List.any_map, List.any_filter, Function.comp_def, Bool.beq_comm (a := s.cfg.doors[d].floor)]

theorem phaseChangeAtDsq_alarm (h : s.inAlarm = true) : phaseChangeAtDsq fs s =
    attemptsAfter s (requeuedState (raisedFloors fs) (onRaisedFloor fs s) (fs.map Prod.fst) s) := by
  rw [← doorOn_raisedFloors]
  exact if_pos h

theorem phaseChangeAtDsq_discarded (h : s.inAlarm = false) : phaseChangeAtDsq fs s = s :=
  if_neg (ne_true_of_eq_false h)

end

/-! ## List appends (R72, R75) -/

section
variable {s : State} {f : FloorId}

theorem newEntries_none (s : State) (g : GroupId) : newEntries s (fun _ => false) g = [] :=
  List.eq_nil_iff_forall_not_mem.2 fun _ he => by
    obtain ⟨-, -, hnamed, -⟩ := mem_newEntries.1 he
    cases hnamed

/-- A list append changes the queues alone, so it delivers nothing. -/
theorem dsqListAppend_promotes (f : FloorId) (s : State) (h : s.takes (.dsqListAppend f) = true) :
    ∃ t, exec (.dsqListAppend f) s = .next t ∧ t = { s with dsq := t.dsq, deliveries := t.deliveries }
      ∧ leaves .dsq (without s (.dsqListAppend f)) [] s t ∧ t.dsq.doors = s.dsq.doors
      ∧ (s.inAlarm = false → t.dsq = s.dsq)
      ∧ (s.inAlarm = true → ∀ g : GroupId,
          t.dsq.groups[g] = { s.dsq.groups[g] with queue := t.dsq.groups[g].queue }
          ∧ requeued g (fun _ => false) (fun floor => floor == f.val) s t.dsq.groups[g].queue) := by
  have hact : ∀ x : State, dsqOnly x (if x.inAlarm then promote [f] x else x)
      ∧ (if x.inAlarm then promote [f] x else x).deliveries = x.deliveries := fun x => by
    split
    · exact ⟨promote_dsqOnly x [f], withDsq_deliveries _ _⟩
    · exact ⟨dsqOnly.refl x, rfl⟩
  obtain ⟨t, ht, hframe, hdsq, hleaves⟩ := dsqDelivery_quiet (f := fun s => if s.inAlarm then promote [f] s else s) h
    (hact _).1 (hact _).2
  have halarm : s.inAlarm = true → t.dsq = (promote [f] (s.taken (.dsqListAppend f))).dsq := fun hin =>
    hdsq.trans (congrArg State.dsq (if_pos hin))
  have hquiet : s.inAlarm = false → t.dsq = (s.taken (.dsqListAppend f)).dsq := fun hin =>
    hdsq.trans (congrArg State.dsq (if_neg (ne_true_of_eq_false hin)))
  have hdoors : t.dsq.doors = s.dsq.doors := by
    cases hin : s.inAlarm with
    | true => rw [halarm hin, promote_doors]; rfl
    | false => rw [hquiet hin]; rfl
  have hqueue : s.inAlarm = true → ∀ g : GroupId, t.dsq.groups[g] =
      { s.dsq.groups[g] with queue := promoteQueue [f] s s.dsq.groups[g].queue } := fun hin g => by
    rw [halarm hin, promote_group]
    rfl
  have hnews : dsqNews s t = [] := by
    rw [dsqNews_keepsFailed (by rw [hframe]) fun d _ => by rw [hdoors]]
    refine groupTroubles_same fun g => ?_
    cases hin : s.inAlarm with
    | true => rw [hqueue hin]; exact ⟨rfl, rfl⟩
    | false => rw [hquiet hin]; exact ⟨rfl, rfl⟩
  rw [hnews] at hleaves
  refine ⟨t, congrArg _ ht, hframe, hleaves, hdoors, hquiet, fun hin g => ?_⟩
  have hrequeued := requeuedQueue_requeued (s := s) (g := g) (names := fun _ => false) (floors := [f])
    (touched := fun floor => floor == f.val) fun n => (Bool.or_false _).symm
  unfold requeuedQueue at hrequeued
  rw [newEntries_none] at hrequeued
  rw [hqueue hin]
  exact ⟨rfl, hrequeued⟩

end

/-! ## RELEASE ALL DOORS (R76) -/

section
variable {s : State} {p : PortId}

theorem dropMagnets_nil (s : State) : dropMagnets [] s = s := by
  have hsame : (tab fun d => if s.isMagnet d && s.doorOn [] d && s.dsq.doors[d] == .holding then DoorState.dropped
      else s.dsq.doors[d]) = s.dsq.doors := table_ext fun d => by
    have hnone : s.doorOn [] d = false := rfl
    rw [tab_fin, hnone, Bool.and_false, Bool.false_and]
    rfl
  unfold dropMagnets
  rw [hsame]
  rfl

theorem cmdReleaseAllDoors_alarm (h : s.inAlarm = true) : cmdReleaseAllDoors s =
    (attemptsAfter s (requeuedState [] (fun _ => true) [] s), .accepted) := by
  unfold requeuedState
  rw [dropMagnets_nil, promote_nil]
  exact if_pos h

theorem cmdReleaseAllDoors_refused (h : s.inAlarm = false) : cmdReleaseAllDoors s = (s, .state) :=
  if_neg (ne_true_of_eq_false h)

theorem serveCommand_releaseAllDoors (hr : s.role p = .commandStation) :
    serveCommand p 18 [] s = cmdReleaseAllDoors s := by
  unfold serveCommand
  rw [hr]
  rfl

/-- RELEASE ALL DOORS as one event of DSQ (R161, R165). -/
theorem releaseAllDoors_next (h : canAsk p .dsq s) (hr : s.role p = .commandStation) :
    ∃ t, exec (.releaseAllDoors p []) s = .next t ∧ dsqServed p s t
      ∧ answers p (commandAnswer 18 (cmdReleaseAllDoors (asked p s)).2) s t
      ∧ leaves .dsq (cmdReleaseAllDoors (asked p s)).1.deliveries (dsqNews s t) s t
      ∧ t.dsq = (cmdReleaseAllDoors (asked p s)).1.dsq := by
  have hcheck : s.requestCheck p 3 [18] = none := by
    unfold State.requestCheck
    rw [h.2.1, hr]
    rfl
  have hhome : serveHome p 3 [18] s = .dsq := by
    rw [serveHome, hcheck]
    show commandHome p 18 s = .dsq
    unfold commandHome
    rw [hr]
    rfl
  have hserve := serveCommand_releaseAllDoors (s := asked p s) (p := p) (by rw [State.role, asked_cfg h.2.1]; exact hr)
  obtain ⟨t, ht, hserved, hanswers, hleaves, hdsq⟩ := dsq_request_ends (p := p) h.2.1
    (f := fun x => prepare p (commandAnswer 18 (serveCommand p 18 [] (presenceOnFrame p x)).2) (s.instantAt 0)
      (serveCommand p 18 [] (presenceOnFrame p x)).1) (by
        show prepare p (commandAnswer 18 (serveCommand p 18 [] (asked p s)).2) (s.instantAt 0)
          (serveCommand p 18 [] (asked p s)).1 = _
        rw [hserve]) (cmdReleaseAllDoors_dsqOnly (asked p s))
  exact ⟨t, (request_served rfl h (by simp) hcheck hhome (.inl (by decide))).trans (congrArg _ ht), hserved, hanswers,
    hleaves, hdsq⟩

end

/-- A phase change in ALARM: the queues as the event leaves them, and behind them the attempts. -/
theorem dsqPhaseChange_alarm (fs : List (FloorId × Phase)) (s : State) (h : s.takes (.dsqPhaseChange fs) = true)
    (hord : queuesInOrder s) (hin : s.inAlarm = true) : ∃ t news, exec (.dsqPhaseChange fs) s = .next t ∧ dsqOnly s t
      ∧ leaves .dsq (without s (.dsqPhaseChange fs)) news s t
      ∧ AttemptsLeft (raisedFloors fs) (onRaisedFloor fs s) (fs.map Prod.fst) s t news := by
  have hact := phaseChangeAtDsq_alarm (fs := fs) (s := s.taken (.dsqPhaseChange fs)) hin
  obtain ⟨raised, hraised, hdone⟩ := requeuedState_attempts (s := s.taken (.dsqPhaseChange fs)) (fs := raisedFloors fs)
    (names := onRaisedFloor fs s) (floors := fs.map Prod.fst) hin hord
  obtain ⟨t, ht, hframe, hdsq, hleaves⟩ := dsqDelivery_leaves (f := phaseChangeAtDsq fs) h
    (phaseChangeAtDsq_dsqOnly _ fs) ((congrArg State.deliveries hact).trans hraised)
  exact ⟨t, _, congrArg _ ht, hframe, hleaves,
    (hdone t (by rw [hframe]; rfl) (hdsq.trans (congrArg State.dsq hact))).of_bookkeeping rfl⟩

/-- An accepted RELEASE ALL DOORS: every SECURED strike is queued, and no magnet moves. -/
theorem releaseAllDoors_alarm {p : PortId} {s : State} (h : canAsk p .dsq s) (hr : s.role p = .commandStation)
    (hord : queuesInOrder s) (hin : s.inAlarm = true) : ∃ t news, exec (.releaseAllDoors p []) s = .next t ∧ dsqServed p s t
      ∧ answers p (commandAnswer 18 .accepted) s t ∧ leaves .dsq (withFrame p s) news s t
      ∧ AttemptsLeft [] (fun _ => true) [] s t news := by
  obtain ⟨t, ht, hserved, hanswers, hleaves, hdsq⟩ := releaseAllDoors_next h hr
  have hcfg : t.cfg = s.cfg := by rw [hserved]
  have hrge := asked_rge (p := p) h.2.1
  have hasked := asked_eq (p := p) h.2.1
  have hway := asked_deliveries (p := p) h.2.1
  generalize asked p s = x at hanswers hleaves hdsq hasked hway hrge
  have hinx : x.inAlarm = true := by
    unfold State.inAlarm
    rw [hrge]
    exact hin
  have hordx : queuesInOrder x := by
    rw [hasked]
    exact hord
  rw [cmdReleaseAllDoors_alarm hinx] at hanswers hleaves hdsq
  obtain ⟨raised, hraised, hdone⟩ := requeuedState_attempts (fs := []) (names := fun _ => true) (floors := []) hinx hordx
  dsimp only at hleaves hdsq
  rw [hraised, hway] at hleaves
  exact ⟨t, _, ht, hserved, hanswers, ⟨by rw [← List.append_assoc]; exact hleaves.1, hleaves.2⟩,
    (hdone t (by rw [hcfg, hasked]) hdsq).of_bookkeeping hasked⟩

/-- Outside ALARM RELEASE ALL DOORS is refused. -/
theorem releaseAllDoors_refused {p : PortId} {s : State} (h : canAsk p .dsq s) (hr : s.role p = .commandStation)
    (hin : s.inAlarm = false) : ∃ t, exec (.releaseAllDoors p []) s = .next t ∧ dsqServed p s t
      ∧ answers p (commandAnswer 18 .state) s t ∧ t.dsq = s.dsq ∧ leaves .dsq (withFrame p s) [] s t := by
  obtain ⟨t, ht, hserved, hanswers, hleaves, hdsq⟩ := releaseAllDoors_next h hr
  have hasked : (asked p s).inAlarm = false := by
    unfold State.inAlarm
    rw [asked_rge h.2.1]
    exact hin
  rw [cmdReleaseAllDoors_refused hasked] at hanswers hleaves hdsq
  have hsame : t.dsq = s.dsq := hdsq.trans (asked_dsq h.2.1)
  have hcfg : t.cfg = s.cfg := by rw [hserved]
  have hnews : dsqNews s t = [] := by
    rw [dsqNews_keepsFailed hcfg fun d _ => by rw [hsame]]
    exact groupTroubles_same fun g => by rw [hsame]; exact ⟨rfl, rfl⟩
  rw [hnews] at hleaves
  exact ⟨t, ht, hserved, hanswers, hsame, asked_deliveries h.2.1 ▸ hleaves⟩

/-- Settles O31: the queues as the event leaves them, and behind them the attempts of the groups that appended an entry. -/
theorem strikesAreQueuedAndPromoted : Obligations.StrikesAreQueuedAndPromoted := by
  refine ⟨fun fs s h hord => ⟨fun hin => ?_, fun hin => ?_⟩, dsqListAppend_promotes, fun p s h hr hord => ?_⟩
  · refine congrArg _ ((onDelivery_takes h _).trans ?_)
    exact dsqEvent_idle _ _ (phaseChangeAtDsq_discarded hin)
  · obtain ⟨t, news, ht, hframe, hleaves, hleft⟩ := dsqPhaseChange_alarm fs s h hord hin
    refine ⟨t, requeuedQueue (onRaisedFloor fs s) (fs.map Prod.fst) s, ht, hframe,
      fun g => ⟨requeuedQueue_requeued fun n => ?_, hleft.tried g, hleft.other g⟩, ⟨news, hleft.supply, hleaves⟩,
      fun d hd => ?_⟩
    · rw [List.any_map]
      exact congrArg fs.any (funext fun x => Bool.beq_comm)
    · have hdoor := hleft.doors d hd
      unfold requeuedDoor at hdoor
      rw [doorOn_raisedFloors] at hdoor
      exact hdoor
  · cases hin : s.inAlarm with
    | true =>
      obtain ⟨t, news, ht, hserved, hanswers, hleaves, hleft⟩ := releaseAllDoors_alarm h hr hord hin
      obtain ⟨htried, hother, hsupply, hdoors⟩ := hleft
      simp only [attemptsRelease, and_true] at htried hother hsupply hdoors
      refine ⟨t, requeuedQueue (fun _ => true) [] s, ht, hserved, nofun, fun _ => ⟨hanswers,
        fun g => ⟨requeuedQueue_requeued fun _ => rfl, htried g, hother g⟩, ⟨news, hsupply, hleaves⟩, fun d hd => ?_⟩⟩
      have hdoor := hdoors d hd
      have hnone : s.doorOn [] d = false := rfl
      simpa only [requeuedDoor, hnone, Bool.false_eq_true, false_and, and_false, if_false, true_and] using hdoor
    | false =>
      obtain ⟨t, ht, hserved, hanswers, hsame, hleaves⟩ := releaseAllDoors_refused h hr hin
      exact ⟨t, fun _ => [], ht, hserved, fun _ => ⟨hanswers, hsame, hleaves⟩, nofun⟩

end Sys2Proof.Machine
end

section
/-! SUPPORT. Events of the Door Sequencer at one group: a change of its record (R93 to R96), and a release attempt behind such a
change (R86, R89, R90). -/

namespace Sys2Proof.Machine

/-! ## A change of one group -/

section
variable {s t u : State} {g : GroupId}

theorem mapGroup_groups (s : State) (g h : GroupId) (f : GroupRec → GroupRec) :
    (s.mapGroup g f).dsq.groups[h] = if h = g then f s.dsq.groups[g] else s.dsq.groups[h] := set_fin _ _ _ _

theorem mapGroup_doors (s : State) (g : GroupId) (f : GroupRec → GroupRec) :
    (s.mapGroup g f).dsq.doors = s.dsq.doors := rfl

/-- Two changes of one group are one. -/
theorem mapGroup_mapGroup (s : State) (g : GroupId) (f f' : GroupRec → GroupRec) :
    (s.mapGroup g f).mapGroup g f' = s.mapGroup g fun r => f' (f r) := by
  have hset : ∀ (v : Vector GroupRec 4) (q r : GroupRec),
      (v.set g.val q g.isLt).set g.val r g.isLt = v.set g.val r g.isLt := fun v q r => Vector.set_set ..
  unfold State.mapGroup State.setGroup State.withDsq
  simp only [set_fin_same, hset]

theorem mapGroup_anyRamp (s : State) (g : GroupId) (f : GroupRec → GroupRec) (h : GroupId) :
    (s.mapGroup g f).anyRamp h = s.anyRamp h := rfl

/-- Groups raise and clear what their LIMITED flags and their stay in TAKEN before the event call for. -/
theorem groupTroubles_congr (h : ∀ a : GroupId, u.dsq.groups[a].limited = s.dsq.groups[a].limited
    ∧ (u.dsq.groups[a].takeover = .taken ↔ s.dsq.groups[a].takeover = .taken)) : groupTroubles u t = groupTroubles s t := by
  have htaken : ∀ a : GroupId, (u.dsq.groups[a].takeover == .taken) = (s.dsq.groups[a].takeover == .taken) := fun a => by
    rw [Bool.eq_iff_iff, beq_iff_eq, beq_iff_eq]
    exact (h a).2
  unfold groupTroubles
  simp only [fun a => (h a).1, htaken]

/-- An event of DSQ that changes the record of one group. -/
theorem dsqEvent_mapGroup {f : State → State} {F : GroupRec → GroupRec} (hf : f s = s.mapGroup g F) :
    ∃ t, dsqEvent f s = t ∧ dsqOnly s t ∧ t.dsq.doors = s.dsq.doors
      ∧ (∀ h : GroupId, h ≠ g → t.dsq.groups[h] = s.dsq.groups[h]) ∧ t.dsq.groups[g] = F s.dsq.groups[g]
      ∧ ∀ e ∈ groupTroubles s t, e ∈ t.deliveries := by
  obtain ⟨t, ht, hframe, hdsq, hleaves⟩ := dsqEvent_quiet (s := s) (x := s) (f := f) rfl
    (hf ▸ mapGroup_dsqOnly s g F) (hf ▸ mapGroup_deliveries s g F)
  rw [hf] at hdsq
  refine ⟨t, ht, hframe, by rw [hdsq, mapGroup_doors], fun h hh => by rw [hdsq, mapGroup_other _ _ _ hh],
    by rw [hdsq, mapGroup_same], fun e he => mem_of_leaves hleaves ?_⟩
  exact List.mem_append_left _ (List.mem_append_right _ he)

end

/-! ## A release attempt behind a change of the group (R89, R90) -/

section
variable {s t : State} {g : GroupId} {r : GroupRec} {f : GroupRec → GroupRec}

/-- A group with the record `r` makes a release attempt (R89, R90). -/
def attemptsFrom (r : GroupRec) (s : State) : Prop := r.takeover = .owned ∧ s.inAlarm = true ∧ r.queue ≠ []

theorem mayAttempt_mapGroup : MayAttempt (s.mapGroup g f) g ↔ attemptsFrom (f s.dsq.groups[g]) s := by
  have hrec := mapGroup_same s g f
  constructor
  · rintro ⟨halarm, howned, hentries⟩
    rw [hrec] at howned hentries
    exact ⟨howned, halarm, List.isEmpty_eq_false_iff.1 hentries⟩
  · rintro ⟨howned, halarm, hentries⟩
    refine ⟨halarm, ?_, ?_⟩
    · rw [hrec]; exact howned
    · rw [hrec]; exact List.isEmpty_eq_false_iff.2 hentries

/-- A group that is not OWNED, or outside ALARM, or without an entry, issues nothing (R89). -/
theorem attempt_stays (h : ¬ MayAttempt s g) : attempt g s = s := by
  refine if_neg fun hc => h ?_
  simp only [Bool.and_eq_true, beq_iff_eq, Bool.not_eq_true'] at hc
  exact ⟨hc.1.2, hc.1.1, hc.2⟩

/-- What the turn of the group `g` makes of the doors and groups when its record has become `r`: the attempt's effect when it
makes one, else the record. -/
structure TurnMade (g : GroupId) (r : GroupRec) (s t : State) : Prop where
  tried : attemptsFrom r s → attempted g r s t
  stays : ¬ attemptsFrom r s → t.dsq.groups[g] = r
  others : ∀ h : GroupId, h ≠ g → t.dsq.groups[h] = s.dsq.groups[h]
  doors : ∀ d : DoorId, (attemptsFrom r s → issuedDoor g r s ≠ some d) → t.dsq.doors[d] = s.dsq.doors[d]

/-- A turn is a statement about the records of DSQ that it leaves. -/
theorem TurnMade.congr {u : State} (h : TurnMade g r s t) (hu : u.dsq = t.dsq) : TurnMade g r s u where
  tried ha := attempted_kept (h.tried ha) (by rw [hu]) fun d _ => by rw [hu]
  stays ha := by rw [hu]; exact h.stays ha
  others a ha := by rw [hu]; exact h.others a ha
  doors d hd := by rw [hu]; exact h.doors d hd

/-- An attempt behind a change of its group, and the SUPPLY LIMIT that it raises (R90). -/
theorem attempt_mapGroup (s : State) (g : GroupId) (f : GroupRec → GroupRec) :
    TurnMade g (f s.dsq.groups[g]) s (attempt g (s.mapGroup g f))
      ∧ ∃ raised, (attempt g (s.mapGroup g f)).deliveries = s.deliveries ++ raised
        ∧ ∀ e, e ∈ raised ↔ (attemptsFrom (f s.dsq.groups[g]) s ∧ issuedDoor g (f s.dsq.groups[g]) s = none)
          ∧ e = .troubleRaise .supplyLimit g.val := by
  by_cases hmay : MayAttempt (s.mapGroup g f) g
  · have hfrom := mayAttempt_mapGroup.1 hmay
    obtain ⟨hmade, hothers, hdoors, hraised⟩ := attempt_attempted hmay
    rw [mapGroup_same] at hmade hraised
    rw [issuedDoor_congr (mapGroup_cfg s g f)] at hraised
    simp only [mapGroup_same, issuedDoor_congr (mapGroup_cfg s g f)] at hdoors
    refine ⟨⟨fun _ => (attempted_congr (mapGroup_cfg s g f) (mapGroup_now s g f)).1 hmade, fun h => absurd hfrom h,
      fun h hh => (hothers h hh).trans (mapGroup_other s g f hh), fun d hd => hdoors d (hd hfrom)⟩, _, hraised, fun e => ?_⟩
    rw [List.mem_ite_nil_right, List.mem_singleton, and_iff_right hfrom]
  · have hfrom : ¬ attemptsFrom (f s.dsq.groups[g]) s := fun h => hmay (mayAttempt_mapGroup.2 h)
    rw [attempt_stays hmay]
    exact ⟨⟨fun h => absurd h hfrom, fun _ => mapGroup_same s g f, fun _ => mapGroup_other s g f, fun _ _ => rfl⟩, [],
      (List.append_nil _).symm, fun e => iff_of_false List.not_mem_nil fun h => hfrom h.1.1⟩

theorem TurnMade.takeover (h : TurnMade g r s t) : t.dsq.groups[g].takeover = r.takeover := by
  by_cases ha : attemptsFrom r s
  · exact attempted_takeover (h.tried ha)
  · rw [h.stays ha]

/-- A turn whose record keeps the queue issues a QUEUED strike at most, so it moves no strike into or out of FAILED. -/
theorem TurnMade.keepsFailed (h : TurnMade g r s t) (hord : queuesInOrder s) (hq : r.queue = s.dsq.groups[g].queue) :
    keepsFailed s t := by
  intro d _
  by_cases hissued : attemptsFrom r s ∧ issuedDoor g r s = some d
  · obtain ⟨ha, hi⟩ := hissued
    obtain ⟨e, he, rfl⟩ := mem_of_issuedDoor hi
    obtain ⟨-, -, hentries⟩ := hord g
    rw [attempted_issued (h.tried ha) hi, (hentries e (hq ▸ he)).2]
    exact iff_of_false nofun nofun
  · rw [h.doors d fun ha hi => hissued ⟨ha, hi⟩]

/-- A change of a group that leaves its queue, its LIMITED flag and its stay in TAKEN. -/
structure KeepsSupply (f : GroupRec → GroupRec) : Prop where
  queue : ∀ r, (f r).queue = r.queue
  limited : ∀ r, (f r).limited = r.limited
  taken : ∀ r, (f r).takeover = .taken ↔ r.takeover = .taken

/-- Such a change leaves what an event that ends in `t` raises and clears of the groups. -/
theorem KeepsSupply.groupTroubles (hf : KeepsSupply f) : groupTroubles (s.mapGroup g f) t = groupTroubles s t := by
  refine groupTroubles_congr fun a => ?_
  rw [mapGroup_groups]
  split
  next ha => rw [ha]; exact ⟨hf.limited _, hf.taken _⟩
  next => exact ⟨rfl, Iff.rfl⟩

/-- Such a change leaves what attempts deliver. -/
theorem KeepsSupply.supplyNews (hf : KeepsSupply f) {raised : GroupId → Prop} {news : List Instr}
    (h : supplyNews raised (s.mapGroup g f) t news) : supplyNews raised s t news := by
  obtain ⟨hraise, hclear, hall⟩ := h
  refine ⟨hraise, fun a => (hclear a).trans (and_congr_left' ?_), hall⟩
  rw [mapGroup_groups]
  split
  next ha => rw [ha, hf.limited]
  next => exact Iff.rfl

/-- An event of DSQ that changes a group and makes its attempt delivers SUPPLY LIMIT alone (R90). -/
theorem dsqEvent_attempt {act : State → State} (hact : act s = attempt g (s.mapGroup g f)) (hf : KeepsSupply f)
    (hord : queuesInOrder s) : ∃ t news, dsqEvent act s = t ∧ dsqOnly s t ∧ TurnMade g (f s.dsq.groups[g]) s t
      ∧ supplyNews (fun h => h = g ∧ attemptsFrom (f s.dsq.groups[g]) s ∧ issuedDoor g (f s.dsq.groups[g]) s = none) s t news
      ∧ leaves .dsq s.deliveries news s t := by
  obtain ⟨hturn, raised, hraised, hnews⟩ := attempt_mapGroup s g f
  obtain ⟨t, ht, hframe, hdsq, hleaves⟩ := dsqEvent_leaves (s := s) (x := s) (f := act) rfl
    (hact ▸ (mapGroup_dsqOnly s g f).trans (attempt_dsqOnly _ g)) (hact ▸ hraised)
  rw [hact] at hdsq
  have hmade := hturn.congr hdsq
  have htakeover : ∀ a : GroupId, t.dsq.groups[a].takeover = (s.mapGroup g f).dsq.groups[a].takeover := fun a => by
    rw [mapGroup_groups]
    split
    next ha => rw [ha]; exact hmade.takeover
    next ha => rw [hmade.others a ha]
  rw [dsqNews_keepsFailed (by rw [hframe]) (hmade.keepsFailed hord (hf.queue _)), ← hf.groupTroubles] at hleaves
  refine ⟨t, _, ht, hframe, hmade, hf.supplyNews (supplyNews_of_takeover htakeover fun e => (hnews e).trans ?_), hleaves⟩
  simp only [and_assoc, exists_eq_left]

end

end Sys2Proof.Machine
end

section
/-! PROOF. The pacing timers and zero-gap attempts (R86, R89, R90, R97), and the takeover lines (R93, R95, R96). -/

namespace Sys2Proof.Machine

/-! ## Pacing (R86, R89, R97) -/

/-- The record of a group whose pacing timer expires: REACQUIRING ends (R97). -/
def pacingExpired (r : GroupRec) : GroupRec :=
  { r with pacing := none, takeover := if r.takeover = .reacquiring then .owned else r.takeover }

/-- The record of a group whose further attempt is taken (R89). -/
def zeroGapTaken (r : GroupRec) : GroupRec := { r with zeroGap := false }

theorem pacingExpired_keepsSupply : KeepsSupply pacingExpired where
  queue _ := rfl
  limited _ := rfl
  taken r := by
    unfold pacingExpired
    cases r.takeover <;> simp

theorem zeroGapTaken_keepsSupply : KeepsSupply zeroGapTaken where
  queue _ := rfl
  limited _ := rfl
  taken _ := Iff.rfl

/-- The expiry of a pacing timer is a change of the group and an attempt, which a group HANDING OVER or TAKEN does not make
(R94, R95). -/
theorem pacingExpires_eq (g : GroupId) (s : State) : pacingExpires g s = attempt g (s.mapGroup g pacingExpired) := by
  have hkept : ∀ k, s.dsq.groups[g].takeover = k → k ≠ .reacquiring →
      s.mapGroup g pacingExpired = s.mapGroup g fun r => { r with pacing := none } := fun k htake hk =>
    mapGroup_congr s g (by unfold pacingExpired; rw [htake, if_neg hk, ← htake])
  have hidle : ∀ k, s.dsq.groups[g].takeover = k → k ≠ .owned →
      attempt g (s.mapGroup g fun r => { r with pacing := none }) = s.mapGroup g fun r => { r with pacing := none } :=
    fun k htake hk => attempt_stays fun hmay => hk (htake.symm.trans (mayAttempt_mapGroup.1 hmay).1)
  unfold pacingExpires
  cases htake : s.dsq.groups[g].takeover with
  | owned => rw [hkept _ htake nofun]
  | reacquiring =>
    refine congrArg (attempt g) ((mapGroup_mapGroup s g _ _).trans (mapGroup_congr s g ?_))
    unfold pacingExpired
    rw [if_pos htake]
  | handingOver => rw [hkept _ htake nofun, hidle _ htake nofun]
  | taken => rw [hkept _ htake nofun, hidle _ htake nofun]

/-- Settles O32: either event changes the record of the group, and behind it the group makes its attempt. -/
theorem pacingExpiryIssuesTheNextRelease : Obligations.PacingExpiryIssuesTheNextRelease := by
  rintro g c s (⟨rfl, hdue⟩ | ⟨rfl, hdue⟩) hord
  · obtain ⟨t, news, ht, hframe, hturn, hsupply, hleaves⟩ :=
      dsqEvent_attempt (pacingExpires_eq g s) pacingExpired_keepsSupply hord
    simp only [reduceCtorEq, if_false]
    exact ⟨t, congrArg _ ((if_pos hdue).trans ht), hframe, hturn.others, hturn.tried, hturn.stays,
      ⟨news, hsupply, hleaves⟩, hturn.doors⟩
  · obtain ⟨t, news, ht, hframe, hturn, hsupply, hleaves⟩ := dsqEvent_attempt (s := s) (g := g) (f := zeroGapTaken)
      (act := fun s => attempt g (s.mapGroup g zeroGapTaken)) rfl zeroGapTaken_keepsSupply hord
    simp only [if_true]
    exact ⟨t, congrArg _ ((if_pos hdue).trans ht), hframe, hturn.others, hturn.tried, hturn.stays,
      ⟨news, hsupply, hleaves⟩, hturn.doors⟩

/-! ## The takeover lines (R93, R95, R96) -/

section
variable {s : State} {g : GroupId}

theorem takeRequest_acts (h : s.dsq.groups[g].takeover = .owned ∨ s.dsq.groups[g].takeover = .reacquiring) :
    takeRequest g s = if s.anyRamp g then enterHandover g s else enterTaken g s := by
  unfold takeRequest
  obtain htake | htake := h <;> rw [htake]

theorem takeRequest_stays (h : ¬ (s.dsq.groups[g].takeover = .owned ∨ s.dsq.groups[g].takeover = .reacquiring)) :
    takeRequest g s = s := by
  unfold takeRequest
  cases htake : s.dsq.groups[g].takeover with
  | owned => exact absurd (.inl htake) h
  | reacquiring => exact absurd (.inr htake) h
  | handingOver => rfl
  | taken => rfl

/-- The record of a group whose request line is asserted, by whether a strike of it is in RAMP (R93, R95). -/
def requestAsserted (ramp : Bool) (r : GroupRec) : GroupRec :=
  if r.takeover = .owned ∨ r.takeover = .reacquiring then
    if ramp then { r with request := true, takeover := .handingOver, limited := false }
    else { r with
      request := true, takeover := .taken, limited := false
      pacing := if r.takeover = .reacquiring then none else r.pacing }
  else { r with request := true }

theorem takeRequest_mapGroup (g : GroupId) (s : State) :
    takeRequest g (s.mapGroup g fun r => { r with request := true }) = s.mapGroup g (requestAsserted (s.anyRamp g)) := by
  have htake := mapGroup_same s g fun r => { r with request := true }
  by_cases hown : s.dsq.groups[g].takeover = .owned ∨ s.dsq.groups[g].takeover = .reacquiring
  · rw [takeRequest_acts (by rw [htake]; exact hown), mapGroup_anyRamp]
    by_cases hramp : s.anyRamp g = true
    · rw [if_pos hramp]
      refine (mapGroup_mapGroup s g _ _).trans (mapGroup_congr s g ?_)
      rw [requestAsserted, if_pos hown, if_pos hramp]
    · rw [if_neg hramp]
      refine (mapGroup_mapGroup s g _ _).trans (mapGroup_congr s g ?_)
      rw [requestAsserted, if_pos hown, if_neg hramp]
      simp only [beq_iff_eq]
  · rw [takeRequest_stays (by rw [htake]; exact hown)]
    exact mapGroup_congr s g (if_neg hown).symm

/-- The record of a group whose request line is released (R96). -/
def requestReleased (s : State) (g : GroupId) (r : GroupRec) : GroupRec :=
  if r.takeover = .taken then
    { r with
      request := false, takeover := .reacquiring, carry := 0, nextRelease := s.now + s.cfg.groups[g].gMin
      pacing := some (s.now + s.cfg.groups[g].gMin) }
  else { r with request := false }

theorem handBack_mapGroup (g : GroupId) (s : State) :
    (if s.dsq.groups[g].takeover == .taken then handBack g (s.mapGroup g fun r => { r with request := false })
      else s.mapGroup g fun r => { r with request := false }) = s.mapGroup g (requestReleased s g) := by
  split
  next h =>
    refine (mapGroup_mapGroup s g _ _).trans (mapGroup_congr s g ?_)
    unfold requestReleased
    rw [if_pos (beq_iff_eq.1 h)]
    rfl
  next h =>
    refine mapGroup_congr s g ?_
    unfold requestReleased
    rw [if_neg fun k => h (beq_iff_eq.2 k)]

/-- A strike that names a group has the group's drive line on its driver while the group is TAKEN, and its own state otherwise
(R71, R95). -/
theorem doorDriver_strike {d : DoorId} (hc : s.configFault = false) (hd : s.isStrike d = true)
    (hg : s.cfg.doors[d].group = g.val) : s.doorDriver d =
      if s.dsq.groups[g].takeover = .taken then s.dsq.groups[g].drive else s.dsq.doors[d].energised := by
  unfold State.isStrike at hd
  simp only [Bool.and_eq_true, beq_iff_eq] at hd
  unfold State.doorDriver
  rw [hc, hd.1, hd.2, hg, rowAt_fin]
  simp only [beq_iff_eq]
  rfl

/-- Settles O36: each line changes the record of its group, and the change of TAKEN and LIMITED is told to TRL. -/
theorem takeoverLinesMoveTheGroup : Obligations.TakeoverLinesMoveTheGroup := by
  intro g s hc
  have hrunning := ne_true_of_eq_false hc
  refine ⟨fun hr => congrArg _ (if_pos hr), fun hr => congrArg _ (if_pos (by rw [hr]; rfl)), fun hr => ?_, fun hr => ?_,
    fun level => ?_⟩
  · obtain ⟨t, ht, hframe, hdoors, hothers, hgroup, hnews⟩ := dsqEvent_mapGroup
      (f := fun u => takeRequest g (u.mapGroup g fun r => { r with request := true })) (takeRequest_mapGroup g s)
    refine ⟨t, congrArg _ ((if_neg (ne_true_of_eq_false hr)).trans ((if_neg hrunning).trans ht)),
      ⟨hframe, hdoors, hothers⟩, fun hown hramp => ?_,
      fun hown hramp => hgroup.trans ((if_pos hown).trans (if_pos hramp)), fun hleft => hgroup.trans (if_neg ?_)⟩
    · have htaken := hgroup.trans ((if_pos hown).trans (if_neg (ne_true_of_eq_false hramp)))
      refine ⟨htaken, hnews _ (mem_groupTroubles.2 ⟨g, .inr (.inl ⟨?_, by rw [htaken], rfl⟩)⟩),
        fun hlimited => hnews _ (mem_groupTroubles.2 ⟨g, .inl ⟨hlimited, by rw [htaken], rfl⟩⟩)⟩
      obtain htake | htake := hown <;> (rw [htake]; exact nofun)
    · obtain htake | htake := hleft <;> (rw [htake]; simp)
  · obtain ⟨t, ht, hframe, hdoors, hothers, hgroup, hnews⟩ := dsqEvent_mapGroup
      (f := fun u => if u.dsq.groups[g].takeover == .taken then handBack g (u.mapGroup g fun r => { r with request := false })
        else u.mapGroup g fun r => { r with request := false }) (handBack_mapGroup g s)
    refine ⟨t, congrArg _ ((if_neg (by rw [hr]; exact nofun)).trans ((if_neg hrunning).trans ht)),
      ⟨hframe, hdoors, hothers⟩, fun htaken => ?_, fun hleft => hgroup.trans (if_neg hleft)⟩
    have hback := hgroup.trans (if_pos htaken)
    exact ⟨hback, hnews _ (mem_groupTroubles.2 ⟨g, .inr (.inr ⟨htaken, by rw [hback]; exact nofun, rfl⟩)⟩)⟩
  · refine ⟨_, rfl, rfl, fun d hd hg => ?_⟩
    refine (doorDriver_strike (s := s.mapGroup g _) hc hd hg).trans ?_
    rw [mapGroup_same]
    rfl

end

end Sys2Proof.Machine
end

section
/-! SUPPORT. Programmes (R106, R110): what a zone hears, demand sets and demand instants. -/

namespace Sys2Proof.Machine

section
variable {s t : State} {d : Demand} {z : SpeakerId} {i : Nat}

/-! ## What a zone hears -/

/-- What a zone hears is the claim that puts it into a programme: LIVE-C stands before a fire slot, that before LIVE-P, and a
tenant's slot last (R106, R110). -/
theorem zoneHears_eq (s : State) (z : SpeakerId) : zoneHears s z =
    if s.speakerConfigured z then (hearing s.cue.zones[z]).map fun c => (c.demand, c.instant) else none := by
  unfold zoneHears
  obtain ⟨fire, live, tenant⟩ := s.cue.zones[z]
  refine if_congr Iff.rfl ?_ rfl
  match live, fire with
  | some ⟨.liveC, _⟩, none => cases tenant <;> rfl
  | some ⟨.liveC, _⟩, some ⟨_, prio, _, _⟩ => cases prio <;> cases tenant <;> rfl
  | some ⟨.liveP, _⟩, some ⟨_, prio, _, complete⟩ => cases prio <;> cases complete <;> cases tenant <;> rfl
  | none, some ⟨_, prio, _, complete⟩ => cases prio <;> cases complete <;> cases tenant <;> rfl
  | some ⟨.liveP, _⟩, none => cases tenant <;> rfl
  | none, none =>
    match tenant with
    | none => rfl
    | some ⟨_, _, _, complete⟩ => cases complete <;> rfl

theorem programmeOf_eq (s : State) (z : SpeakerId) : s.programmeOf z = (zoneHears s z).map Prod.fst := by
  rw [zoneHears_eq]
  unfold State.programmeOf
  split
  · rw [Option.map_map]; rfl
  · rfl

theorem programmeOf_eq_some : s.programmeOf z = some d ↔ ∃ i, zoneHears s z = some (d, i) := by
  simp [programmeOf_eq]

/-! ## Demand sets -/

theorem mem_demandSet : z ∈ s.demandSet d ↔ s.programmeOf z = some d := by
  simp [State.demandSet]

theorem mem_demandSet_iff_hears : z ∈ s.demandSet d ↔ ∃ i, zoneHears s z = some (d, i) :=
  mem_demandSet.trans programmeOf_eq_some

theorem demandSet_ne_nil : s.demandSet d ≠ [] ↔ ∃ z, s.programmeOf z = some d := by
  rw [Ne, List.eq_nil_iff_forall_not_mem]
  simp only [mem_demandSet, not_forall, not_not]

/-! ## Demand instants -/

/-- The instants of the slots that put the zones of a demand set into their programme. -/
def demandInstants (s : State) (d : Demand) : List Nat :=
  (s.demandSet d).filterMap fun z => (zoneHears s z).map Prod.snd

theorem mem_demandInstants : i ∈ demandInstants s d ↔ ∃ z, zoneHears s z = some (d, i) := by
  unfold demandInstants
  simp only [List.mem_filterMap, mem_demandSet_iff_hears, Option.map_eq_some_iff]
  constructor
  · rintro ⟨z, ⟨j, hj⟩, x, hx, rfl⟩
    rw [hj] at hx
    exact ⟨z, by rw [hj, ← Option.some.inj hx]⟩
  · rintro ⟨z, hz⟩
    exact ⟨z, ⟨i, hz⟩, _, hz, rfl⟩

theorem foldl_earlier (l : List Nat) : l.foldl earlier none = l.min? := by
  have hmin : ∀ (l : List Nat) (n : Nat), l.foldl earlier (some n) = some (l.foldl min n) := by
    intro l
    induction l with
    | nil => exact fun n => rfl
    | cons a l ih => exact fun n => (ih _).trans (by rw [List.foldl_cons, min_comm]; rfl)
  cases l with
  | nil => rfl
  | cons a l => exact hmin l a

theorem demandInstant_eq_min (s : State) (d : Demand) : s.demandInstant d = (demandInstants s d).min? := by
  rw [← foldl_earlier, demandInstants, List.foldl_filterMap]
  refine List.foldl_ext _ _ _ fun a z hz => ?_
  obtain ⟨i, hi⟩ := mem_demandSet_iff_hears.1 hz
  have hconf : s.speakerConfigured z = true := by
    by_contra hn
    rw [zoneHears_eq, if_neg hn] at hi
    cases hi
  rw [zoneHears_eq, if_pos hconf]
  cases hearing s.cue.zones[z] <;> rfl

/-- The demand instant of a programme is the earliest among its slots (R110). -/
theorem demandInstant_eq_some : s.demandInstant d = some i ↔ earliestInstant s d i := by
  rw [demandInstant_eq_min, List.min?_eq_some_iff]
  unfold earliestInstant
  refine and_congr mem_demandInstants ⟨fun h z j hz => h j (mem_demandInstants.2 ⟨z, hz⟩), fun h j hj => ?_⟩
  obtain ⟨z, hz⟩ := mem_demandInstants.1 hj
  exact h z j hz

theorem demandInstant_eq_none : s.demandInstant d = none ↔ s.demandSet d = [] := by
  rw [demandInstant_eq_min, List.min?_eq_none_iff, List.eq_nil_iff_forall_not_mem, List.eq_nil_iff_forall_not_mem]
  simp only [mem_demandInstants, mem_demandSet_iff_hears, not_exists]
  exact ⟨fun h z i => h i z, fun h i z => h z i⟩

/-- A programme that exists has a demand instant. -/
theorem exists_demandInstant (h : s.demandSet d ≠ []) : ∃ i, s.demandInstant d = some i :=
  Option.ne_none_iff_exists'.1 fun hn => h (demandInstant_eq_none.1 hn)

/-! ## What they see of the state -/

theorem zoneHears_congr (hz : t.cue.zones = s.cue.zones) (hc : t.cfg = s.cfg) : zoneHears t = zoneHears s := by
  funext z
  rw [zoneHears_eq, zoneHears_eq, hz]
  unfold State.speakerConfigured State.inRange
  rw [hc]

theorem programmeOf_congr (h : zoneHears t = zoneHears s) : t.programmeOf = s.programmeOf := by
  funext z
  rw [programmeOf_eq, programmeOf_eq, h]

theorem demandSet_congr (h : zoneHears t = zoneHears s) : t.demandSet = s.demandSet := by
  funext d
  unfold State.demandSet
  rw [programmeOf_congr h]

theorem demandInstant_congr (h : zoneHears t = zoneHears s) : t.demandInstant = s.demandInstant := by
  funext d
  rw [demandInstant_eq_min, demandInstant_eq_min, demandInstants, demandInstants, demandSet_congr h, h]

end

end Sys2Proof.Machine
end

section
/-! SUPPORT. Events of the Channel Router: what the event of a delivery and of a timer leaves (R124, R129, R135). -/

namespace Sys2Proof.Machine

section
variable {s t u : State} {f : State → State}

theorem chrEvent_onlyChannels (hf : chrOnly s (f s)) : onlyChannels s (chrEvent f s) := by
  unfold chrEvent
  rw [event_other (by decide)]
  exact (chrChange_chrOnly s f hf).trans (deliver_chrOnly _ _)

/-- A delivery to CHR: the end of the event is told of the state in which the delivery was still on its way. -/
theorem chrDelivery_ends {e : Instr} (h : s.takes e = true) (hf : chrOnly (s.taken e) (f (s.taken e))) :
    ∃ t, onDelivery e (chrEvent f) s = t ∧ onlyChannels s t ∧ chrEnds s (f (s.taken e)) t := by
  rw [onDelivery_takes h]
  refine ⟨_, rfl, ?_, chrEvent_ends hf⟩
  exact chrOnly.trans (s := s) (t := s.taken e) rfl (chrEvent_onlyChannels hf)

end

end Sys2Proof.Machine
end

section
/-! SUPPORT. A channel at a block boundary (R112, R113, R126 to R130): its chain, and its record with the read in progress. -/

namespace Sys2Proof.Machine

/-! ## The chain (R112, R113) -/

section
variable {s : State} {k next : Chain} {n : Nat} {c : ChannelId}

theorem repetitions_eq (s : State) (n : Nat) :
    s.repetitions n = if (s.cueAt n).repeats = 0 then none else some (s.cueAt n).repeats := by
  simp [State.repetitions]

theorem atCue_eq (s : State) (n started : Nat) : s.atCue n started = startOf s n started := by
  rw [State.atCue, startOf, repetitions_eq]

theorem advance_of_repetitionEnds (h : repetitionEnds s k) : s.advance k = endRepetition k := by
  unfold repetitionEnds at h
  unfold State.advance
  cases hp : k.pos with
  | segment i =>
    simp only [hp] at h
    simp [Nat.not_lt.2 h.1, h.2]
  | gap j =>
    simp only [hp] at h
    simp [Nat.not_lt.2 h]

theorem nextSegment_of_repetitionEnds (h : repetitionEnds s k) : s.nextSegment k = endRepetition k := by
  unfold repetitionEnds at h
  unfold State.nextSegment
  cases hp : k.pos with
  | segment i =>
    simp only [hp] at h
    simp [Nat.not_lt.2 h.1]
  | gap j => rfl

theorem endRepetition_continuous (h : k.remaining = none) : endRepetition k = some { k with pos := .segment 0 } := by
  simp [endRepetition, h]

theorem endRepetition_counted {r : Nat} (h : k.remaining = some r) (hr : 1 < r) :
    endRepetition k = some { k with remaining := some (r - 1), pos := .segment 0 } := by
  simp [endRepetition, h, Nat.not_le.2 hr]

theorem endRepetition_last {r : Nat} (h : k.remaining = some r) (hr : r ≤ 1) : endRepetition k = none := by
  simp [endRepetition, h, hr]

/-- A boundary within a cue moves the position as R112 says. -/
theorem advance_of_movesWithin (h : movesWithin s k next) : s.advance k = some next := by
  obtain ⟨i, hp, hi, rfl⟩ | ⟨i, hp, hi, hg, rfl⟩ | ⟨j, hp, hj, rfl⟩ | ⟨he, hr, rfl⟩ | ⟨he, r, hr, h1, rfl⟩ := h
  · simp [State.advance, hp, hi]
  · simp [State.advance, hp, Nat.not_lt.2 hi, hg.ne']
  · simp [State.advance, hp, hj]
  · rw [advance_of_repetitionEnds he, endRepetition_continuous hr]
  · rw [advance_of_repetitionEnds he, endRepetition_counted hr h1]

/-- The next segment block is that of the move, unless the gap follows. -/
theorem nextSegment_of_movesWithin {i : Nat} (h : movesWithin s k next) (hi : next.pos = .segment i) :
    s.nextSegment k = some next := by
  obtain ⟨i, hp, hlt, rfl⟩ | ⟨i, hp, hi, hg, rfl⟩ | ⟨j, hp, hj, rfl⟩ | ⟨he, hr, rfl⟩ | ⟨he, r, hr, h1, rfl⟩ := h
  · simp [State.nextSegment, hp, hlt]
  · cases hi
  · cases hi
  · rw [nextSegment_of_repetitionEnds he, endRepetition_continuous hr]
  · rw [nextSegment_of_repetitionEnds he, endRepetition_counted hr h1]

theorem advance_of_cueIsOver (h : cueIsOver s k) : s.advance k = none := by
  obtain ⟨he, r, hr, h1⟩ := h
  rw [advance_of_repetitionEnds he, endRepetition_last hr h1]

theorem nextSegment_of_cueIsOver (h : cueIsOver s k) : s.nextSegment k = none := by
  obtain ⟨he, r, hr, h1⟩ := h
  rw [nextSegment_of_repetitionEnds he, endRepetition_last hr h1]

/-- A chain moves within its cue or stands at its end, not both. -/
theorem not_movesWithin_of_cueIsOver (h : cueIsOver s k) : ¬ movesWithin s k next := fun hm => by
  have := (advance_of_cueIsOver h).symm.trans (advance_of_movesWithin hm)
  cases this

/-! ## The candidates at a link (R113, R128) -/

/-- Where the cue of the link that is taken stands among the candidates. -/
theorem candidates_chosen {q : Nat} (h : s.chosenLink c q = some n) : ∃ before after : List Nat,
    s.candidates q = before ++ n :: after ∧ n ∉ before ∧ n ∉ after
      ∧ before.length = if (s.cueAt q).nextTrue = none ∨ (s.cueAt q).nextTrue = some n then 0 else 1 := by
  have hl : (s.cueAt q).nextTrue = some n ∨ (s.cueAt q).nextFalse = some n := by
    unfold State.chosenLink at h
    split at h
    · exact .inl h
    · exact .inr h
  unfold State.candidates
  rcases ht : (s.cueAt q).nextTrue with _ | m
  · rw [ht] at hl
    rw [hl.resolve_left nofun]
    exact ⟨[], [], rfl, nofun, nofun, by simp⟩
  · obtain rfl | hm := eq_or_ne n m
    · rcases (s.cueAt q).nextFalse with _ | j
      · exact ⟨[], [], rfl, nofun, nofun, by simp⟩
      · obtain rfl | hj := eq_or_ne n j
        · exact ⟨[], [], by simp [List.eraseDups_cons], nofun, nofun, by simp⟩
        · exact ⟨[], [j], by simp [List.eraseDups_cons, hj.symm], nofun, by simpa using hj, by simp⟩
    · rw [ht] at hl
      rw [hl.resolve_left fun e => hm (Option.some.inj e).symm]
      exact ⟨[m], [], by simp [List.eraseDups_cons, hm], by simpa using hm, nofun, by simp [hm.symm]⟩

/-- Of the slots of the candidates, that of the one that is taken is kept. -/
theorem zip_filterMap_chosen {α : Type} {before after : List Nat} {n : Nat} (hb : n ∉ before) (ha : n ∉ after) (xs : List α) :
    (((before ++ n :: after).zip xs).filterMap fun x => if x.1 == n then some x.2 else none)
      = (xs[before.length]?).toList := by
  induction before generalizing xs with
  | nil =>
    cases xs with
    | nil => rfl
    | cons x xs =>
      simp only [List.nil_append, List.zip_cons_cons, List.filterMap_cons, beq_self_eq_true, if_true, List.length_nil,
        List.getElem?_cons_zero, Option.toList_some, List.cons.injEq, true_and, List.filterMap_eq_nil_iff]
      rintro ⟨m, y⟩ hy
      exact if_neg fun h => ha ((show m = n from beq_iff_eq.1 h) ▸ (List.of_mem_zip hy).1)
  | cons m before ih =>
    cases xs with
    | nil => rfl
    | cons x xs =>
      have hm : m ≠ n := fun e => hb (e ▸ List.mem_cons_self)
      simpa [hm] using ih (fun h => hb (List.mem_cons_of_mem _ h)) xs

end

end Sys2Proof.Machine
end

section
/-! SUPPORT. The record of a channel with the read in progress (R127 to R131), and what the operations of a block boundary make of
them. -/

namespace Sys2Proof.Machine

/-- The read in progress when the area of a channel holds `xs`: one whose slot is gone is discarded (R127, R129). -/
def readWith (c : ChannelId) (xs : List Slot) (f : Option FlashRead) : Option FlashRead :=
  f.map fun r => if r.channel = c ∧ ∀ y ∈ xs, y.status ≠ .filling then { r with discarded := true } else r

/-- The state with another record of a channel and another read in progress. -/
def withChannel (c : ChannelId) (q : ChannelRec) (f : Option FlashRead) (s : State) : State :=
  { s with chr := { s.chr with channels := s.chr.channels.set c.val q c.isLt, reading := f } }

/-- The slots behind the block that ends (R130). -/
def slotsBehind (r : ChannelRec) : List Slot := if r.headInPlay then r.slots.drop 1 else r.slots

section
variable {s : State} {c : ChannelId} {q r : ChannelRec} {f : Option FlashRead} {xs ys : List Slot} {k : Chain}

/-! ## The read in progress -/

theorem readDropped_eq : readDropped c f = readWith c [] f := by
  simp [readDropped, readWith]

/-- Slots that go later discard no fewer reads. -/
theorem readWith_readWith (h : xs ⊆ ys) : readWith c xs (readWith c ys f) = readWith c xs f := by
  unfold readWith
  rw [Option.map_map]
  congr 1
  funext r
  simp only [Function.comp_apply]
  by_cases hy : r.channel = c ∧ ∀ y ∈ ys, y.status ≠ .filling
  · have hx : r.channel = c ∧ ∀ y ∈ xs, y.status ≠ .filling := ⟨hy.1, fun y hx => hy.2 y (h hx)⟩
    rw [if_pos hy, if_pos hx, if_pos hx]
  · rw [if_neg hy]

/-- Under the invariant of the areas a read that still counts has its slot (R129). -/
theorem readWith_of_areasSound (h : areasSound s) (c : ChannelId) :
    readWith c s.chr.channels[c].slots s.chr.reading = s.chr.reading := by
  obtain ⟨-, -, -, -, -, -, -, -, -, hfilling, -⟩ := h c
  unfold readWith
  cases hr : s.chr.reading with
  | none => rfl
  | some f =>
    refine congrArg some (ite_eq_right_iff.2 fun ⟨hc, hn⟩ => ?_)
    cases hd : f.discarded with
    | true => rw [← hd]
    | false =>
      obtain ⟨front, x, hx, hfill, -⟩ := hfilling f hr hc hd
      exact absurd hfill (hn x (by rw [hx]; simp))

/-! ## Records -/

theorem withChannel_self (s : State) (c : ChannelId) : withChannel c s.chr.channels[c] s.chr.reading s = s := by
  unfold withChannel
  rw [show s.chr.channels.set c.val s.chr.channels[c] c.isLt = s.chr.channels from
    table_ext fun i => by rw [set_fin]; split <;> simp_all]

@[simp] theorem withChannel_record : (withChannel c q f s).chr.channels[c] = q := set_fin_same _ _ _

theorem mapChannel_withChannel (F : ChannelRec → ChannelRec) :
    (withChannel c q f s).mapChannel c F = withChannel c (F q) f s := by
  unfold State.mapChannel
  rw [withChannel_record]
  unfold withChannel State.setChannel State.withChr
  simp

theorem mapChannel_eq_withChannel (F : ChannelRec → ChannelRec) :
    s.mapChannel c F = withChannel c (F s.chr.channels[c]) s.chr.reading s := by
  conv => lhs; rw [← withChannel_self s c]
  exact mapChannel_withChannel F

theorem putSlots_withChannel :
    putSlots c xs (withChannel c q f s) = withChannel c { q with slots := xs } (readWith c xs f) s := by
  unfold putSlots
  dsimp only
  rw [mapChannel_withChannel]
  unfold withChannel readWith State.withChr
  simp

theorem dropEnded_withChannel : dropEnded c (withChannel c q f s) =
    withChannel c { q with slots := slotsBehind q, headInPlay := false }
      (if q.headInPlay then readWith c (slotsBehind q) f else f) s := by
  unfold dropEnded slotsBehind
  rw [withChannel_record]
  cases hq : q.headInPlay with
  | true => simp only [if_true]; rw [putSlots_withChannel, mapChannel_withChannel]
  | false =>
    simp only [Bool.false_eq_true, if_false]
    rw [← hq]

theorem joinZones_withChannel : joinZones c (withChannel c q f s) = withChannel c { q with
    zoneSet := (List.finRange 36).filter fun z => q.zoneSet.contains z || q.joins.contains z, joins := [] } f s :=
  mapChannel_withChannel _

end

end Sys2Proof.Machine
end

section
/-! PROOF. The end of a chain at a block boundary (R116, R121, R122). -/

namespace Sys2Proof.Machine

/-! ## A block boundary of a chain (R112, R113, R130) -/

section
variable {s : State} {c : ChannelId} {g : Grant} {k next : Chain} {b n : Nat} {q : ChannelRec} {f : Option FlashRead} {d : Demand}

theorem blockBoundary_ends (hb : s.chr.channels[c].boundary = some b) (hn : b ≤ s.now) :
    ∃ t, exec (.blockBoundary c) s = .next t ∧ onlyChannels s t ∧ chrEnds s (boundaryAt c s) t := by
  have hdue : s.due s.chr.channels[c].boundary = true := by rw [hb]; exact decide_eq_true hn
  exact ⟨_, congrArg Host.Outcome.next (if_pos hdue), chrEvent_onlyChannels (boundaryAt_chrOnly s c),
    chrEvent_ends (boundaryAt_chrOnly s c)⟩

/-- The record of a channel whose boundary has come: the next is a block later. -/
def boundaryMoved (b : Nat) (r : ChannelRec) : ChannelRec := { r with boundary := some (b + blockTime) }

/-- The record of a channel between two blocks, with the slots `xs` left in its area. -/
def endedRecord (b : Nat) (xs : List Slot) (r : ChannelRec) : ChannelRec :=
  { r with boundary := some (b + blockTime), slots := xs, headInPlay := false }

/-- The state at the block boundary of a channel, before its next block: the slot of the block that has ended is emptied. -/
def blockEnded (c : ChannelId) (b : Nat) (s : State) : State :=
  withChannel c (endedRecord b (slotsBehind s.chr.channels[c]) s.chr.channels[c])
    (if s.chr.channels[c].headInPlay then readWith c (slotsBehind s.chr.channels[c]) s.chr.reading else s.chr.reading) s

theorem linkTrue_withChannel (hz : q.zoneSet = s.chr.channels[c].zoneSet) (l : LinkCondition) :
    (withChannel c q f s).linkTrue c l = s.linkTrue c l := by
  cases l with
  | always | liftsUnavailable | notSilenced => rfl
  | reentryImpaired =>
    simp only [State.linkTrue, withChannel_record, hz]
    rfl

theorem chosenLink_withChannel (hz : q.zoneSet = s.chr.channels[c].zoneSet) :
    (withChannel c q f s).chosenLink c n = s.chosenLink c n := by
  unfold State.chosenLink
  rw [show (withChannel c q f s).cueAt n = s.cueAt n from rfl, linkTrue_withChannel hz]

section
variable (hb : s.chr.channels[c].boundary = some b) (hg : s.chr.channels[c].grant = some g)
  (hd : ∀ src, g.prog.demand ≠ .live src) (hk : s.cue.chains[c] = some k)
include hb hg hd hk

theorem boundaryAt_chain : boundaryAt c s = match s.advance k with
    | some j => joinZones c (playBlock c j ((blockEnded c b s).setChain c (some j)))
    | none => match s.chosenLink c k.cue with
      | some n => joinZones c (playBlock c (s.atCue n k.started)
          (keepCandidate c k.cue n ((blockEnded c b s).setChain c (some (s.atCue n k.started)))))
      | none => chainEnds c k.cue g (blockEnded c b s) := by
  have hdrop : dropEnded c (withChannel c (boundaryMoved b s.chr.channels[c]) s.chr.reading s) = blockEnded c b s :=
    dropEnded_withChannel
  have hchain : boundaryAt c s =
      chainBoundary c k g (withChannel c (boundaryMoved b s.chr.channels[c]) s.chr.reading s) := by
    unfold boundaryAt
    dsimp only
    rw [hg, mapChannel_eq_withChannel, hb, hk]
    dsimp only
    split
    next src hdem => exact absurd hdem (hd src)
    all_goals rfl
  rw [hchain]
  unfold chainBoundary
  dsimp only
  rw [hdrop, chosenLink_withChannel (q := boundaryMoved b s.chr.channels[c]) rfl]
  rfl

theorem boundaryAt_advance (h : s.advance k = some next) :
    boundaryAt c s = joinZones c (playBlock c next ((blockEnded c b s).setChain c (some next))) := by
  rw [boundaryAt_chain hb hg hd hk, h]

theorem boundaryAt_link (h : cueIsOver s k) (hn : s.chosenLink c k.cue = some n) : boundaryAt c s =
    joinZones c (playBlock c (startOf s n k.started)
      (keepCandidate c k.cue n ((blockEnded c b s).setChain c (some (startOf s n k.started))))) := by
  rw [boundaryAt_chain hb hg hd hk, advance_of_cueIsOver h, hn, ← atCue_eq]

theorem boundaryAt_end (h : cueIsOver s k) (hn : s.chosenLink c k.cue = none) :
    boundaryAt c s = chainEnds c k.cue g (blockEnded c b s) := by
  rw [boundaryAt_chain hb hg hd hk, advance_of_cueIsOver h, hn]

end

/-! ## The end of a chain (R116, R121, R122) -/

/-- The records of CUE when the zones of a channel have heard a chain to its end (R116). -/
def restedCue (c : ChannelId) (n start : Nat) (d : Demand) (s : State) : Cue :=
  { s.cue with
    finished := if (s.cueAt n).report then s.cue.finished.set c.val (some ⟨n, start, s.now⟩) c.isLt else s.cue.finished
    zones := tab fun z => if s.chr.channels[c].zoneSet.contains z then completeSlot d s.cue.zones[z] else s.cue.zones[z] }

theorem restZones_markFinished (start : Nat) :
    restZones c d (markFinished c n start s) = s.withCue (restedCue c n start d s) := by
  unfold restZones markFinished restedCue
  split <;> rfl

/-- A release empties what a block boundary changes of the record of the channel (R121). -/
theorem releaseChannel_blockEnded (X : Cue) :
    releaseChannel c ((blockEnded c b s).withCue X) = releaseChannel c (s.withCue X) := by
  have hreading : ∀ f, f = s.chr.reading ∨ f = readWith c (slotsBehind s.chr.channels[c]) s.chr.reading →
      readDropped c f = readDropped c s.chr.reading := by
    rintro _ (rfl | rfl)
    · rfl
    · rw [readDropped_eq, readDropped_eq, readWith_readWith (List.nil_subset _)]
  have hrel := releaseChannel_released (c := c) (s := (blockEnded c b s).withCue X)
  have hrel2 := releaseChannel_released (c := c) (s := s.withCue X)
  unfold channelReleased at hrel hrel2
  refine hrel.trans (Eq.trans ?_ hrel2.symm)
  unfold blockEnded withChannel
  simp only [withCue_chr, set_fin_same, Vector.set_set]
  rw [hreading _ (ite_eq_or_eq _ _ _).symm]
  rfl

theorem chainEnds_blockEnded (n : Nat) (g : Grant) : chainEnds c n g (blockEnded c b s) = arbitrationPass (afterChain g.prog
    (releaseChannel c (s.withCue (restedCue c n ((startCue g.prog.demand).getD n) g.prog.demand s)))) := by
  have hcue : ∀ start, restedCue c n start g.prog.demand (blockEnded c b s) = restedCue c n start g.prog.demand s := by
    intro start
    unfold restedCue blockEnded
    rw [withChannel_record]
    rfl
  unfold chainEnds
  dsimp only
  rw [restZones_markFinished, hcue, releaseChannel_blockEnded]

theorem restedCue_chains (n start : Nat) : (restedCue c n start d s).chains = s.cue.chains := by
  unfold restedCue
  dsimp only

theorem restedCue_finished (n start : Nat) : (restedCue c n start d s).finished =
    if (s.cueAt n).report then s.cue.finished.set c.val (some ⟨n, start, s.now⟩) c.isLt else s.cue.finished := by
  unfold restedCue
  dsimp only

theorem restedCue_zones (n start : Nat) (z : SpeakerId) : (restedCue c n start d s).zones[z] =
    if z ∈ s.chr.channels[c].zoneSet then completeSlot d s.cue.zones[z] else s.cue.zones[z] := by
  unfold restedCue
  dsimp only
  rw [tab_fin]
  simp only [List.contains_iff_mem]

theorem afterChain_tenant {p : Programme} {i j : Nat} (h : p.demand = .tenant i j) :
    afterChain p s = { s with deliveries := s.deliveries ++ [.tenantCompletion i] } := by
  unfold afterChain
  rw [h]
  rfl

theorem afterChain_waits {p : Programme} {i : Nat} (h : ∀ k q, p.demand ≠ .tenant k q) (hi : s.demandInstant p.demand = some i) :
    afterChain p s = { s with chr := { s.chr with waiting := s.chr.waiting ++ [⟨p.demand, i⟩] } } := by
  unfold afterChain
  rw [hi]
  cases hdem : p.demand with
  | tenant k q => exact absurd hdem (h k q)
  | fire | live => rfl

theorem afterChain_gone {p : Programme} (h : ∀ k q, p.demand ≠ .tenant k q) (hi : s.demandInstant p.demand = none) :
    afterChain p s = s := by
  unfold afterChain
  rw [hi]
  cases hdem : p.demand with
  | tenant k q => exact absurd hdem (h k q)
  | fire | live => rfl

end

theorem releaseChannel_hears (c : ChannelId) (s : State) : zoneHears (releaseChannel c s) = zoneHears s := zoneHears_congr rfl rfl

/-- Settles O42: CUE rests the zones, CHR releases the channel, and the programmes that wait are arbitrated. -/
theorem chainEndRestsItsZones : Obligations.ChainEndRestsItsZones := by
  intro c g k b s hb hn hg hd hk hover hlink
  obtain ⟨t, ht, hframe, hends⟩ := blockBoundary_ends hb hn
  rw [boundaryAt_end hb hg hd hk hover hlink, chainEnds_blockEnded] at hends
  generalize hX : restedCue c k.cue ((startCue g.prog.demand).getD k.cue) g.prog.demand s = X at hends
  have hinstant := congrFun (demandInstant_congr (releaseChannel_hears c (s.withCue X))) g.prog.demand
  refine ⟨t, s.withCue X, releaseChannel c (s.withCue X), _, _, ht, hframe, releaseChannel_released,
    arbitrationPass_arbitrated, hends, rfl, ?_, ?_, ?_, fun _ _ hten => afterChain_tenant hten, fun hten => ⟨?_, ?_⟩⟩
  · rw [withCue_cue, ← hX]
    exact restedCue_chains _ _
  · rw [withCue_cue, ← hX]
    exact restedCue_finished _ _
  · rw [withCue_cue, ← hX]
    intro z
    rw [restedCue_zones]
    refine if_congr Iff.rfl ?_ rfl
    cases hdem : g.prog.demand with
    | live src => exact absurd hdem (hd src)
    | fire | tenant => rfl
  · exact fun hempty => afterChain_gone hten (hinstant.trans (demandInstant_eq_none.2 hempty))
  · exact fun i hi => afterChain_waits hten (hinstant.trans (demandInstant_eq_some.2 hi))

end Sys2Proof.Machine
end

section
/-! PROOF. The block boundary within a chain (R112, R113, R126, R128, R130, R131). -/

namespace Sys2Proof.Machine

section
variable {s : State} {c : ChannelId} {g : Grant} {k next : Chain} {b n i : Nat} {q x : ChannelRec} {f : Option FlashRead}
  {left : List Slot}

/-! ## The blocks that the area holds behind the block in progress (R128) -/

/-- The slots behind the block in progress hold the blocks that the chain plays next, in their order. -/
theorem slotsBehind_upcoming (h : areasSound s) (hg : s.chr.channels[c].grant = some g) (hd : ∀ src, g.prog.demand ≠ .live src)
    (hk : s.cue.chains[c] = some k) :
    (slotsBehind s.chr.channels[c]).map (·.block) <+: s.upcoming (s.areaSize (.channel c)) k := by
  obtain ⟨-, -, -, -, hunbegun, hprefix, -, hsegment, -⟩ := h c
  have hchain : s.cue.chains[c] ≠ none := by rw [hk]; nofun
  have hbegun : s.chr.channels[c].begun = true := by
    by_contra hn
    exact hchain (hunbegun (Bool.eq_false_of_not_eq_true hn)).2
  have hstart : ∃ m, startCue g.prog.demand = some m := by
    cases hdem : g.prog.demand with
    | live src => exact absurd hdem (hd src)
    | fire m | tenant _ m => exact ⟨m, rfl⟩
  obtain ⟨m, hm⟩ := hstart
  have horder : ∀ size, s.readOrder c size =
      (if s.chr.channels[c].headInPlay then (s.blockAt k).toList else []) ++ s.upcoming size k := by
    intro size
    unfold State.readOrder
    dsimp only
    rw [hg, Option.bind_some, hm, hbegun, hk]
    rfl
  have hslots := hprefix (.inr hchain)
  rw [horder] at hslots
  unfold slotsBehind
  cases hplay : s.chr.channels[c].headInPlay with
  | false =>
    rw [hplay] at hslots
    exact hslots
  | true =>
    obtain ⟨j, hj⟩ := hsegment k hplay hk
    have hblock : s.blockAt k = some ((s.cueAt k.cue).start + j) := by rw [State.blockAt, hj]
    rw [hplay, hblock] at hslots
    simpa using hslots.drop 1

theorem blockAt_segment (h : next.pos = .segment i) : s.blockAt next = some ((s.cueAt next.cue).start + i) := by
  rw [State.blockAt, h]

theorem blockAt_startOf (n started : Nat) : s.blockAt (startOf s n started) = some (s.cueAt n).start := rfl

/-- Within a cue, the first of the upcoming blocks is that of the move. -/
theorem upcoming_within (hm : movesWithin s k next) (hi : next.pos = .segment i) (n : Nat) :
    (s.upcoming n k)[0]? = if n = 0 then none else some ((s.cueAt next.cue).start + i) := by
  cases n with
  | zero => rfl
  | succ n => simp [State.upcoming, nextSegment_of_movesWithin hm hi, blockAt_segment hi]

/-- Over a link by ALWAYS, the first of the upcoming blocks is that of the next cue. -/
theorem upcoming_always (h : cueIsOver s k) (hc : (s.cueAt k.cue).condition = .always) (hn : (s.cueAt k.cue).nextTrue = some n)
    (m : Nat) : (s.upcoming m k)[0]? = if m = 0 then none else some (s.cueAt n).start := by
  cases m with
  | zero => rfl
  | succ m => simp [State.upcoming, nextSegment_of_cueIsOver h, hc, hn, atCue_eq, blockAt_startOf]

/-- At a link by a condition, the upcoming blocks are those of the candidates. -/
theorem upcoming_candidates (h : cueIsOver s k) (hc : (s.cueAt k.cue).condition ≠ .always) (m : Nat) :
    s.upcoming m k = if m = 0 then [] else (s.candidates k.cue).map fun q => (s.cueAt q).start := by
  cases m with
  | zero => rfl
  | succ m =>
    simp only [State.upcoming, nextSegment_of_cueIsOver h]
    cases hcond : (s.cueAt k.cue).condition with
    | always => exact absurd hcond hc
    | liftsUnavailable | reentryImpaired | notSilenced => rfl

/-- A slot of the area holds the block that stands at its place in the order of the upcoming ones. -/
theorem getElem?_of_map_prefix {xs : List Slot} {l : List Nat} {j : Nat} {y : Slot} (h : xs.map (·.block) <+: l)
    (hy : xs[j]? = some y) : l[j]? = some y.block := by
  obtain ⟨rest, rfl⟩ := h
  have hj : (xs.map (·.block))[j]? = some y.block := by rw [List.getElem?_map, hy]; rfl
  rw [List.getElem?_append_left (List.getElem?_eq_some_iff.1 hj).1, hj]

/-! ## The area that is left (R128, R130) -/

/-- What is left of the area of a channel when its chain moves from `k` to `next`: the slots behind the block that has ended, or,
at a link that was undecided, that of the candidate which is taken; its first slot holds the block at the new position. -/
structure AreaLeft (s : State) (c : ChannelId) (k next : Chain) (left : List Slot) : Prop where
  kept : (s.cueAt k.cue).condition = .always ∨ movesWithin s k next → left = slotsBehind s.chr.channels[c]
  chosen : ∀ n, (s.cueAt k.cue).condition ≠ .always →
    cueIsOver s k ∧ s.chosenLink c k.cue = some n ∧ next = startOf s n k.started → left = ((slotsBehind s.chr.channels[c])[if (s.cueAt k.cue).nextTrue = none ∨ (s.cueAt k.cue).nextTrue = some n
      then 0 else 1]?).toList
  head : ∀ i y rest, next.pos = .segment i → left = y :: rest → y.block = (s.cueAt next.cue).start + i

/-- The state of a channel between two blocks, with the slots `left` in its area. -/
def blockLeft (c : ChannelId) (b : Nat) (left : List Slot) (s : State) : State :=
  withChannel c (endedRecord b left s.chr.channels[c]) (readWith c left s.chr.reading) s

theorem blockEnded_eq (h : areasSound s) : blockEnded c b s = blockLeft c b (slotsBehind s.chr.channels[c]) s := by
  unfold blockEnded blockLeft
  congr 1
  refine ite_eq_left_iff.2 fun hn => ?_
  unfold slotsBehind
  rw [if_neg hn, readWith_of_areasSound h]

theorem keepCandidate_always (h : (s.cueAt k.cue).condition = .always) : keepCandidate c k.cue n s = s :=
  if_pos (beq_iff_eq.2 h)

theorem keepCandidate_blockLeft {before after : List Nat} (h : (s.cueAt k.cue).condition ≠ .always)
    (hc : s.candidates k.cue = before ++ n :: after) (hb : n ∉ before) (ha : n ∉ after) (xs : List Slot) (m : Option Chain) :
    keepCandidate c k.cue n ((blockLeft c b xs s).setChain c m) = (blockLeft c b (xs[before.length]?).toList s).setChain c m := by
  have hsub : (xs[before.length]?).toList ⊆ xs := fun y hy => List.mem_of_getElem? (Option.mem_toList.1 hy)
  have hslots : ((blockLeft c b xs s).setChain c m).chr.channels[c].slots = xs :=
    congrArg ChannelRec.slots withChannel_record
  unfold keepCandidate
  refine (if_neg fun hcond => h (beq_iff_eq.1 hcond)).trans ?_
  dsimp only
  rw [hslots,
    show ((blockLeft c b xs s).setChain c m).candidates k.cue = before ++ n :: after from hc, zip_filterMap_chosen hb ha]
  refine (putSlots_withChannel (s := s.setChain c m)).trans ?_
  rw [readWith_readWith hsub]
  rfl

section
variable (hs : areasSound s) (hb : s.chr.channels[c].boundary = some b) (hg : s.chr.channels[c].grant = some g)
  (hd : ∀ src, g.prog.demand ≠ .live src) (hk : s.cue.chains[c] = some k)
include hs hb hg hd hk

theorem boundaryAt_within (hm : movesWithin s k next) :
    ∃ left, AreaLeft s c k next left
      ∧ boundaryAt c s = joinZones c (playBlock c next ((blockLeft c b left s).setChain c (some next))) := by
  refine ⟨_, ⟨fun _ => rfl, fun n _ hn => absurd hm (not_movesWithin_of_cueIsOver hn.1), fun i y rest hi hy => ?_⟩, ?_⟩
  · have hblock := getElem?_of_map_prefix (slotsBehind_upcoming hs hg hd hk) (j := 0) (by rw [hy]; rfl)
    rw [upcoming_within hm hi] at hblock
    split at hblock
    · cases hblock
    · exact (Option.some.inj hblock).symm
  · rw [boundaryAt_advance hb hg hd hk (advance_of_movesWithin hm), blockEnded_eq hs]

theorem boundaryAt_linked (h : cueIsOver s k) (hn : s.chosenLink c k.cue = some n) (hnext : next = startOf s n k.started) :
    ∃ left, AreaLeft s c k next left
      ∧ boundaryAt c s = joinZones c (playBlock c next ((blockLeft c b left s).setChain c (some next))) := by
  subst hnext
  rw [boundaryAt_link hb hg hd hk h hn, blockEnded_eq hs]
  have hslots := slotsBehind_upcoming hs hg hd hk
  by_cases hc : (s.cueAt k.cue).condition = .always
  · refine ⟨_, ⟨fun _ => rfl, fun m hcm => absurd hc hcm, fun i y rest hi hy => ?_⟩, ?_⟩
    · have htrue : (s.cueAt k.cue).nextTrue = some n := by
        rw [← hn, State.chosenLink, hc]
        rfl
      have hblock := getElem?_of_map_prefix hslots (j := 0) (by rw [hy]; rfl)
      rw [upcoming_always h hc htrue] at hblock
      cases hi
      split at hblock
      · cases hblock
      · exact (Option.some.inj hblock).symm
    · rw [keepCandidate_always (s := (blockLeft _ _ _ s).setChain _ _) hc]
  · obtain ⟨before, after, hcand, hbefore, hafter, hlen⟩ := candidates_chosen hn
    refine ⟨_, ⟨fun hm => ?_, fun m _ hm => ?_, fun i y rest hi hy => ?_⟩,
      by rw [keepCandidate_blockLeft hc hcand hbefore hafter]⟩
    · exact absurd hm (not_or.2 ⟨hc, not_movesWithin_of_cueIsOver h⟩)
    · have hmn : n = m := Option.some.inj (hn.symm.trans hm.2.1)
      rw [hlen, hmn]
    · have hy' : (slotsBehind s.chr.channels[c])[before.length]? = some y := by
        refine Option.mem_toList.1 ?_
        rw [hy]
        exact List.mem_cons_self
      have hblock := getElem?_of_map_prefix hslots hy'
      rw [upcoming_candidates h hc, hcand] at hblock
      cases hi
      split at hblock
      · cases hblock
      · refine Option.some.inj (Eq.trans ?_ hblock).symm
        simp [startOf]

end

/-! ## The block at the new position (R130, R131) -/

/-- What the block at a new position of a cue whose segment starts at block `first` makes of the record `q` of its channel, and
what it delivers. -/
structure BlockPlays (first : Nat) (c : ChannelId) (next : Chain) (q x : ChannelRec) (news : List Instr) : Prop where
  frame : x = { q with slots := x.slots, headInPlay := x.headInPlay, underrun := x.underrun, audio := x.audio }
  gap : ∀ j, next.pos = .gap j → x.slots = q.slots ∧ x.headInPlay = false ∧ x.audio = .silence ∧ x.underrun = q.underrun
    ∧ news = []
  heard : ∀ i y rest, next.pos = .segment i → q.slots = y :: rest → y.status ≠ .filling →
    x.slots = q.slots ∧ x.headInPlay = true ∧ x.underrun = q.underrun ∧ news = []
      ∧ x.audio = if y.status = .complete then .flashBlock (first + i) else .silence
  underrun : ∀ i, next.pos = .segment i → (∀ y rest, q.slots = y :: rest → y.status = .filling) →
    x.slots = q.slots.drop 1 ∧ x.headInPlay = false ∧ x.audio = .silence ∧ x.underrun = true
      ∧ news = [.troubleRaise .channelUnderrun c.val, .troubleClear .channelUnderrun c.val]

theorem slotAudio_eq (y : Slot) : slotAudio y = if y.status = .complete then .flashBlock y.block else .silence := by
  unfold slotAudio
  cases y.status <;> rfl

theorem underrunAt_withChannel : underrunAt c (withChannel c q (readWith c q.slots f) s) =
    (withChannel c { q with slots := q.slots.drop 1, headInPlay := false, underrun := true, audio := .silence }
      (readWith c (q.slots.drop 1) f) s).deliver
        [.troubleRaise .channelUnderrun c.val, .troubleClear .channelUnderrun c.val] := by
  unfold underrunAt
  dsimp only
  rw [withChannel_record, putSlots_withChannel, mapChannel_withChannel, readWith_readWith (List.drop_subset _ _)]
  rfl

theorem playBlock_plays
    (hhead : ∀ i y rest, next.pos = .segment i → q.slots = y :: rest → y.block = (s.cueAt next.cue).start + i) :
    ∃ x news, BlockPlays (s.cueAt next.cue).start c next q x news ∧ playBlock c next (withChannel c q (readWith c q.slots f) s) =
      (withChannel c x (readWith c x.slots f) s).deliver news := by
  have hnone : ∀ u : State, u = u.deliver [] := fun u => by rw [State.deliver, List.append_nil]
  have hat : (withChannel c q (readWith c q.slots f) s).blockAt next = s.blockAt next := rfl
  unfold playBlock
  rw [hat, withChannel_record]
  cases hp : next.pos with
  | gap j =>
    rw [show s.blockAt next = none by rw [State.blockAt, hp]]
    refine ⟨{ q with headInPlay := false, audio := .silence }, [], ⟨rfl, fun _ _ => ⟨rfl, rfl, rfl, rfl, rfl⟩, ?_, ?_⟩, ?_⟩
    · intro i y rest hi
      rw [hp] at hi
      cases hi
    · intro i hi
      rw [hp] at hi
      cases hi
    · exact (mapChannel_withChannel _).trans (hnone _)
  | segment i =>
    have hgap : ∀ j, next.pos ≠ .gap j := by
      rw [hp]
      nofun
    rw [blockAt_segment hp]
    dsimp only
    by_cases hfill : ∀ y rest, q.slots = y :: rest → y.status = .filling
    · refine ⟨_, _, ⟨rfl, fun j hj => absurd hj (hgap j), fun _ y rest _ hy hny => absurd (hfill y rest hy) hny,
        fun _ _ _ => ⟨rfl, rfl, rfl, rfl, rfl⟩⟩, Eq.trans ?_ underrunAt_withChannel⟩
      cases hslots : q.slots with
      | nil => rfl
      | cons y rest => exact if_pos (beq_iff_eq.2 (hfill y rest hslots))
    · simp only [not_forall] at hfill
      obtain ⟨y, rest, hslots, hy⟩ := hfill
      refine ⟨{ q with headInPlay := true, audio := slotAudio y }, [], ⟨rfl, fun j hj => absurd hj (hgap j), ?_, ?_⟩, ?_⟩
      · intro j z zs hj hz _
        rw [hslots] at hz
        cases hz
        refine ⟨rfl, rfl, rfl, rfl, ?_⟩
        rw [slotAudio_eq, hhead j y rest hj hslots]
      · exact fun _ _ hall => absurd (hall y rest hslots) hy
      · rw [hslots]
        dsimp only [List.head?_cons]
        rw [if_neg (by simpa using hy), ← hslots]
        exact (mapChannel_withChannel _).trans (hnone _)

/-! ## The zones that join (R125, R126) -/

/-- The record of a channel whose pending joins have joined. -/
def joinedRecord (x : ChannelRec) : ChannelRec :=
  { x with zoneSet := (List.finRange 36).filter fun z => x.zoneSet.contains z || x.joins.contains z, joins := [] }

theorem mem_joinedRecord {z : SpeakerId} : z ∈ (joinedRecord x).zoneSet ↔ z ∈ x.zoneSet ∨ z ∈ x.joins := by
  simp [joinedRecord]

theorem joinedRecord_sorted (x : ChannelRec) : (joinedRecord x).zoneSet.Pairwise (· < ·) :=
  List.Pairwise.filter _ (List.pairwise_lt_finRange 36)

/-- A block boundary under the invariant of the areas, in one update. -/
theorem boundaryAt_plays (hs : areasSound s) (hb : s.chr.channels[c].boundary = some b) (hg : s.chr.channels[c].grant = some g)
    (hd : ∀ src, g.prog.demand ≠ .live src) (hk : s.cue.chains[c] = some k)
    (hnext : movesWithin s k next ∨ ∃ n, cueIsOver s k ∧ s.chosenLink c k.cue = some n ∧ next = startOf s n k.started) :
    ∃ left x news, AreaLeft s c k next left
      ∧ BlockPlays (s.cueAt next.cue).start c next (endedRecord b left s.chr.channels[c]) x news
      ∧ boundaryAt c s =
        (withChannel c (joinedRecord x) (readWith c x.slots s.chr.reading) (s.setChain c (some next))).deliver news := by
  have hleft : ∃ left, AreaLeft s c k next left
      ∧ boundaryAt c s = joinZones c (playBlock c next ((blockLeft c b left s).setChain c (some next))) := by
    obtain hm | ⟨n, hover, hn, hat⟩ := hnext
    · exact boundaryAt_within hs hb hg hd hk hm
    · exact boundaryAt_linked hs hb hg hd hk hover hn hat
  obtain ⟨left, harea, hat⟩ := hleft
  obtain ⟨x, news, hplays, hplay⟩ := playBlock_plays (c := c) (q := endedRecord b left s.chr.channels[c])
    (f := s.chr.reading) (s := s.setChain c (some next)) harea.head
  refine ⟨left, x, news, harea, hplays, hat.trans ((congrArg (joinZones c) hplay).trans ?_)⟩
  exact congrArg (fun u => u.deliver news) joinZones_withChannel

end

/-- Settles O41: the area gives up the block that has ended, the chain moves, the block at its new position plays and pending
joins join. -/
theorem boundaryAdvancesTheChain : Obligations.BoundaryAdvancesTheChain := by
  intro c g k next b s hs hb hn hg hd hk q r links hnext
  obtain ⟨t, ht, hframe, hends⟩ := blockBoundary_ends hb hn
  obtain ⟨left, x, news, harea, hplays, hat⟩ := boundaryAt_plays hs hb hg hd hk hnext
  obtain ⟨hrecord, hgap, hheard, hunderrun⟩ := hplays
  have hx : (boundaryAt c s).chr.channels[c] = joinedRecord x := by
    rw [hat]
    exact withChannel_record
  refine ⟨t, boundaryAt c s, ht, hframe, hends, ?_⟩
  dsimp only
  rw [hx, hat]
  refine ⟨rfl, rfl, ?_, joinedRecord_sorted x, fun z => ?_, left, harea.kept, harea.chosen, fun j hj => ?_,
    fun i y rest hi hy hny => ?_, fun i hi hall => ?_⟩
  · rw [joinedRecord, hrecord]
    rfl
  · rw [mem_joinedRecord, hrecord]
    rfl
  · obtain ⟨hslots, hplay, haudio, hunder, rfl⟩ := hgap j hj
    exact ⟨hslots, hplay, haudio, hunder, List.append_nil _⟩
  · obtain ⟨hslots, hplay, hunder, rfl, haudio⟩ := hheard i y rest hi hy hny
    exact ⟨hslots, hplay, hunder, List.append_nil _, haudio⟩
  · obtain ⟨hslots, hplay, haudio, hunder, rfl⟩ := hunderrun i hi hall
    exact ⟨hslots, hplay, haudio, hunder, rfl⟩

end Sys2Proof.Machine
end

section
/-! PROOF. Programmes that CUE hands over at CHR (R110, R115, R119 to R125). -/

namespace Sys2Proof.Machine

section
variable {s : State} {d : Demand} {c : ChannelId} {i j : Nat}

/-! ## The channel that holds a programme (R119) -/

/-- A channel holds a programme. -/
def channelHolds (s : State) (d : Demand) (c : ChannelId) : Prop := ∃ g, s.chr.channels[c].grant = some g ∧ g.prog.demand = d

theorem channelHolds_iff : (s.chr.channels[c].grant.any fun g => g.prog.demand == d) = true ↔ channelHolds s d c := by
  simp [channelHolds, Option.any_eq_true]

theorem channelHolds_of_holder (h : s.holder d = some c) : channelHolds s d c := channelHolds_iff.1 (find_fin h).1

theorem holder_eq_none : s.holder d = none ↔ ∀ c, ¬ channelHolds s d c := by
  unfold State.holder
  rw [List.find?_eq_none]
  exact ⟨fun h c hc => h c (List.mem_finRange c) (channelHolds_iff.2 hc), fun h c _ hc => h c (channelHolds_iff.1 hc)⟩

theorem holder_congr {t : State} (h : ∀ c, channelHolds t d c ↔ channelHolds s d c) : t.holder d = s.holder d := by
  unfold State.holder
  congr 1
  funext c
  exact Bool.eq_iff_iff.2 (channelHolds_iff.trans ((h c).trans channelHolds_iff.symm))

/-! ## A programme that forms (R110, R122) -/

/-- A programme that has formed joins the waiting ones. -/
def joinsWaiting (s : State) (d : Demand) : Prop :=
  (∀ k q, d ≠ .tenant k q) ∧ (∀ src, d = .live src → (s.source src).live = true) ∧ (∀ p ∈ s.chr.waiting, p.demand ≠ d)
    ∧ ∀ c, ¬ channelHolds s d c

theorem sourceStopped_eq_false : s.sourceStopped d = false ↔ ∀ src, d = .live src → (s.source src).live = true := by
  cases d with
  | live src => simp [State.sourceStopped]
  | fire | tenant => exact ⟨fun _ => nofun, fun _ => rfl⟩

theorem isWaiting_eq_false : s.isWaiting d = false ↔ ∀ p ∈ s.chr.waiting, p.demand ≠ d := by
  simp [State.isWaiting]

/-- A fire or live programme waits unless its source has stopped, it waits already, or it holds a channel. -/
theorem programmeFormed_eq (h : ∀ k q, d ≠ .tenant k q) : programmeFormed d j s =
    if s.sourceStopped d || s.isWaiting d || (s.holder d).isSome then s
    else { s with chr := { s.chr with waiting := s.chr.waiting ++ [⟨d, j⟩] } } := by
  cases d with
  | tenant k q => exact absurd rfl (h k q)
  | fire | live => rfl

theorem blocked_eq_false (h : ∀ k q, d ≠ .tenant k q) :
    (s.sourceStopped d || s.isWaiting d || (s.holder d).isSome) = false ↔ joinsWaiting s d := by
  simp only [Bool.or_eq_false_iff, sourceStopped_eq_false, isWaiting_eq_false, Option.isSome_eq_false_iff,
    Option.isNone_iff_eq_none, holder_eq_none, joinsWaiting]
  exact ⟨fun hb => ⟨h, hb.1.1, hb.1.2, hb.2⟩, fun ⟨_, hl, hw, hh⟩ => ⟨⟨hl, hw⟩, hh⟩⟩

theorem programmeFormed_joins (h : joinsWaiting s d) :
    programmeFormed d j s = { s with chr := { s.chr with waiting := s.chr.waiting ++ [⟨d, j⟩] } } := by
  rw [programmeFormed_eq h.1, (blocked_eq_false h.1).2 h]
  rfl

theorem programmeFormed_stays (h : ¬ joinsWaiting s d) : programmeFormed d j s = s := by
  cases hd : d with
  | tenant k q => rfl
  | fire | live =>
    have hten : ∀ k q, d ≠ .tenant k q := by
      rw [hd]
      nofun
    rw [← hd, programmeFormed_eq hten, if_pos]
    rw [← Bool.not_eq_false, blocked_eq_false hten]
    exact h

/-! ## A programme that changes (R110, R125) -/

/-- The record of a channel when the demand set or the demand instant of a programme has changed: the instant of the programme it
holds, and, begun, the joins that its demand set calls for. -/
def renewedRecord (s : State) (d : Demand) (j : Nat) (c : ChannelId) : ChannelRec :=
  { s.chr.channels[c] with
    grant := s.chr.channels[c].grant.map fun g => if g.prog.demand = d then ⟨⟨d, j⟩, g.granted⟩ else g
    joins := if s.chr.channels[c].begun = true ∧ s.holder d = some c then
        (s.demandSet d).filter fun z => !s.chr.channels[c].zoneSet.contains z
      else s.chr.channels[c].joins }

theorem renewedRecord_held {g : Grant} (h : s.chr.channels[c].grant = some g) (hd : g.prog.demand = d) :
    renewedRecord s d j c = { s.chr.channels[c] with
      grant := some ⟨⟨d, j⟩, g.granted⟩
      joins := if s.chr.channels[c].begun = true ∧ s.holder d = some c then
          (s.demandSet d).filter fun z => !s.chr.channels[c].zoneSet.contains z
        else s.chr.channels[c].joins } := by
  unfold renewedRecord
  rw [h, Option.map_some, if_pos hd]

theorem renewedRecord_other (h : ¬ channelHolds s d c) : renewedRecord s d j c = s.chr.channels[c] := by
  have hgrant : (s.chr.channels[c].grant.map fun g => if g.prog.demand = d then ⟨⟨d, j⟩, g.granted⟩ else g)
      = s.chr.channels[c].grant := by
    cases hg : s.chr.channels[c].grant with
    | none => rfl
    | some g => exact congrArg some (if_neg fun hd => h ⟨g, hg, hd⟩)
  unfold renewedRecord
  rw [hgrant, if_neg fun hh => h (channelHolds_of_holder hh.2)]

/-- The state when the demand instant of a programme is renewed, with the records `v` of the channels. -/
def renewed (s : State) (d : Demand) (j : Nat) (v : Vector ChannelRec 4) : State :=
  { s with chr := { s.chr with waiting := s.chr.waiting.map fun p => if p.demand = d then ⟨d, j⟩ else p, channels := v } }

theorem renewInstant_eq : renewInstant d j s = renewed s d j (tab fun c => { s.chr.channels[c] with
    grant := s.chr.channels[c].grant.map fun g => if g.prog.demand = d then ⟨⟨d, j⟩, g.granted⟩ else g }) := by
  have hwaiting : (s.chr.waiting.map fun p => if p.demand == d then { p with instant := j } else p)
      = s.chr.waiting.map fun p => if p.demand = d then ⟨d, j⟩ else p := by
    refine List.map_congr_left fun p _ => ?_
    by_cases hp : p.demand = d <;> simp [hp]
  unfold renewInstant renewed
  rw [hwaiting]
  simp only [beq_iff_eq]
  rfl

theorem holder_renewInstant : (renewInstant d j s).holder d = s.holder d := by
  refine holder_congr fun c => ?_
  rw [renewInstant_eq]
  unfold channelHolds renewed
  simp only [tab_fin, Option.map_eq_some_iff]
  constructor
  · rintro ⟨_, ⟨g, hg, rfl⟩, hd⟩
    by_cases hgd : g.prog.demand = d
    · exact ⟨g, hg, hgd⟩
    · rw [if_neg hgd] at hd
      exact absurd hd hgd
  · rintro ⟨g, hg, hd⟩
    exact ⟨_, ⟨g, hg, rfl⟩, by rw [if_pos hd]⟩

/-- The zones of a begun programme that are not in its zone set wait with pending joins. -/
theorem pendJoins_renewInstant : pendJoins d (renewInstant d j s) = renewed s d j (tab (renewedRecord s d j)) := by
  unfold pendJoins
  rw [holder_renewInstant, renewInstant_eq]
  cases hh : s.holder d with
  | none =>
    refine congrArg (fun f => renewed s d j (tab f)) (funext fun k => ?_)
    rw [renewedRecord, hh, if_neg fun h => nomatch h.2]
  | some c =>
    have hmap : ∀ (v : Vector ChannelRec 4) F,
        (renewed s d j v).mapChannel c F = renewed s d j (v.set c.val (F v[c]) c.isLt) := fun _ _ => rfl
    dsimp only
    rw [hmap, ← apply_ite (renewed s d j)]
    refine congrArg (renewed s d j) (table_ext fun k => ?_)
    rw [tab_fin, apply_ite (fun v : Vector ChannelRec 4 => v[k]), set_fin]
    simp only [renewed, tab_fin, renewedRecord, hh, Option.some.injEq]
    by_cases hk : k = c
    · subst hk
      simp only [if_true, and_true]
      split <;> rfl
    · rw [if_neg hk, ite_self, if_neg fun h => hk h.2.symm]

/-! ## The end of a programme (R121, R122, R124) -/

theorem dropWaiting_eq (d : Demand) (s : State) : dropWaiting d s =
    { s with chr := { s.chr with waiting := s.chr.waiting.filter fun p => decide (p.demand ≠ d) } } := by
  have hfilter : (s.chr.waiting.filter fun p => p.demand != d) = s.chr.waiting.filter fun p => decide (p.demand ≠ d) := by
    refine List.filter_congr fun p _ => ?_
    by_cases hp : p.demand = d <;> simp [hp]
  unfold dropWaiting
  rw [hfilter]
  rfl

theorem tenantEnded_tenant {k q : Nat} (h : d = .tenant k q) :
    tenantEnded d s = { s with deliveries := s.deliveries ++ [.tenantProgrammeEmptied k] } := by
  rw [h]
  rfl

theorem tenantEnded_other (h : ∀ k q, d ≠ .tenant k q) : tenantEnded d s = s := by
  cases d with
  | tenant k q => exact absurd rfl (h k q)
  | fire | live => rfl

/-- The end of a programme: it no longer waits, or its channel is released and a tenant's end is delivered. -/
theorem programmeEnded_ends (d : Demand) (s : State) :
    let others : State := { s with chr := { s.chr with waiting := s.chr.waiting.filter fun p => decide (p.demand ≠ d) } }
    (s.holder d = none → programmeEnded d s = others)
      ∧ ∀ c, s.holder d = some c → ∃ y, channelReleased c others y
          ∧ (∀ k q, d = .tenant k q →
              programmeEnded d s = { y with deliveries := y.deliveries ++ [.tenantProgrammeEmptied k] })
          ∧ ((∀ k q, d ≠ .tenant k q) → programmeEnded d s = y) := by
  intro others
  have hdrop : dropWaiting d s = others := dropWaiting_eq d s
  refine ⟨fun hn => ?_, fun c hc => ⟨releaseChannel c others, releaseChannel_released, fun k q hd => ?_, fun hd => ?_⟩⟩
  · rw [programmeEnded, hn, ← hdrop]
  · rw [programmeEnded, hc, hdrop]
    exact tenantEnded_tenant hd
  · rw [programmeEnded, hc, hdrop]
    exact tenantEnded_other hd

/-! ## The choice of a free channel (R122) -/

theorem chosenFree_unique {a b : ChannelId} (ha : chosenFree s a) (hb : chosenFree s b) : a = b := by
  have hab := ha.2 b hb.1
  have hba := hb.2 a ha.1
  simp only [Fin.le_def] at hab hba
  exact Fin.ext (by omega)

theorem freeChoice_of_chosen (h : chosenFree s c) : s.freeChoice = some c := by
  cases hf : s.freeChoice with
  | none => exact absurd h.1 (ne_true_of_eq_false (freeChoice_none hf c))
  | some a => rw [chosenFree_unique (freeChoice_chosen hf) h]

theorem freeChoice_of_none (h : ∀ c : ChannelId, s.chr.channels[c].free = false) : s.freeChoice = none := by
  cases hf : s.freeChoice with
  | none => rfl
  | some a => exact absurd (freeChoice_chosen hf).1 (ne_true_of_eq_false (h a))

/-! ## The event of a programme that is handed over -/

section
variable {news : ProgrammeNews} {k q : Nat}

theorem programmeHanded_ends {x : State} (h : s.takes (.programmeHanded d news i) = true)
    (hx : programmeTaken d news (s.taken (.programmeHanded d news i)) = arbitrationPass x) :
    ∃ t u, exec (.programmeHanded d news i) s = .next t ∧ onlyChannels s t ∧ arbitrated x u ∧ chrEnds s u t := by
  obtain ⟨t, ht, hframe, hends⟩ := chrDelivery_ends h (programmeTaken_chrOnly _ d news)
  rw [hx] at hends
  exact ⟨t, _, congrArg Host.Outcome.next ht, hframe, arbitrationPass_arbitrated, hends⟩

/-- A formed or changed programme whose demand set has emptied since is no programme (R110, log entry 18). -/
theorem programmeTaken_emptied (hn : news ≠ .ended) (h : s.demandSet d = []) : programmeTaken d news s = arbitrationPass s := by
  unfold programmeTaken
  rw [demandInstant_eq_none.2 h]
  cases news with
  | ended => exact absurd rfl hn
  | formed | changed => rfl

theorem programmeTaken_formed (h : earliestInstant s d j) :
    programmeTaken d .formed s = arbitrationPass (programmeFormed d j s) := by
  unfold programmeTaken
  rw [demandInstant_eq_some.2 h]

theorem programmeTaken_changed (h : earliestInstant s d j) :
    programmeTaken d .changed s = arbitrationPass (renewed s d j (tab (renewedRecord s d j))) := by
  unfold programmeTaken
  rw [demandInstant_eq_some.2 h, ← pendJoins_renewInstant]

end

theorem earliestInstant_unique {i j : Nat} (hi : earliestInstant s d i) (hj : earliestInstant s d j) : i = j :=
  Option.some.inj ((demandInstant_eq_some.2 hi).symm.trans (demandInstant_eq_some.2 hj))

theorem not_earliestInstant (h : s.demandSet d = []) : ¬ earliestInstant s d i := fun hi => by
  have := (demandInstant_eq_none.2 h).symm.trans (demandInstant_eq_some.2 hi)
  cases this

end

/-- Settles O38: CHR takes what it is handed (`programmeTaken`) and makes a pass, and a tenant programme has the chosen free
channel or its refusal. -/
theorem handedProgrammesAreArbitrated : Obligations.HandedProgrammesAreArbitrated := by
  refine ⟨fun d news i s h => ?_, fun k q i s h => ?_⟩
  · by_cases hempty : news ≠ .ended ∧ s.demandSet d = []
    · obtain ⟨t, u, ht, hframe, hpass, hends⟩ := programmeHanded_ends h (programmeTaken_emptied hempty.1 hempty.2)
      exact ⟨t, _, u, ht, hframe, hpass, hends, fun _ _ => rfl, fun _ j hj => absurd hj (not_earliestInstant hempty.2),
        fun _ j hj => absurd hj (not_earliestInstant hempty.2), fun he => absurd he hempty.1⟩
    · have hset : news ≠ .ended → s.demandSet d ≠ [] := fun hn hd => hempty ⟨hn, hd⟩
      cases news with
      | ended =>
        obtain ⟨t, u, ht, hframe, hpass, hends⟩ := programmeHanded_ends (x := programmeEnded d _) h rfl
        exact ⟨t, _, u, ht, hframe, hpass, hends, fun hn => absurd rfl hn, nofun, nofun, fun _ =>
          programmeEnded_ends d (s.taken (.programmeHanded d .ended i))⟩
      | formed =>
        obtain ⟨j, hj⟩ := exists_demandInstant (hset nofun)
        have hj := demandInstant_eq_some.1 hj
        obtain ⟨t, u, ht, hframe, hpass, hends⟩ := programmeHanded_ends h (programmeTaken_formed (s := s.taken _) hj)
        refine ⟨t, _, u, ht, hframe, hpass, hends, fun hn hd => absurd hd (hset hn), fun _ k hk => ?_, nofun, nofun⟩
        rw [← earliestInstant_unique hj hk]
        exact ⟨programmeFormed_joins (s := s.taken (.programmeHanded d .formed i)),
          programmeFormed_stays (s := s.taken (.programmeHanded d .formed i))⟩
      | changed =>
        obtain ⟨j, hj⟩ := exists_demandInstant (hset nofun)
        have hj := demandInstant_eq_some.1 hj
        obtain ⟨t, u, ht, hframe, hpass, hends⟩ := programmeHanded_ends h (programmeTaken_changed (s := s.taken _) hj)
        refine ⟨t, _, u, ht, hframe, hpass, hends, fun hn hd => absurd hd (hset hn), nofun, fun _ k hk => ?_, nofun⟩
        rw [← earliestInstant_unique hj hk]
        refine ⟨rfl, fun c => ⟨fun hc => (tab_fin _ c).trans (renewedRecord_other hc), fun g hg hd => ?_⟩⟩
        exact (tab_fin _ c).trans (renewedRecord_held hg hd)
  · obtain ⟨t, ht, hframe, hends⟩ := chrDelivery_ends h (tenantTaken_chrOnly _ k q i)
    refine ⟨t, _, congrArg Host.Outcome.next ht, hframe, hends, fun c hc => ?_, fun hn => ?_⟩
    · rw [tenantTaken, freeChoice_of_chosen (s := s.taken _) hc]
      exact grantChannel_granted _
    · rw [tenantTaken, freeChoice_of_none (s := s.taken _) hn]
      rfl

end Sys2Proof.Machine
end

section
/-! SUPPORT. What CUE hands over at the end of an event (R110, R115, R122, log entries 18 and 19). -/

namespace Sys2Proof.Machine

section
variable {s t : State} {d a : Demand} {e : Instr} {i : Nat}

/-! ## The programmes that exist, by their lowest zones (R122) -/

/-- The values of a table over rising numbers, each once, stand in the order of their first numbers. -/
theorem filterMap_eraseDups_rises {n : Nat} {β : Type} [DecidableEq β] (f : Fin n → Option β) (l : List (Fin n))
    (hl : l.Pairwise (· < ·)) :
    (l.filterMap f).eraseDups.Pairwise fun a b => ∃ z ∈ l, f z = some a ∧ ∀ y ∈ l, f y = some b → z < y := by
  induction hlen : l.length using Nat.strong_induction_on generalizing l with
  | _ m ih =>
    cases l with
    | nil => exact List.Pairwise.nil
    | cons z l =>
      obtain ⟨hz, hl⟩ := List.pairwise_cons.1 hl
      cases hf : f z with
      | none =>
        rw [List.filterMap_cons_none hf]
        refine (ih l.length (by rw [← hlen]; simp) l hl rfl).imp ?_
        rintro a b ⟨x, hx, hxa, hlow⟩
        refine ⟨x, List.mem_cons_of_mem _ hx, hxa, fun y hy hyb => ?_⟩
        obtain rfl | hy := List.mem_cons.1 hy
        · rw [hf] at hyb
          cases hyb
        · exact hlow y hy hyb
      | some a =>
        have hrest : (l.filterMap f).filter (fun b => !b == a) = (l.filter fun y => !f y == some a).filterMap f := by
          rw [List.filter_filterMap, List.filterMap_filter]
          refine List.filterMap_congr fun y _ => ?_
          cases hy : f y with
          | none => simp
          | some b => by_cases hb : b = a <;> simp [hb]
        rw [List.filterMap_cons_some hf, List.eraseDups_cons, hrest, List.pairwise_cons]
        refine ⟨fun b hb => ⟨z, List.mem_cons_self, hf, fun y hy hyb => ?_⟩, ?_⟩
        · obtain ⟨w, hw, hwb⟩ := List.mem_filterMap.1 (List.mem_eraseDups.1 hb)
          obtain rfl | hy := List.mem_cons.1 hy
          · rw [hf] at hyb
            cases hyb
            simp [hwb] at hw
          · exact hz y hy
        · have hless : (l.filter fun y => !f y == some a).length < m := by
            rw [← hlen]
            exact Nat.lt_succ_of_le (List.length_filter_le _ _)
          refine (ih _ hless _ (hl.filter _) rfl).imp_of_mem ?_
          rintro b b' _ hb' ⟨x, hx, hxb, hlow⟩
          obtain ⟨w, hw, hwb⟩ := List.mem_filterMap.1 (List.mem_eraseDups.1 hb')
          have hne : b' ≠ a := by
            rintro rfl
            simp [hwb] at hw
          refine ⟨x, List.mem_cons_of_mem _ (List.mem_of_mem_filter hx), hxb, fun y hy hyb => ?_⟩
          obtain rfl | hy := List.mem_cons.1 hy
          · rw [hf] at hyb
            exact absurd (Option.some.inj hyb).symm hne
          · exact hlow y (List.mem_filter.2 ⟨hy, by simp [hyb, hne]⟩) hyb

theorem mem_programmes : d ∈ s.programmes ↔ s.demandSet d ≠ [] := by
  rw [demandSet_ne_nil, State.programmes, List.mem_eraseDups, List.mem_filterMap]
  simp

theorem programmes_rise (s : State) : s.programmes.Pairwise fun a b => s.lowestZone a < s.lowestZone b := by
  refine (filterMap_eraseDups_rises s.programmeOf (List.finRange 36) (List.pairwise_lt_finRange 36)).imp ?_
  rintro a b ⟨z, -, hz, hlow⟩
  exact (lowestZone_lt a b).2 ⟨z, mem_demandSet.2 hz, fun y hy => hlow y (List.mem_finRange y) (mem_demandSet.1 hy)⟩

theorem nodup_of_zones_rise {l : List Demand} (h : l.Pairwise fun a b => s.lowestZone a < s.lowestZone b) : l.Nodup :=
  h.imp fun hab he => by rw [he] at hab; exact lt_irrefl _ hab

/-! ## The order in which new programmes are handed over (R122, log entry 19) -/

/-- A programme as it is handed over: with its demand instant. -/
def handedProgramme (t : State) (d : Demand) : Programme := ⟨d, (t.demandInstant d).getD t.now⟩

/-- Programme `b` does not come before programme `a` in the order of R122. -/
def inOrder (t : State) (a b : Demand) : Prop := ¬ t.goesBefore (handedProgramme t b) (handedProgramme t a) = true

theorem handedBefore_iff (a b : Demand) : t.handedBefore a b = true ↔ demandPriority a < demandPriority b
    ∨ (demandPriority a = demandPriority b ∧ (handedProgramme t a).instant < (handedProgramme t b).instant) := by
  unfold State.handedBefore handedProgramme
  by_cases h : demandPriority a = demandPriority b <;> simp [h]

theorem handInsert_perm (d : Demand) (ds : List Demand) : (handInsert t d ds).Perm (d :: ds) := by
  unfold handInsert
  refine List.perm_middle.trans (List.Perm.cons d ?_)
  rw [List.takeWhile_append_dropWhile]

/-- A programme whose lowest zone is above those of the others is put behind all that it does not outrank. -/
theorem handInsert_inOrder {ds : List Demand} (h : ds.Pairwise (inOrder t)) (hz : ∀ e ∈ ds, t.lowestZone e < t.lowestZone d) :
    (handInsert t d ds).Pairwise (inOrder t) := by
  have hsplit := h
  rw [← List.takeWhile_append_dropWhile (p := fun e => !t.handedBefore d e) (l := ds), List.pairwise_append] at hsplit
  obtain ⟨hfront, hback, hacross⟩ := hsplit
  have houtranks : ∀ e ∈ ds.dropWhile (fun e => !t.handedBefore d e), t.handedBefore d e = true := by
    cases hdrop : ds.dropWhile (fun e => !t.handedBefore d e) with
    | nil => nofun
    | cons e rest =>
      have hhead : t.handedBefore d e = true := by
        have := List.head_dropWhile_not (fun e => !t.handedBefore d e) (l := ds) (by rw [hdrop]; nofun)
        simpa [hdrop] using this
      rw [hdrop, List.pairwise_cons] at hback
      intro b hb
      obtain rfl | hb := List.mem_cons.1 hb
      · exact hhead
      · have hle := hback.1 b hb
        unfold inOrder at hle
        rw [goesBefore_lex] at hle
        rw [handedBefore_iff] at hhead ⊢
        simp only [handedProgramme] at hle hhead ⊢
        omega
  unfold handInsert
  rw [List.pairwise_append, List.pairwise_cons]
  refine ⟨hfront, ⟨fun b hb => ?_, hback⟩, fun a ha b hb => ?_⟩
  · have hout := houtranks b hb
    unfold inOrder
    rw [goesBefore_lex]
    rw [handedBefore_iff] at hout
    simp only [handedProgramme] at hout ⊢
    omega
  · obtain rfl | hb := List.mem_cons.1 hb
    · have hnot : ¬ t.handedBefore b a = true := by simpa using List.mem_takeWhile_imp ha
      have hlow := hz a ((List.takeWhile_sublist _).subset ha)
      unfold inOrder
      rw [goesBefore_lex]
      rw [handedBefore_iff] at hnot
      simp only [handedProgramme] at hnot ⊢
      omega
    · exact hacross a ha b hb

/-- New programmes taken by their lowest zones end in the order of R122. -/
theorem foldl_handInsert {l : List Demand} (hl : l.Pairwise fun a b => t.lowestZone a < t.lowestZone b) {ds : List Demand}
    (h : ds.Pairwise (inOrder t)) (hz : ∀ e ∈ ds, ∀ d ∈ l, t.lowestZone e < t.lowestZone d) :
    (l.foldl (fun ds d => handInsert t d ds) ds).Pairwise (inOrder t)
      ∧ (l.foldl (fun ds d => handInsert t d ds) ds).Perm (ds ++ l) := by
  induction l generalizing ds with
  | nil => exact ⟨h, by rw [List.append_nil]; rfl⟩
  | cons d l ih =>
    obtain ⟨hd, hl⟩ := List.pairwise_cons.1 hl
    have hperm := handInsert_perm (t := t) d ds
    obtain ⟨horder, hall⟩ := ih hl (handInsert_inOrder h fun e he => hz e he d List.mem_cons_self) fun e he b hb => by
      obtain rfl | he := List.mem_cons.1 (hperm.mem_iff.1 he)
      · exact hd b hb
      · exact hz e he b (List.mem_cons_of_mem _ hb)
    exact ⟨horder, hall.trans ((hperm.append_right l).trans List.perm_middle.symm)⟩

theorem newProgrammes_inOrder (s t : State) : (newProgrammes s t).Pairwise (inOrder t)
    ∧ (newProgrammes s t).Perm (t.programmes.filter fun d => !s.programmes.contains d) := by
  exact foldl_handInsert ((programmes_rise t).filter _) List.Pairwise.nil nofun

theorem mem_newProgrammes : d ∈ newProgrammes s t ↔ s.demandSet d = [] ∧ t.demandSet d ≠ [] := by
  rw [(newProgrammes_inOrder s t).2.mem_iff, List.mem_filter, mem_programmes, and_comm]
  simp [mem_programmes]

/-! ## The list of what an event hands over (R110) -/

/-- The programme that a delivery of CUE to CHR hands over. -/
def handedDemand (e : Instr) : Option Demand :=
  match e with
  | .programmeHanded d _ _ => some d
  | .tenantProgrammeHanded k q _ => some (.tenant k q)
  | _ => none

theorem mem_newsOf : e ∈ newsOf s t d ↔ handedOf s t d e := by
  have hinst : ∀ i, earliestInstant t d i → (t.demandInstant d).getD t.now = i := fun i hi => by
    rw [demandInstant_eq_some.2 hi]
    rfl
  have hexists : t.demandSet d ≠ [] → earliestInstant t d ((t.demandInstant d).getD t.now) := fun ht => by
    obtain ⟨i, hi⟩ := exists_demandInstant ht
    rw [hi]
    exact demandInstant_eq_some.1 hi
  have hsome : ∀ {P : Nat → Prop}, t.demandSet d ≠ [] →
      ((∃ i, earliestInstant t d i ∧ P i) ↔ P ((t.demandInstant d).getD t.now)) := fun {P} ht =>
    ⟨fun ⟨i, hi, hp⟩ => by rwa [hinst i hi], fun hp => ⟨_, hexists ht, hp⟩⟩
  unfold newsOf handedOf
  by_cases hs : s.demandSet d = [] <;> by_cases ht : t.demandSet d = []
  · simp [hs, ht]
  · simp only [hs, ht, List.isEmpty_nil, List.isEmpty_iff, if_true, if_false, ne_eq, not_true_eq_false, not_false_eq_true,
      true_and, false_and, or_false, hsome ht]
    cases d <;> exact List.mem_singleton
  · simp [hs, ht]
  · simp only [hs, ht, List.isEmpty_iff, if_false, ne_eq, not_false_eq_true, true_and, false_and, false_or, hsome ht]
    have hsame : s.demandInstant d = t.demandInstant d ↔ earliestInstant s d ((t.demandInstant d).getD t.now) := by
      rw [← demandInstant_eq_some, demandInstant_eq_some.2 (hexists ht), Option.getD_some]
    by_cases hkept : s.demandSet d = t.demandSet d ∧ s.demandInstant d = t.demandInstant d
    · simp [hkept.1, hkept.2, hsame.1 hkept.2]
    · rw [if_neg (by simpa using hkept), List.mem_singleton, ← not_and_or, ← hsame]
      exact (and_iff_right hkept).symm

theorem handedDemand_of_handed (h : handedOf s t d e) : handedDemand e = some d := by
  obtain ⟨-, -, i, -, he⟩ | ⟨-, -, rfl⟩ | ⟨-, -, i, -, -, rfl⟩ := h
  · cases d <;> (rw [he]; rfl)
  · rfl
  · rfl

/-- What is handed over of a programme that has formed, and of another. -/
theorem isNewProgramme_of_handed (h : handedOf s t d e) : isNewProgramme e =
    if s.demandSet d = [] then some (d, (handedProgramme t d).instant) else none := by
  obtain ⟨hs, -, i, hi, he⟩ | ⟨hs, -, rfl⟩ | ⟨hs, -, i, -, -, rfl⟩ := h
  · rw [if_pos hs, handedProgramme, demandInstant_eq_some.2 hi]
    cases d <;> (rw [he]; rfl)
  · rw [if_neg hs]
    rfl
  · rw [if_neg hs]
    rfl

/-- At most one delivery tells of a programme. -/
theorem newsOf_pairwise (R : Instr → Instr → Prop) (s t : State) (d : Demand) : (newsOf s t d).Pairwise R := by
  unfold newsOf
  split
  · split
    · exact List.Pairwise.nil
    · cases d <;> exact List.pairwise_singleton R _
  · split
    · exact List.pairwise_singleton R _
    · split
      · exact List.Pairwise.nil
      · exact List.pairwise_singleton R _

/-- The programmes of an event: those that were there, then the new ones. -/
theorem cueNews_eq (s t : State) : cueNews s t = (s.programmes ++ newProgrammes s t).flatMap (newsOf s t) := by
  rw [cueNews, List.flatMap_append]

theorem eventProgrammes_nodup (s t : State) : (s.programmes ++ newProgrammes s t).Nodup := by
  obtain ⟨-, hperm⟩ := newProgrammes_inOrder s t
  refine List.nodup_append.2 ⟨nodup_of_zones_rise (programmes_rise s),
    hperm.nodup_iff.2 ((nodup_of_zones_rise (programmes_rise t)).filter _), ?_⟩
  rintro a ha b hb rfl
  exact mem_programmes.1 ha (mem_newProgrammes.1 hb).1

theorem mem_cueNews : e ∈ cueNews s t ↔ ∃ d, handedOf s t d e := by
  rw [cueNews_eq, List.mem_flatMap]
  refine ⟨fun ⟨d, _, he⟩ => ⟨d, mem_newsOf.1 he⟩, fun ⟨d, he⟩ => ⟨d, List.mem_append.2 ?_, mem_newsOf.2 he⟩⟩
  obtain ⟨hs, ht, -⟩ | ⟨hs, -⟩ | ⟨hs, -⟩ := he
  · exact .inr (mem_newProgrammes.2 ⟨hs, ht⟩)
  · exact .inl (mem_programmes.2 hs)
  · exact .inl (mem_programmes.2 hs)

theorem cueNews_nodup (s t : State) : (cueNews s t).Nodup := by
  rw [cueNews_eq, List.nodup_flatMap]
  refine ⟨fun d _ => newsOf_pairwise _ s t d, (eventProgrammes_nodup s t).imp fun {a b} hab e ha hb => hab ?_⟩
  exact Option.some.inj ((handedDemand_of_handed (mem_newsOf.1 ha)).symm.trans (handedDemand_of_handed (mem_newsOf.1 hb)))

/-- What CUE hands over: each programme once, changes and ends first, the new ones in the order of R122 (log entry 19). -/
theorem cueNews_handsOver (s t : State) : handsOver s t (cueNews s t) := by
  refine ⟨fun e => mem_cueNews, cueNews_nodup s t, ?_⟩
  rw [cueNews, List.pairwise_append, List.pairwise_flatMap, List.pairwise_flatMap]
  have hold : ∀ d ∈ s.programmes, ∀ e ∈ newsOf s t d, isNewProgramme e = none := fun d hd e he => by
    rw [isNewProgramme_of_handed (mem_newsOf.1 he), if_neg (mem_programmes.1 hd)]
  have hnew : ∀ d ∈ newProgrammes s t, ∀ e ∈ newsOf s t d, isNewProgramme e = some (d, (handedProgramme t d).instant) :=
    fun d hd e he => by rw [isNewProgramme_of_handed (mem_newsOf.1 he), if_pos (mem_newProgrammes.1 hd).1]
  refine ⟨⟨fun d _ => newsOf_pairwise _ s t d, ?_⟩, ⟨fun d _ => newsOf_pairwise _ s t d, ?_⟩, ?_⟩
  · refine List.pairwise_of_forall_mem_list fun a ha b _ x hx y _ d i hxd => ?_
    rw [hold a ha x hx] at hxd
    cases hxd
  · refine (newProgrammes_inOrder s t).1.imp_of_mem fun {a b} ha hb hab x hx y hy d i hxd => ?_
    rw [hnew a ha x hx] at hxd
    cases hxd
    exact ⟨b, _, hnew b hb y hy, fun hahead => hab ((goesBefore_iff _ _).2 hahead)⟩
  · intro x hx y _ d i hxd
    obtain ⟨a, ha, hx⟩ := List.mem_flatMap.1 hx
    rw [hold a ha x hx] at hxd
    cases hxd

end

end Sys2Proof.Machine
end

section
/-! SUPPORT. The end of an event of the Cue Engine (R106, R110, R115, R125, R135). -/

namespace Sys2Proof.Machine

section
variable {s t x y : State} {d : Demand} {e : Instr} {f : State → State} {v : Vector ZoneDemand 36}

/-- The state with other Zone Demand records. -/
def withZones (v : Vector ZoneDemand 36) (s : State) : State := s.withCue { s.cue with zones := v }

theorem left_eq (s t : State) (z : SpeakerId) : s.left t z = zoneLeft s t z := by
  unfold State.left zoneLeft
  rw [programmeOf_eq, programmeOf_eq]
  cases hs : zoneHears s z with
  | none => rfl
  | some a =>
    by_cases h : (zoneHears t z).map Prod.fst = some a.1
    · simp [h]
    · simp [h, Ne.symm h]

/-- The zones, the chains and the monitored channel after an event of CUE that took the Zone Demand records from those of `s` to
those of `y`, before the deliveries. -/
def cueSettled (s y : State) : State := remonitorIfMoved s (chainsEnd s (zonesLeave s y))

theorem cueChange_eq (f : State → State) (s : State) : cueChange f s = (cueSettled s (f s)).deliver (cueNews s (f s)) := rfl

theorem cueEvent_eq (f : State → State) (s : State) :
    cueEvent f s = (cueChange f s).deliver (if changed s (cueChange f s) then [.changeCounterIncrease .cue] else []) :=
  event_other (by decide) _ s

/-- The programme of a channel has ended between two states (R115). -/
def channelEnded (s t : State) (c : ChannelId) : Prop :=
  ∃ g, s.chr.channels[c].grant = some g ∧ s.demandSet g.prog.demand ≠ [] ∧ t.demandSet g.prog.demand = []

theorem channelEnded_iff (c : ChannelId) :
    (s.chr.channels[c].grant.any fun g => endedBetween s t g.prog.demand) = true ↔ channelEnded s t c := by
  simp [channelEnded, endedBetween, Option.any_eq_true]

section
variable (hv : y = withZones v s)
include hv

theorem cueSettled_zones : (cueSettled s y).cue.zones = v := by rw [hv]; rfl

theorem cueSettled_hears : zoneHears (cueSettled s y) = zoneHears y := zoneHears_congr (by rw [hv]; rfl) (by rw [hv]; rfl)

theorem cueSettled_finished : (cueSettled s y).cue.finished = s.cue.finished := by rw [hv]; rfl

theorem cueSettled_channel (c : ChannelId) : (cueSettled s y).chr.channels[c] = { s.chr.channels[c] with
    zoneSet := s.chr.channels[c].zoneSet.filter fun z => !zoneLeft s y z
    joins := s.chr.channels[c].joins.filter fun z => !zoneLeft s y z } := by
  unfold cueSettled remonitorIfMoved chainsEnd zonesLeave
  rw [withChr_chr, withCue_chr, withChr_chr, tab_fin, hv]
  simp only [left_eq]
  rfl

theorem cueSettled_chain (c : ChannelId) : (cueSettled s y).cue.chains[c] =
    if s.chr.channels[c].grant.any fun g => endedBetween s y g.prog.demand then none else s.cue.chains[c] := by
  have hgrant : (zonesLeave s y).chr.channels[c].grant = s.chr.channels[c].grant := by
    rw [hv]
    unfold zonesLeave
    rw [withChr_chr, tab_fin]
    rfl
  have hends : endedBetween s (zonesLeave s y) = endedBetween s y := rfl
  unfold cueSettled remonitorIfMoved chainsEnd
  rw [withChr_cue, withCue_cue, tab_fin, hgrant, hends, hv]
  rfl

theorem cueSettled_chr : (cueSettled s y).chr =
    { s.chr with channels := (cueSettled s y).chr.channels, monitored := (cueSettled s y).chr.monitored } := by
  rw [hv]
  rfl

theorem cueSettled_monitored : (cueSettled s y).chr.monitored =
    if ∀ c : ChannelId, (cueSettled s y).chr.channels[c].zoneSet = s.chr.channels[c].zoneSet then s.chr.monitored
    else (cueSettled s y).monitorTarget := by
  have hmoved : (s.zoneSets == (cueSettled s y).zoneSets && s.chr.selection == (cueSettled s y).chr.selection) = true
      ↔ ∀ c : ChannelId, (cueSettled s y).chr.channels[c].zoneSet = s.chr.channels[c].zoneSet := by
    rw [Bool.and_eq_true, beq_iff_eq, beq_iff_eq, zoneSets_eq_iff, hv]
    exact and_iff_left rfl
  refine Eq.trans ?_ (if_congr hmoved rfl rfl)
  rw [hv]
  rfl

end

theorem newsOf_congr (hs : zoneHears x = zoneHears s) (ht : zoneHears t = zoneHears y) (hn : t.now = y.now) :
    newsOf x t = newsOf s y := by
  funext d
  unfold newsOf
  rw [demandSet_congr hs, demandSet_congr ht, demandInstant_congr hs, demandInstant_congr ht, hn]

theorem newProgrammes_congr (hs : zoneHears x = zoneHears s) (ht : zoneHears t = zoneHears y) (hn : t.now = y.now) :
    newProgrammes x t = newProgrammes s y := by
  have hbefore : t.handedBefore = y.handedBefore := by
    funext a b
    unfold State.handedBefore
    rw [demandInstant_congr ht, hn]
  unfold newProgrammes State.programmes handInsert
  rw [programmeOf_congr hs, programmeOf_congr ht, hbefore]

/-- What is handed over depends on what the zones hear before and after the event, and when. -/
theorem cueNews_congr (hs : zoneHears x = zoneHears s) (ht : zoneHears t = zoneHears y) (hn : t.now = y.now) :
    cueNews x t = cueNews s y := by
  unfold cueNews
  rw [newsOf_congr hs ht hn, newProgrammes_congr hs ht hn]
  unfold State.programmes
  rw [programmeOf_congr hs]

theorem zoneLeft_congr (hs : zoneHears x = zoneHears s) (ht : zoneHears t = zoneHears y) : zoneLeft x t = zoneLeft s y := by
  funext z
  unfold zoneLeft
  rw [hs, ht]

theorem cueEvent_chrOnly (hf : chrOnly s (f s)) : chrOnly s (cueEvent f s) := by
  rw [cueEvent_eq]
  exact (cueChange_chrOnly s f hf).trans (deliver_chrOnly _ _)

/-- A delivery to CUE that changes the Zone Demand records. -/
theorem cueDelivery_ends (h : s.takes e = true) (hf : f (s.taken e) = withZones v (s.taken e)) :
    ∃ t, onDelivery e (cueEvent f) s = t ∧ cueEnds (without s e) s t ∧ t.cue.zones = v := by
  rw [onDelivery_takes h]
  generalize hx : s.taken e = x at hf
  generalize ht : cueEvent f x = t
  have hs : zoneHears x = zoneHears s := by rw [← hx]; rfl
  have hchr : x.chr = s.chr := by rw [← hx]; rfl
  have hcue : x.cue = s.cue := by rw [← hx]; rfl
  have htchr : t.chr = (cueSettled x (f x)).chr := by rw [← ht]; rfl
  have htcue : t.cue = (cueSettled x (f x)).cue := by rw [← ht]; rfl
  have hhears : zoneHears t = zoneHears (f x) :=
    (zoneHears_congr (by rw [htcue]) (by rw [← ht]; rfl)).trans (cueSettled_hears hf)
  have htarget : t.monitorTarget = (cueSettled x (f x)).monitorTarget := by rw [← ht]; rfl
  have hzoneSets := cueSettled_monitored hf
  rw [← htchr, hchr, ← htarget] at hzoneSets
  refine ⟨t, rfl, ⟨?_, ?_, fun c => ?_, fun c => ?_, ?_, fun hkept => ?_, fun hmoved => ?_, cueNews s t,
    cueNews_handsOver s t, ?_⟩, ?_⟩
  · rw [← ht]
    exact chrOnly.trans (by rw [← hx]; rfl) (cueEvent_chrOnly (by rw [hf]; rfl))
  · rw [htcue, cueSettled_finished hf, hcue]
  · rw [htchr, cueSettled_channel hf, hchr, zoneLeft_congr hs hhears.symm]
  · have hended : channelEnded x (f x) c ↔ channelEnded s t c := by
      unfold channelEnded
      rw [hchr, demandSet_congr hs, demandSet_congr hhears]
    have hchain := cueSettled_chain hf c
    rw [← htcue, hcue] at hchain
    exact ⟨fun he => hchain.trans (if_pos ((channelEnded_iff c).2 (hended.2 he))),
      fun he => hchain.trans (if_neg fun hn => he (hended.1 ((channelEnded_iff c).1 hn)))⟩
  · rw [htchr, ← hchr]
    exact cueSettled_chr hf
  · exact hzoneSets.trans (if_pos hkept)
  · exact monitorTarget_follows (hzoneSets.trans (if_neg (not_forall.2 hmoved)))
  · rw [← ht]
    refine leaves_event_other (by decide) (by rw [← hx]; rfl) ?_ ?_
    · rw [cueChange_eq, deliver_deliveries, ht, cueNews_congr hs.symm hhears (by rw [← ht]; rfl), hf, ← hx]
      rfl
    · rw [cueChange_eq, hf, ← hx]
      rfl
  · rw [htcue, cueSettled_zones hf]

end

end Sys2Proof.Machine
end

section
/-! PROOF. The slots of the speaker zones (R106 to R109, R133, R142). -/

namespace Sys2Proof.Machine

/-! ## Fire slots (R107) -/

section
variable {s : State} {z : SpeakerId} {q : Nat} {prio : FirePriority} {names : SpeakerId → Bool}

/-- The target of a zone's fire slot (R107): the cue of its floor's phase, or of its stair, while the regime is ALARM. -/
theorem fireTarget_iff : s.fireTarget z = some (q, prio) ↔ s.inAlarm = true ∧
    ((∃ f : FloorId, f.val = z.val
        ∧ ((s.rge.floors[f].phase = .evacuate ∧ s.cfg.floors[f].evacuateCue = some q ∧ prio = .evac)
          ∨ (s.rge.floors[f].phase = .alert ∧ s.rge.silence = none ∧ s.cfg.floors[f].alertCue = some q ∧ prio = .alert)))
      ∨ (∃ k : Fin 4, z.val = 32 + k.val ∧ s.cfg.stairs[k].cue = some q ∧ prio = .evac)) := by
  unfold State.fireTarget
  cases halarm : s.inAlarm with
  | false => simp
  | true =>
    simp only [Bool.not_true, Bool.false_eq_true, if_false, true_and]
    by_cases hz : z.val < 32
    · have hfloor : ∀ {P : FloorId → Prop}, (∃ f : FloorId, f.val = z.val ∧ P f) ↔ P ⟨z.val, hz⟩ := fun {P} =>
        ⟨fun ⟨f, hf, hp⟩ => (Fin.ext hf : f = ⟨z.val, hz⟩) ▸ hp, fun hp => ⟨⟨z.val, hz⟩, rfl, hp⟩⟩
      have hstair : ¬ ∃ k : Fin 4, z.val = 32 + k.val ∧ s.cfg.stairs[k].cue = some q ∧ prio = .evac :=
        fun ⟨k, hk, _⟩ => by omega
      rw [toIndex_some hz, hfloor, or_iff_left hstair]
      dsimp only
      cases hp : s.rge.floors[(⟨z.val, hz⟩ : FloorId)].phase with
      | quiet => simp
      | alert => cases s.rge.silence <;> simp [eq_comm]
      | evacuate => simp [eq_comm]
    · have hk : z.val - 32 < 4 := by omega
      have hfloor : ∀ {P : FloorId → Prop}, ¬ ∃ f : FloorId, f.val = z.val ∧ P f := fun ⟨f, hf, _⟩ => hz (hf ▸ f.isLt)
      have hstair : ∀ {P : Fin 4 → Prop}, (∃ k : Fin 4, z.val = 32 + k.val ∧ P k) ↔ P ⟨z.val - 32, hk⟩ := fun {P} =>
        ⟨fun ⟨k, hv, hp⟩ => (Fin.ext (by simp [hv]) : k = ⟨z.val - 32, hk⟩) ▸ hp,
          fun hp => ⟨⟨z.val - 32, hk⟩, (Nat.add_sub_cancel' (Nat.not_lt.1 hz)).symm, hp⟩⟩
      rw [toIndex_eq_none.2 (Nat.not_lt.1 hz), or_iff_right hfloor, hstair]
      dsimp only
      have hrow : rowAt s.cfg.stairs (z.val - 32) = some s.cfg.stairs[(⟨z.val - 32, hk⟩ : Fin 4)] := rowAt_fin _ ⟨_, hk⟩
      rw [hrow]
      simp [eq_comm]

theorem recomputeSlot_stands {now : Nat} {slot : FireSlot} (hq : slot.cue = q) (hp : slot.prio = prio) :
    recomputeSlot now (some (q, prio)) (some slot) = some slot := by
  simp [recomputeSlot, hq, hp]

theorem recomputeSlot_afresh {now : Nat} {fire : Option FireSlot}
    (h : ∀ slot, fire = some slot → slot.cue ≠ q ∨ slot.prio ≠ prio) :
    recomputeSlot now (some (q, prio)) fire = some ⟨q, prio, now, false⟩ := by
  cases fire with
  | none => rfl
  | some slot =>
    have hne : ¬ (slot.cue = q ∧ slot.prio = prio) := fun he => (h slot rfl).elim (· he.1) (· he.2)
    simp [recomputeSlot, hne]

/-- The Zone Demand records after the fire slots of the named configured zones have been recomputed. -/
def recomputed (names : SpeakerId → Bool) (s : State) : Vector ZoneDemand 36 := tab fun z =>
  if s.speakerConfigured z && names z then
    { s.cue.zones[z] with fire := recomputeSlot s.now (s.fireTarget z) s.cue.zones[z].fire }
  else s.cue.zones[z]

theorem recomputed_zone (z : SpeakerId) : (recomputed names s)[z] = { s.cue.zones[z] with
    fire := if s.speakerConfigured z && names z then recomputeSlot s.now (s.fireTarget z) s.cue.zones[z].fire
      else s.cue.zones[z].fire } := by
  unfold recomputed
  rw [tab_fin]
  split <;> rfl

/-- The zones whose fire slots a delivery of RGE names. -/
def fireNames (c : Instr) (z : SpeakerId) : Bool :=
  match c with
  | .cuePhaseChange fs => fs.any fun x => x.1.val == z.val
  | .cueSilenceChange => z.val < 32
  | _ => true

theorem exec_recomputes {c : Instr}
    (h : c = .cueAlarmEntry ∨ c = .cueRegimeReset ∨ c = .cueSilenceChange ∨ ∃ fs, c = .cuePhaseChange fs) :
    exec c s = .next (onDelivery c (cueEvent (recomputeFire (fireNames c))) s) := by
  obtain rfl | rfl | rfl | ⟨fs, rfl⟩ := h <;> rfl

theorem fireNames_iff {c : Instr} :
    (c = .cueAlarmEntry ∨ c = .cueRegimeReset ∨ c = .cueSilenceChange ∨ ∃ fs, c = .cuePhaseChange fs) →
    (fireNames c z = true ↔ match c with
      | .cuePhaseChange fs => ∃ x ∈ fs, x.1.val = z.val
      | .cueSilenceChange => z.val < 32
      | _ => True) := by
  rintro (rfl | rfl | rfl | ⟨fs, rfl⟩) <;> simp [fireNames]

end

/-! ## Live and tenant slots (R109, R133, R142) -/

section
variable {slot : Option LiveSlot} {now : Nat}

theorem writeLive_liveC : writeLive now (.put .liveC) slot = some ⟨.liveC, now⟩ := by cases slot <;> rfl

theorem writeLive_liveP : writeLive now (.put .liveP) slot =
    if slot.any (fun l => l.source == .liveC) then slot else some ⟨.liveP, now⟩ := by cases slot <;> rfl

theorem writeLive_erase (src : LiveSourceId) : writeLive now (.erase src) slot =
    if slot.any (fun l => l.source == src) then none else slot := by cases slot <;> rfl

end

/-- A delivery to CUE that replaces the record of one zone. -/
theorem cueDelivery_zone {s : State} {e : Instr} {z : SpeakerId} (F : State → ZoneDemand) (h : s.takes e = true) :
    ∃ t, onDelivery e (cueEvent fun s => s.setDemand z (F s)) s = t ∧ cueEnds (without s e) s t
      ∧ t.cue.zones[z] = F (s.taken e) ∧ ∀ y : SpeakerId, y ≠ z → t.cue.zones[y] = s.cue.zones[y] := by
  obtain ⟨t, ht, hends, hzones⟩ := cueDelivery_ends (f := fun s => s.setDemand z (F s)) h rfl
  refine ⟨t, ht, hends, ?_, fun y hy => ?_⟩
  · rw [hzones]
    exact set_fin_same _ _ _
  · rw [hzones]
    exact set_fin_other _ _ hy

/-- Settles O37: each event replaces slots of the Zone Demand records, and CUE's end of the event follows from them. -/
theorem slotsFollowTheirEvents : Obligations.SlotsFollowTheirEvents := by
  refine ⟨⟨fun s d z => mem_demandSet_iff_hears, fun c s h hc => ?_⟩, fun z s => ⟨fun w h => ?_, fun w h => ?_⟩⟩
  · obtain ⟨t, ht, hends, hzones⟩ := cueDelivery_ends (f := recomputeFire (fireNames c)) (v := recomputed (fireNames c) s) h rfl
    refine ⟨t, (exec_recomputes hc).trans (congrArg _ ht), hends, fun z => ?_⟩
    have hnamed := (Bool.and_eq_true_iff (x := s.speakerConfigured z)).trans (and_congr_right fun _ => fireNames_iff (z := z) hc)
    dsimp only
    rw [hzones, recomputed_zone]
    refine ⟨rfl, rfl, fun hn => if_neg fun hb => hn (hnamed.1 hb), fun hn hnone => ?_, fun hn q prio htarget => ?_⟩
    · have htarget : s.fireTarget z = none :=
        Option.eq_none_iff_forall_ne_some.2 fun x hx => hnone x.1 x.2 (fireTarget_iff.1 hx)
      rw [if_pos (hnamed.2 hn), htarget]
      rfl
    · rw [if_pos (hnamed.2 hn), fireTarget_iff.2 htarget]
      refine ⟨fun slot hslot hq hp => ?_, recomputeSlot_afresh⟩
      rw [hslot]
      exact recomputeSlot_stands hq hp
  · obtain ⟨t, ht, hends, hzone, hothers⟩ := cueDelivery_zone (z := z)
      (fun u => { u.cue.zones[z] with live := writeLive u.now w u.cue.zones[z].live }) h
    refine ⟨t, congrArg _ ht, hothers, hends, ?_, ?_, ?_, ?_⟩
    · rw [hzone]
      rfl
    · rintro rfl
      rw [hzone]
      exact writeLive_liveC
    · rintro rfl
      rw [hzone]
      exact writeLive_liveP
    · rintro src rfl
      rw [hzone]
      exact writeLive_erase src
  · obtain ⟨t, ht, hends, hzone, hothers⟩ := cueDelivery_zone (z := z)
      (fun u => { u.cue.zones[z] with tenant := writeTenant u.now w u.cue.zones[z].tenant }) h
    refine ⟨t, congrArg _ ht, hothers, hends, ?_, ?_, ?_⟩
    · rw [hzone]
      rfl
    · rintro k q rfl
      rw [hzone]
      rfl
    · rintro k rfl
      rw [hzone]
      rfl

end Sys2Proof.Machine
end

section
/-! SUPPORT. The read-ahead order of a channel (R128): what the upcoming blocks of a chain see, and how they follow its moves. -/

namespace Sys2Proof.Machine

section
variable {s t : State} {k next : Chain} {m n i j : Nat} {c : ChannelId}

/-! ## What they see -/

theorem cueAt_congr (h : t.cfg = s.cfg) : t.cueAt = s.cueAt := by
  funext q
  unfold State.cueAt
  rw [h]

theorem nextSegment_congr (h : t.cfg = s.cfg) : t.nextSegment = s.nextSegment := by
  funext k
  unfold State.nextSegment State.playedLength
  rw [cueAt_congr h, h]

theorem upcoming_congr (h : t.cfg = s.cfg) (n : Nat) (k : Chain) : t.upcoming n k = s.upcoming n k := by
  induction n generalizing k with
  | zero => rfl
  | succ n ih =>
    simp only [State.upcoming, State.blockAt, State.candidates, State.atCue, State.repetitions, nextSegment_congr h,
      cueAt_congr h, ih]

theorem endRepetition_started (k : Chain) (i : Nat) :
    endRepetition { k with started := i } = (endRepetition k).map fun j => { j with started := i } := by
  unfold endRepetition
  dsimp only
  cases k.remaining with
  | none => rfl
  | some r => dsimp only; split <;> rfl

theorem nextSegment_started (k : Chain) (i : Nat) :
    s.nextSegment { k with started := i } = (s.nextSegment k).map fun j => { j with started := i } := by
  unfold State.nextSegment
  cases hp : k.pos with
  | gap j => exact endRepetition_started k i
  | segment j =>
    dsimp only
    split
    · rfl
    · exact endRepetition_started k i

/-- The upcoming blocks do not depend on the instant at which the chain began. -/
theorem upcoming_started (n : Nat) (k : Chain) (i : Nat) : s.upcoming n { k with started := i } = s.upcoming n k := by
  induction n generalizing k with
  | zero => rfl
  | succ n ih =>
    simp only [State.upcoming, nextSegment_started]
    cases s.nextSegment k with
    | some j => exact congrArg₂ (· ++ ·) rfl (ih j)
    | none =>
      dsimp only [Option.map_none]
      have hcue : ∀ q, s.upcoming n (s.atCue q i) = s.upcoming n (s.atCue q k.started) := fun q => ih (s.atCue q k.started)
      simp only [hcue]
      rfl

/-! ## How they grow -/

/-- With more blocks asked for, the order goes on where it ended. -/
theorem upcoming_prefix (h : m ≤ n) (k : Chain) : s.upcoming m k <+: s.upcoming n k := by
  induction n generalizing m k with
  | zero =>
    rw [Nat.le_zero.1 h]
  | succ n ih =>
    cases m with
    | zero => exact List.nil_prefix
    | succ m =>
      have ih := fun j => ih (Nat.le_of_succ_le_succ h) j
      unfold State.upcoming
      split
      · exact (List.prefix_append_right_inj _).2 (ih _)
      · split
        · split
          · exact (List.prefix_append_right_inj _).2 (ih _)
          · exact List.prefix_rfl
        all_goals exact List.prefix_rfl

/-! ## How they follow a chain's moves (R112, R113) -/

/-- The gap is left out: entering it and moving within it leave the upcoming blocks. -/
theorem upcoming_gap (h : movesWithin s k next) (hj : next.pos = .gap j) (n : Nat) : s.upcoming n k = s.upcoming n next := by
  have hnext : s.nextSegment k = endRepetition k ∧ endRepetition next = endRepetition k ∧ next.cue = k.cue
      ∧ next.started = k.started := by
    obtain ⟨i, hp, hi, rfl⟩ | ⟨i, hp, hi, -, rfl⟩ | ⟨i, hp, -, rfl⟩ | ⟨-, -, rfl⟩ | ⟨-, r, -, -, rfl⟩ := h
    · cases hj
    · exact ⟨by simp [State.nextSegment, hp, Nat.not_lt.2 hi], rfl, rfl, rfl⟩
    · exact ⟨by simp [State.nextSegment, hp], rfl, rfl, rfl⟩
    · cases hj
    · cases hj
  obtain ⟨hk, hend, hcue, hstarted⟩ := hnext
  have hn : s.nextSegment next = s.nextSegment k := by
    rw [hk, ← hend, State.nextSegment, hj]
  cases n with
  | zero => rfl
  | succ n => simp only [State.upcoming, hn, hcue, hstarted]

/-- A move to a block of the segment takes the first of the upcoming blocks. -/
theorem upcoming_segment (h : movesWithin s k next) (hi : next.pos = .segment i) (n : Nat) :
    s.upcoming (n + 1) k = ((s.cueAt next.cue).start + i) :: s.upcoming n next := by
  simp [State.upcoming, nextSegment_of_movesWithin h hi, blockAt_segment hi]

/-- Nothing follows a cue whose link is ALWAYS to no cue. -/
theorem upcoming_last (h : cueIsOver s k) (hc : (s.cueAt k.cue).condition = .always) (hn : (s.cueAt k.cue).nextTrue = none)
    (n : Nat) : s.upcoming n k = [] := by
  cases n with
  | zero => rfl
  | succ n => simp [State.upcoming, nextSegment_of_cueIsOver h, hc, hn]

/-- Over a link by ALWAYS the blocks of the next cue follow. -/
theorem upcoming_link (h : cueIsOver s k) (hc : (s.cueAt k.cue).condition = .always) (hn : (s.cueAt k.cue).nextTrue = some m)
    (n : Nat) : s.upcoming (n + 1) k = (s.cueAt m).start :: s.upcoming n (startOf s m k.started) := by
  simp [State.upcoming, nextSegment_of_cueIsOver h, hc, hn, atCue_eq, blockAt_startOf]

/-- A chain moves within its cue, or stands at its end (R112). -/
theorem movesWithin_or_cueIsOver (s : State) (k : Chain) : (∃ next, movesWithin s k next) ∨ cueIsOver s k := by
  by_cases hend : repetitionEnds s k
  · cases hr : k.remaining with
    | none => exact .inl ⟨_, .inr (.inr (.inr (.inl ⟨hend, hr, rfl⟩)))⟩
    | some r =>
      by_cases h1 : r ≤ 1
      · exact .inr ⟨hend, r, hr, h1⟩
      · exact .inl ⟨_, .inr (.inr (.inr (.inr ⟨hend, r, hr, Nat.lt_of_not_le h1, rfl⟩)))⟩
  · left
    unfold repetitionEnds at hend
    cases hp : k.pos with
    | gap j =>
      rw [hp] at hend
      exact ⟨_, .inr (.inr (.inl ⟨j, hp, Nat.lt_of_not_le hend, rfl⟩))⟩
    | segment i =>
      rw [hp] at hend
      by_cases hi : i + 1 < s.playedLength k.cue
      · exact ⟨_, .inl ⟨i, hp, hi, rfl⟩⟩
      · have hi := Nat.le_of_not_lt hi
        exact ⟨_, .inr (.inl ⟨i, hp, hi, Nat.pos_of_ne_zero fun hg => hend ⟨hi, hg⟩, rfl⟩)⟩

end

end Sys2Proof.Machine
end

section
/-! SUPPORT. The areas of the channels (R119, R121, R127 to R129): what `areasSound` asks of one channel, said over the part of the
state that it sees of that channel, and what keeps it. -/

namespace Sys2Proof.Machine

/-- What the invariant of the areas sees of a channel: its state, the start cue of its programme (none for a live one), whether
the programme has begun, the timers, the area, the chain, and whether the port is filling a slot of the area. -/
structure Area where
  state : ChannelState
  source : Option (Option Nat)
  begun : Bool
  warming : Bool
  idling : Bool
  slots : List Slot
  headInPlay : Bool
  chain : Option Chain
  read : Bool

/-- The read in progress fills a slot of a channel: it is for the channel's area and not discarded (R129). -/
def readsFor (f : Option FlashRead) (c : ChannelId) : Bool := f.any fun x => x.channel == c && !x.discarded

/-- What the invariant sees of a channel with a record, a chain and whether the port is filling a slot. -/
def areaWith (r : ChannelRec) (k : Option Chain) (read : Bool) : Area where
  state := r.state
  source := r.grant.map fun g => startCue g.prog.demand
  begun := r.begun
  warming := r.warmUp.isSome
  idling := r.idle.isSome
  slots := r.slots
  headInPlay := r.headInPlay
  chain := k
  read := read

def areaOf (s : State) (c : ChannelId) : Area := areaWith s.chr.channels[c] s.cue.chains[c] (readsFor s.chr.reading c)

/-- The read-ahead order of a channel from what the invariant sees (R128). -/
def Area.order (a : Area) (s : State) (n : Nat) : List Nat :=
  match a.source.join with
  | none => []
  | some q =>
    if a.begun then
      a.chain.elim [] fun k => (if a.headInPlay then (s.blockAt k).toList else []) ++ s.upcoming n k
    else (s.cueAt q).start :: s.upcoming n (startOf s q 0)

/-- The last slot is filling, and no other (R129). -/
def fillsLast (xs : List Slot) : Prop :=
  ∃ front x, xs = front ++ [x] ∧ x.status = .filling ∧ ∀ y ∈ front, y.status ≠ .filling

/-- What the invariant of the areas asks of one channel, whose area has `size` slots. -/
structure Area.Sound (s : State) (size : Nat) (a : Area) : Prop where
  fits : a.slots.length ≤ size
  unused : a.source = none → a.slots = [] ∧ a.begun = false
  held : a.source ≠ none → a.state = .waking ∨ a.state = .playing
  live : a.source = some none → a.slots = []
  playing : a.begun = true → a.state = .playing
  unbegun : a.begun = false → a.headInPlay = false ∧ a.chain = none
  leads : a.begun = false ∨ a.chain ≠ none → a.slots.map (·.block) <+: a.order s size
  heard : a.headInPlay = true → ∃ x rest, a.slots = x :: rest ∧ x.status ≠ .filling
  position : ∀ k, a.headInPlay = true → a.chain = some k → ∃ i, k.pos = .segment i
  filling : ∀ x ∈ a.slots, x.status = .filling → a.read = true
  read : a.read = true → fillsLast a.slots
  idle : a.idling = true → a.state = .ready
  warm : a.warming = true → a.state = .waking

section
variable {s t : State} {c d : ChannelId} {r q : ChannelRec} {a : Area} {n : Nat} {f : Option FlashRead} {xs ys : List Slot}
  {k : Chain}

/-! ## The invariant, channel by channel -/

theorem readsFor_eq_true : readsFor f c = true ↔ ∃ x, f = some x ∧ x.channel = c ∧ x.discarded = false := by
  simp [readsFor, Option.any_eq_true]

theorem readOrder_eq (s : State) (c : ChannelId) (n : Nat) : s.readOrder c n = (areaOf s c).order s n := by
  have hstart : ∀ q, (s.blockAt (s.atCue q s.now)).toList ++ s.upcoming n (s.atCue q s.now) =
      (s.cueAt q).start :: s.upcoming n (startOf s q 0) := by
    intro q
    rw [← upcoming_started n (startOf s q 0) s.now, atCue_eq, blockAt_startOf]
    rfl
  unfold State.readOrder Area.order areaOf areaWith
  dsimp only
  cases s.chr.channels[c].grant with
  | none => rfl
  | some g =>
    dsimp only [Option.map_some, Option.join_some, Option.bind_some]
    cases startCue g.prog.demand with
    | none => rfl
    | some q =>
      dsimp only
      rw [hstart]
      refine if_congr Iff.rfl ?_ rfl
      cases s.cue.chains[c] <;> rfl

/-- The invariant of the areas asks of each channel what its area shows. -/
theorem areasSound_iff : areasSound s ↔ ∀ c, (areaOf s c).Sound s (s.areaSize (.channel c)) := by
  refine forall_congr' fun c => ?_
  have hnone : (areaOf s c).source = none ↔ s.chr.channels[c].grant = none := Option.map_eq_none_iff
  have hsome : ∀ {P : Option Nat → Prop}, (∀ q, (areaOf s c).source = some q → P q)
      ↔ ∀ g, s.chr.channels[c].grant = some g → P (startCue g.prog.demand) := by
    intro P
    simp only [areaOf, areaWith, Option.map_eq_some_iff]
    exact ⟨fun h g hg => h _ ⟨g, hg, rfl⟩, fun h q ⟨g, hg, hq⟩ => hq ▸ h g hg⟩
  have hread : (areaOf s c).read = true ↔
      ∃ x, s.chr.reading = some x ∧ x.channel = c ∧ x.discarded = false := readsFor_eq_true
  dsimp only
  rw [readOrder_eq]
  constructor
  · rintro ⟨h1, h2, h3, h4, h5, h6, h7, h8, h9, h10, h11, h12⟩
    exact {
      fits := h1
      unused := fun h => h2 (hnone.1 h)
      held := fun h => (Option.ne_none_iff_exists'.1 (mt hnone.2 h)).elim fun g hg => (h3 g hg).1
      live := fun h => (hsome (P := fun q => q = none → (areaOf s c).slots = [])).2 (fun g hg => (h3 g hg).2) _ h rfl
      playing := h4, unbegun := h5, leads := h6, heard := h7, position := h8
      filling := fun x hx hf => hread.2 (h9 x hx hf)
      read := fun h => (hread.1 h).elim fun f ⟨hf, hc, hd⟩ => h10 f hf hc hd
      idle := fun h => h11 (Option.isSome_iff_ne_none.1 h)
      warm := fun h => h12 (Option.isSome_iff_ne_none.1 h) }
  · intro h
    refine ⟨h.fits, fun hg => h.unused (hnone.2 hg), fun g hg => ⟨h.held fun hn => ?_, fun hs => h.live ?_⟩, h.playing,
      h.unbegun, h.leads, h.heard, h.position, fun x hx hf => hread.1 (h.filling x hx hf),
      fun f hf hc hd => h.read (hread.2 ⟨f, hf, hc, hd⟩), fun hi => h.idle (Option.isSome_iff_ne_none.2 hi),
      fun hw => h.warm (Option.isSome_iff_ne_none.2 hw)⟩
    · rw [hnone.1 hn] at hg
      cases hg
    · rw [areaOf, areaWith, hg, Option.map_some, hs]

/-- The invariant sees the configuration of the part alone beside the areas. -/
theorem Area.order_congr (h : t.cfg = s.cfg) (a : Area) (n : Nat) : a.order t n = a.order s n := by
  have hup : t.upcoming n = s.upcoming n := funext (upcoming_congr h n)
  unfold Area.order State.blockAt startOf
  rw [cueAt_congr h, hup]

theorem Area.order_unbegun (hb : a.begun = false) : a.order s n =
    a.source.join.elim [] fun q => (s.cueAt q).start :: s.upcoming n (startOf s q 0) := by
  unfold Area.order
  rw [hb]
  cases a.source.join <;> rfl

theorem Area.order_begun (hb : a.begun = true) {m : Nat} (hm : a.source = some (some m)) (hk : a.chain = some k) :
    a.order s n = (if a.headInPlay then (s.blockAt k).toList else []) ++ s.upcoming n k := by
  unfold Area.order
  rw [hm, hb, hk]
  rfl

theorem Area.Sound.congr (h : t.cfg = s.cfg) (ha : a.Sound s n) : a.Sound t n :=
  { ha with leads := by rw [Area.order_congr h]; exact ha.leads }

theorem areaSize_congr (h : t.cfg = s.cfg) : t.areaSize = s.areaSize := by
  funext j
  unfold State.areaSize
  rw [h]

/-- A state whose areas are sound where those of another state are has the invariant with it. -/
theorem areasSound_of (hcfg : t.cfg = s.cfg)
    (h : ∀ c, (areaOf s c).Sound s (s.areaSize (.channel c)) → (areaOf t c).Sound s (s.areaSize (.channel c)))
    (hs : areasSound s) : areasSound t := by
  rw [areasSound_iff] at hs ⊢
  intro c
  rw [areaSize_congr hcfg]
  exact (h c (hs c)).congr hcfg

/-- The same after a change of one channel's area alone. -/
theorem areasSound_of_channel (hcfg : t.cfg = s.cfg) (ho : ∀ d, d ≠ c → areaOf t d = areaOf s d)
    (h : (areaOf s c).Sound s (s.areaSize (.channel c)) → (areaOf t c).Sound s (s.areaSize (.channel c)))
    (hs : areasSound s) : areasSound t := by
  refine areasSound_of hcfg (fun d hd => ?_) hs
  by_cases hdc : d = c
  · subst hdc
    exact h hd
  · rw [ho d hdc]
    exact hd

/-- Nothing changed that the invariant of the areas sees. -/
def sameAreas (s t : State) : Prop := t.cfg = s.cfg ∧ ∀ c, areaOf t c = areaOf s c

theorem sameAreas.sound (h : sameAreas s t) (hs : areasSound s) : areasSound t :=
  areasSound_of h.1 (fun c hc => by rw [h.2 c]; exact hc) hs

theorem sameAreas_of (hcfg : t.cfg = s.cfg) (hchr : t.chr = s.chr) (hcue : t.cue = s.cue) : sameAreas s t :=
  ⟨hcfg, fun c => by rw [areaOf, hchr, hcue]; rfl⟩

/-! ## The read in progress -/

theorem readsFor_readWith_other (h : d ≠ c) : readsFor (readWith c xs f) d = readsFor f d := by
  cases f with
  | none => rfl
  | some x =>
    by_cases hx : x.channel = c
    · have hd : (c == d) = false := beq_eq_false_iff_ne.2 (Ne.symm h)
      unfold readsFor readWith
      simp only [Option.map_some, Option.any_some]
      split <;> simp only [hx, hd, Bool.false_and]
    · rw [readWith, Option.map_some, if_neg fun hc => hx hc.1]

theorem readsFor_readWith : readsFor (readWith c xs f) c = true ↔ readsFor f c = true ∧ ∃ y ∈ xs, y.status = .filling := by
  cases f with
  | none => simp [readsFor, readWith]
  | some x =>
    unfold readsFor readWith
    by_cases hx : x.channel = c
    · by_cases hy : ∀ y ∈ xs, y.status ≠ .filling
      · have hn : ¬ ∃ y ∈ xs, y.status = .filling := fun ⟨y, hm, he⟩ => hy y hm he
        rw [Option.map_some, if_pos ⟨hx, hy⟩]
        simp [hn]
      · have hn : ∃ y ∈ xs, y.status = .filling := by simpa using hy
        rw [Option.map_some, if_neg fun h => hy h.2]
        simp [hn]
    · rw [Option.map_some, if_neg fun h => hx h.1]
      simp [hx]

theorem readsFor_readDropped : readsFor (readDropped c f) c = false := by
  rw [readDropped_eq, ← Bool.not_eq_true, readsFor_readWith]
  simp

theorem readsFor_readDropped_other (h : d ≠ c) : readsFor (readDropped c f) d = readsFor f d := by
  rw [readDropped_eq, readsFor_readWith_other h]

/-- Slots that are left of an area whose last slot alone may be filling. -/
theorem fillsLast_sublist (h : fillsLast ys) (hsub : xs.Sublist ys) (hx : ∃ x ∈ xs, x.status = .filling) : fillsLast xs := by
  obtain ⟨front, y, rfl, hy, hfront⟩ := h
  obtain ⟨left, last, rfl, hleft, hlast⟩ := List.sublist_append_iff.1 hsub
  have hnot : ∀ z ∈ left, z.status ≠ .filling := fun z hz => hfront z (hleft.subset hz)
  obtain rfl | rfl := List.sublist_singleton.1 hlast
  · obtain ⟨x, hxm, hxf⟩ := hx
    exact absurd hxf (hnot x (by simpa using hxm))
  · exact ⟨left, y, rfl, hy, hnot⟩

/-! ## What keeps the area of a channel sound -/

/-- An empty area without a begun programme. -/
theorem Area.sound_empty (hslots : a.slots = []) (hbegun : a.begun = false) (hhead : a.headInPlay = false)
    (hchain : a.chain = none) (hread : a.read = false) (hheld : a.source ≠ none → a.state = .waking ∨ a.state = .playing)
    (hidle : a.idling = true → a.state = .ready) (hwarm : a.warming = true → a.state = .waking) : a.Sound s n where
  fits := by rw [hslots]; exact Nat.zero_le n
  unused := fun _ => ⟨hslots, hbegun⟩
  held := hheld
  live := fun _ => hslots
  playing := fun h => by rw [hbegun] at h; cases h
  unbegun := fun _ => ⟨hhead, hchain⟩
  leads := fun _ => by rw [hslots]; exact List.nil_prefix
  heard := fun h => by rw [hhead] at h; cases h
  position := fun _ h => by rw [hhead] at h; cases h
  filling := fun x hx => by rw [hslots] at hx; cases hx
  read := fun h => by rw [hread] at h; cases h
  idle := hidle
  warm := hwarm

/-- A programme on a channel keeps it from being free, and one that has not begun has no chain (R111, R119). -/
theorem Area.Sound.chain_of_not_playing (h : a.Sound s n) (hp : a.state ≠ .playing) : a.begun = false ∧ a.chain = none := by
  have hb : a.begun = false := Bool.eq_false_of_not_eq_true fun hb => hp (h.playing hb)
  exact ⟨hb, (h.unbegun hb).2⟩

/-- A chain that CUE clears (R115). -/
theorem Area.Sound.clearChain (h : a.Sound s n) : Area.Sound s n { a with chain := none } where
  __ := h
  unbegun := fun hb => ⟨(h.unbegun hb).1, rfl⟩
  leads := by
    rintro (hb | hc)
    · have hsame := h.leads (.inl hb)
      rw [Area.order_unbegun (a := a) hb] at hsame
      rw [Area.order_unbegun (a := { a with chain := none }) hb]
      exact hsame
    · exact absurd rfl hc
  position := fun _ _ hk => nomatch hk

/-- The area of a channel whose programme, with the start cue `m`, begins at an instant. -/
def Area.begins (s : State) (m : Option Nat) (i : Nat) (a : Area) : Area :=
  { a with begun := true, headInPlay := m.isSome, chain := m.map fun q => startOf s q i }

/-- A programme that begins on a PLAYING channel: a live one, or one whose first block has been read (R111, R120). -/
theorem Area.Sound.begin (h : a.Sound s n) (hp : a.state = .playing) (hb : a.begun = false) {m : Option Nat}
    (hm : a.source = some m) (hhead : m ≠ none → ∃ x rest, a.slots = x :: rest ∧ x.status ≠ .filling) (i : Nat) :
    (a.begins s m i).Sound s n where
  __ := h
  unused := fun hn => nomatch hm.symm.trans hn
  playing := fun _ => hp
  unbegun := nofun
  leads := by
    cases m with
    | none =>
      rintro (hbegun | hc)
      · cases hbegun
      · exact absurd rfl hc
    | some q =>
      intro _
      have hsame := h.leads (.inl hb)
      rw [Area.order_unbegun hb, hm] at hsame
      rw [Area.order_begun (a := a.begins s (some q) i) rfl hm rfl, ← upcoming_started n _ 0]
      exact hsame
  heard := fun hs => hhead (Option.isSome_iff_ne_none.1 hs)
  position := fun k _ hk => by
    obtain ⟨q, -, rfl⟩ := Option.map_eq_some_iff.1 hk
    exact ⟨0, rfl⟩

/-- A read that ends settles the filling slot (R129, R131). -/
theorem Area.Sound.settle (h : a.Sound s n) {st : SlotStatus} (hst : st ≠ .filling) :
    Area.Sound s n { a with slots := settleSlots st a.slots, read := false } := by
  have hstatus : ∀ x : Slot, (if x.status == .filling then { x with status := st } else x).status ≠ .filling := by
    intro x
    split
    · exact hst
    · rename_i hx
      simpa using hx
  have hblocks : (settleSlots st a.slots).map (·.block) = a.slots.map (·.block) := by
    unfold settleSlots
    rw [List.map_map]
    refine List.map_congr_left fun x _ => ?_
    dsimp only [Function.comp_apply]
    split <;> rfl
  have hempty : a.slots = [] → settleSlots st a.slots = [] := fun he => by rw [he]; rfl
  exact {
    fits := by
      dsimp only
      rw [settleSlots, List.length_map]
      exact h.fits
    unused := fun hs => ⟨hempty (h.unused hs).1, (h.unused hs).2⟩
    held := h.held
    live := fun hs => hempty (h.live hs)
    playing := h.playing
    unbegun := h.unbegun
    leads := fun hc => by
      dsimp only
      rw [hblocks]
      exact h.leads hc
    heard := fun hp => by
      obtain ⟨x, rest, hx, -⟩ := h.heard hp
      exact ⟨_, _, by dsimp only; rw [hx]; rfl, hstatus x⟩
    position := h.position
    filling := fun x hx hf => by
      obtain ⟨y, -, rfl⟩ := List.mem_map.1 hx
      exact absurd hf (hstatus y)
    read := nofun
    idle := h.idle
    warm := h.warm }

/-- The port begins to fill a slot with the first block of the order that has none (R129). -/
theorem Area.Sound.fill (h : a.Sound s n) (hread : a.read = false) {b : Nat} (hn : a.slots.length < n)
    (hb : (a.order s n)[a.slots.length]? = some b) :
    Area.Sound s n { a with slots := a.slots ++ [⟨b, .filling⟩], read := true } := by
  have horder : a.order s n ≠ [] := by
    intro he
    rw [he] at hb
    cases hb
  have hsource : a.source.join ≠ none := fun hj => horder (by unfold Area.order; rw [hj])
  have hchain : a.begun = false ∨ a.chain ≠ none := by
    by_contra hc
    obtain ⟨hbegun, hk⟩ := not_or.1 hc
    refine horder ?_
    unfold Area.order
    rw [not_not.1 hk, Bool.eq_true_of_not_eq_false hbegun]
    cases a.source.join <;> rfl
  have hnone : ∀ x ∈ a.slots, x.status ≠ .filling := fun x hx hf => by
    have := h.filling x hx hf
    rw [hread] at this
    cases this
  exact {
    fits := by
      dsimp only
      rw [List.length_append]
      exact hn
    unused := fun hs => absurd (by rw [show a.source = none from hs]; rfl) hsource
    held := h.held
    live := fun hs => absurd (by rw [show a.source = some none from hs]; rfl) hsource
    playing := h.playing
    unbegun := h.unbegun
    leads := fun _ => by
      have hlead := h.leads hchain
      dsimp only
      rw [List.map_append]
      have hlt := (List.getElem?_eq_some_iff.1 hb).1
      have htake : (a.order s n).take (a.slots.length + 1) = a.slots.map (·.block) ++ [b] := by
        rw [List.take_add_one, hb, List.prefix_iff_eq_take.1 hlead, List.length_map]
        rfl
      rw [List.map_singleton, ← htake]
      exact List.take_prefix _ _
    heard := fun hp => by
      obtain ⟨x, rest, hx, hnf⟩ := h.heard hp
      exact ⟨x, rest ++ [⟨b, .filling⟩], by dsimp only; rw [hx]; rfl, hnf⟩
    position := h.position
    filling := fun _ _ _ => rfl
    read := fun _ => ⟨a.slots, _, rfl, rfl, hnone⟩
    idle := h.idle
    warm := h.warm }

end

end Sys2Proof.Machine
end

section
/-! SUPPORT. A programme begins on its channel (R111, R120, R125, R131, R134). -/

namespace Sys2Proof.Machine

section
variable {s : State} {c : ChannelId} {d : Demand} {n : Nat}

/-- A live programme begins with the newest block of its source (R134). -/
theorem beginProgramme_live (src : LiveSourceId) : beginProgramme c (.live src) s =
    withChannel c { s.chr.channels[c] with
      begun := true, zoneSet := s.demandSet (.live src), joins := [], boundary := some (s.now + 64)
      livePlayed := (livePlay src (s.ring src) []).2, audio := (livePlay src (s.ring src) []).1 } s.chr.reading s := by
  unfold beginProgramme
  dsimp only
  rw [mapChannel_eq_withChannel]
  rfl

/-- Another programme begins with the first slot, and CUE sets its chain (R111). -/
theorem beginProgramme_chain (h : startCue d = some n) : beginProgramme c d s =
    withChannel c { s.chr.channels[c] with
      begun := true, zoneSet := s.demandSet d, joins := [], boundary := some (s.now + 64), headInPlay := true
      audio := s.chr.channels[c].slots.head?.elim .silence slotAudio } s.chr.reading
      (s.setChain c (some (startOf s n s.now))) := by
  rw [← atCue_eq]
  cases d with
  | live src => cases h
  | fire q prio | tenant k q =>
    cases h
    exact congrArg (State.setChain · c _) (mapChannel_eq_withChannel (s := s) (c := c) _)

theorem beginProgramme_begins (c : ChannelId) (d : Demand) (s : State) : programmeBegins c d s (beginProgramme c d s) := by
  cases hd : startCue d with
  | none =>
    cases d with
    | fire | tenant => cases hd
    | live src =>
      rw [beginProgramme_live]
      unfold programmeBegins begunAs
      dsimp only
      rw [withChannel_record]
      refine ⟨rfl, ⟨rfl, rfl, rfl, rfl⟩, rfl, ?_, nofun⟩
      intro src' hsrc
      cases hsrc
      exact ⟨rfl, rfl, livePlay_plays _ _ _ rfl rfl⟩
  | some n =>
    rw [beginProgramme_chain hd]
    unfold programmeBegins begunAs
    dsimp only
    rw [withChannel_record]
    refine ⟨rfl, ⟨rfl, rfl, rfl, rfl⟩, rfl, ?_, ?_⟩
    · rintro src rfl
      cases hd
    · intro m hm
      cases hd.symm.trans hm
      refine ⟨rfl, rfl, rfl, fun x rest hx => ?_⟩
      dsimp only
      rw [hx]
      exact slotAudio_eq x

/-- A programme begins on its channel when the rules let it (R120, R131). -/
theorem tryBegin_begins (c : ChannelId) (s : State) : beginsIfReady c s (tryBegin c s) := by
  have hnot : ∀ x : Slot, (x.status != .filling) = true ↔ x.status ≠ .filling := fun x => by simp
  unfold beginsIfReady tryBegin
  dsimp only
  generalize s.chr.channels[c] = r
  cases hg : r.grant with
  | none => exact ⟨nofun, fun _ => rfl⟩
  | some g =>
    dsimp only
    by_cases hp : r.state = .playing ∧ r.begun = false
    · rw [if_pos (by rw [hp.1, hp.2]; rfl)]
      cases hcue : startCue g.prog.demand with
      | none =>
        refine ⟨?_, fun h => absurd ⟨rfl, hp.1, hp.2, fun hn => absurd hcue hn⟩ (h g)⟩
        rintro _ ⟨⟨⟩, -⟩
        exact beginProgramme_begins c g.prog.demand s
      | some n =>
        dsimp only
        by_cases hhead : ∃ x rest, r.slots = x :: rest ∧ x.status ≠ .filling
        · obtain ⟨x, rest, hx, hnf⟩ := hhead
          rw [hx, List.head?_cons, Option.any_some, if_pos ((hnot x).2 hnf)]
          refine ⟨?_, fun h => absurd ⟨rfl, hp.1, hp.2, fun _ => ⟨x, rest, rfl, hnf⟩⟩ (h g)⟩
          rintro _ ⟨⟨⟩, -⟩
          exact beginProgramme_begins c g.prog.demand s
        · rw [if_neg]
          · refine ⟨?_, fun _ => rfl⟩
            rintro _ ⟨⟨⟩, -, -, hmay⟩
            exact absurd (hmay (by rw [hcue]; nofun)) hhead
          · intro hany
            obtain ⟨x, hx, hnf⟩ := Option.any_eq_true _ _ |>.1 hany
            obtain ⟨rest, hrest⟩ := List.head?_eq_some_iff.1 hx
            exact hhead ⟨x, rest, hrest, (hnot x).1 hnf⟩
    · rw [if_neg (by simpa using hp)]
      refine ⟨?_, fun _ => rfl⟩
      rintro _ ⟨-, hplaying, hbegun, -⟩
      exact absurd ⟨hplaying, hbegun⟩ hp

end

end Sys2Proof.Machine
end

section
/-! SUPPORT. What the operations of the Cue Engine and the Channel Router make of the areas (R115, R119 to R131). -/

namespace Sys2Proof.Machine

/-- An operation keeps the areas sound. -/
def KeepsAreas (f : State → State) : Prop := ∀ s : State, areasSound s → areasSound (f s)

section
variable {s t : State} {c d : ChannelId} {q : ChannelRec} {f : Option FlashRead} {k : Option Chain} {p : Demand}

/-! ## Updates of one channel -/

theorem areaOf_withChannel : areaOf (withChannel c q f s) c = areaWith q s.cue.chains[c] (readsFor f c) := by
  rw [areaOf, withChannel_record]
  rfl

theorem areaOf_withChannel_other (h : d ≠ c) :
    areaOf (withChannel c q f s) d = areaWith s.chr.channels[d] s.cue.chains[d] (readsFor f d) := by
  rw [areaOf, show (withChannel c q f s).chr.channels[d] = s.chr.channels[d] from set_fin_other _ _ h]
  rfl

theorem areaOf_setChain : areaOf (s.setChain c k) c = { areaOf s c with chain := k } := by
  rw [areaOf, setChain_chains, set_fin_same]
  rfl

theorem areaOf_setChain_other (h : d ≠ c) : areaOf (s.setChain c k) d = areaOf s d := by
  rw [areaOf, setChain_chains, set_fin_other _ _ h]
  rfl

/-- A change of the record of a channel and of a read for it. -/
theorem withChannel_areas (hf : ∀ d, d ≠ c → readsFor f d = readsFor s.chr.reading d)
    (h : (areaOf s c).Sound s (s.areaSize (.channel c)) →
      (areaWith q s.cue.chains[c] (readsFor f c)).Sound s (s.areaSize (.channel c)))
    (hs : areasSound s) : areasSound (withChannel c q f s) := by
  refine areasSound_of_channel (s := s) (c := c) rfl (fun d hd => ?_) (fun hc => ?_) hs
  · rw [areaOf_withChannel_other hd, hf d hd]
    rfl
  · rw [areaOf_withChannel]
    exact h hc

/-- A change of the record of a channel alone. -/
theorem mapChannel_areas {F : ChannelRec → ChannelRec}
    (h : (areaOf s c).Sound s (s.areaSize (.channel c)) →
      (areaWith (F s.chr.channels[c]) s.cue.chains[c] (readsFor s.chr.reading c)).Sound s (s.areaSize (.channel c)))
    (hs : areasSound s) : areasSound (s.mapChannel c F) := by
  rw [mapChannel_eq_withChannel]
  exact withChannel_areas (fun _ _ => rfl) h hs

theorem setChain_none_areas (c : ChannelId) : KeepsAreas fun s => s.setChain c none := by
  intro s hs
  refine areasSound_of_channel (s := s) (c := c) rfl (fun d hd => areaOf_setChain_other hd) (fun hc => ?_) hs
  rw [areaOf_setChain]
  exact hc.clearChain

/-! ## Changes that the invariant does not see -/

theorem KeepsAreas.of_same {g : State → State} (h : ∀ s, sameAreas s (g s)) : KeepsAreas g := fun s => (h s).sound

/-- A change of records that leaves of each what the invariant sees. -/
theorem sameAreas_records (hcfg : t.cfg = s.cfg) (hcue : t.cue.chains = s.cue.chains)
    (hread : t.chr.reading = s.chr.reading)
    (h : ∀ (c : ChannelId) k b, areaWith t.chr.channels[c] k b = areaWith s.chr.channels[c] k b) : sameAreas s t :=
  ⟨hcfg, fun c => by rw [areaOf, hcue, hread, h]; rfl⟩

theorem sameAreas_mapChannel {F : ChannelRec → ChannelRec} (h : ∀ r k b, areaWith (F r) k b = areaWith r k b) :
    sameAreas s (s.mapChannel c F) := by
  rw [mapChannel_eq_withChannel]
  refine ⟨rfl, fun d => ?_⟩
  by_cases hd : d = c
  · subst hd
    rw [areaOf_withChannel, h]
    rfl
  · exact areaOf_withChannel_other hd

theorem deliver_areas (es : List Instr) : sameAreas s (s.deliver es) := sameAreas_of rfl rfl rfl

theorem remonitor_areas (s : State) : sameAreas s (remonitor s) := ⟨rfl, fun _ => rfl⟩

theorem remonitorIfMoved_areas (s t : State) : sameAreas t (remonitorIfMoved s t) := ⟨rfl, fun _ => rfl⟩

theorem setSource_areas (src : LiveSourceId) (r : LiveRec) (s : State) : sameAreas s (s.setSource src r) := by
  cases src <;> exact ⟨rfl, fun _ => rfl⟩

theorem dropWaiting_areas (d : Demand) (s : State) : sameAreas s (dropWaiting d s) := ⟨rfl, fun _ => rfl⟩

theorem victimGoes_areas (p : Programme) (s : State) : sameAreas s (victimGoes p s) := by
  unfold victimGoes
  split <;> exact ⟨rfl, fun _ => rfl⟩

theorem tenantEnded_areas (d : Demand) (s : State) : sameAreas s (tenantEnded d s) := by
  unfold tenantEnded
  split <;> exact ⟨rfl, fun _ => rfl⟩

theorem afterChain_areas (p : Programme) (s : State) : sameAreas s (afterChain p s) := by
  unfold afterChain
  split
  · exact ⟨rfl, fun _ => rfl⟩
  all_goals split <;> exact ⟨rfl, fun _ => rfl⟩

theorem programmeFormed_areas (d : Demand) (i : Nat) (s : State) : sameAreas s (programmeFormed d i s) := by
  unfold programmeFormed
  split
  · exact ⟨rfl, fun _ => rfl⟩
  all_goals split <;> exact ⟨rfl, fun _ => rfl⟩

/-- A demand instant that is renewed leaves the programme of every channel. -/
theorem renewInstant_areas (d : Demand) (i : Nat) (s : State) : sameAreas s (renewInstant d i s) := by
  refine sameAreas_records rfl rfl rfl fun c k b => ?_
  have hsource : ((s.chr.channels[c].grant.map fun g => if g.prog.demand == d then { g with prog := ⟨d, i⟩ } else g).map
      fun g => startCue g.prog.demand) = s.chr.channels[c].grant.map fun g => startCue g.prog.demand := by
    rw [Option.map_map]
    refine congrArg (Option.map · _) (funext fun g => ?_)
    dsimp only [Function.comp_apply]
    split
    · rename_i hg
      rw [beq_iff_eq.1 hg]
    · rfl
  refine (congrArg (areaWith · k b) (tab_fin _ c)).trans ?_
  unfold areaWith
  dsimp only
  rw [hsource]

theorem pendJoins_areas (d : Demand) (s : State) : sameAreas s (pendJoins d s) := by
  unfold pendJoins
  split
  · exact ⟨rfl, fun _ => rfl⟩
  · split
    · exact sameAreas_mapChannel fun _ _ _ => rfl
    · exact ⟨rfl, fun _ => rfl⟩

theorem zonesLeave_areas (s t : State) : sameAreas t (zonesLeave s t) :=
  sameAreas_records rfl rfl rfl fun c k b => (congrArg (areaWith · k b) (tab_fin _ c)).trans rfl

/-! ## Releases, grants and passes (R119 to R124) -/

theorem releaseChannel_areas (c : ChannelId) : KeepsAreas (releaseChannel c) := by
  intro s hs
  have hrel := releaseChannel_released (c := c) (s := s)
  unfold channelReleased at hrel
  rw [hrel]
  refine withChannel_areas (s := s.setChain c none) (fun d hd => readsFor_readDropped_other hd) (fun _ => ?_)
    (setChain_none_areas c s hs)
  have hc := areasSound_iff.1 hs c
  rw [setChain_chains, set_fin_same]
  refine Area.sound_empty rfl rfl rfl rfl readsFor_readDropped (fun h => absurd rfl h) (fun hi => ?_) (fun hw => ?_)
  · show (if s.chr.channels[c].state = .playing then ChannelState.ready else s.chr.channels[c].state) = .ready
    by_cases hp : s.chr.channels[c].state = .playing
    · rw [if_pos hp]
    · have hidle : (areaOf s c).idling = true := by
        rw [← hi]
        show _ = Option.isSome (if s.chr.channels[c].state = .playing ∧ s.chr.idlingSuspended = false then _ else _)
        rw [if_neg fun h => hp h.1]
        rfl
      rw [if_neg hp]
      exact hc.idle hidle
  · have hwaking : s.chr.channels[c].state = .waking := hc.warm hw
    show (if s.chr.channels[c].state = .playing then ChannelState.ready else s.chr.channels[c].state) = .waking
    rw [hwaking]
    rfl

/-- CUE sets the chain of a programme that begins from a start cue, and its first slot is in play. -/
theorem programmeBegins_chain (h : programmeBegins c p s t) :
    t.cue.chains = (startCue p).elim s.cue.chains (fun n => s.cue.chains.set c.val (some (startOf s n s.now)) c.isLt)
      ∧ t.chr.channels[c].headInPlay = (startCue p).elim s.chr.channels[c].headInPlay fun _ => true := by
  obtain ⟨-, -, -, hlive, hchain⟩ := h
  cases hcue : startCue p with
  | none =>
    cases p with
    | fire | tenant => cases hcue
    | live src =>
      obtain ⟨ht, hplay, -⟩ := hlive src rfl
      exact ⟨by rw [ht]; rfl, hplay⟩
  | some n =>
    obtain ⟨ht, hplay, -⟩ := hchain n hcue
    exact ⟨by rw [ht]; rfl, hplay⟩

/-- A programme that may begin keeps the areas sound when it does (R120, R128). -/
theorem programmeBegins_areas {g : Grant} (h : programmeBegins c g.prog.demand s t) (hg : s.chr.channels[c].grant = some g)
    (hp : s.chr.channels[c].state = .playing) (hb : s.chr.channels[c].begun = false)
    (hhead : startCue g.prog.demand ≠ none → ∃ x rest, s.chr.channels[c].slots = x :: rest ∧ x.status ≠ .filling)
    (hs : areasSound s) : areasSound t := by
  obtain ⟨hchains, hplay⟩ := programmeBegins_chain h
  obtain ⟨hframe, -, hrecord, -⟩ := h
  have hreading : t.chr.reading = s.chr.reading := by rw [hframe]
  refine areasSound_of_channel (s := s) (c := c) (by rw [hframe]) (fun d hd => ?_) (fun hc => ?_) hs
  · have hother : t.chr.channels[d] = s.chr.channels[d] := by
      rw [hframe]
      exact set_fin_other _ _ hd
    have hchain : t.cue.chains[d] = s.cue.chains[d] := by
      rw [hchains]
      cases startCue g.prog.demand with
      | none => rfl
      | some n => exact set_fin_other _ _ hd
    rw [areaOf, hother, hchain, hreading]
    rfl
  · have harea : areaOf t c = (areaOf s c).begins s (startCue g.prog.demand) s.now := by
      have hfields : areaOf t c = { areaOf s c with
          begun := true, headInPlay := t.chr.channels[c].headInPlay, chain := t.cue.chains[c] } := by
        rw [areaOf, hreading, hrecord]
        rfl
      obtain ⟨hunplayed, hnone⟩ := hc.unbegun hb
      rw [hfields, hplay, hchains, Area.begins]
      cases startCue g.prog.demand with
      | none =>
        rw [show s.chr.channels[c].headInPlay = false from hunplayed]
        simp only [Option.elim_none]
        rw [show s.cue.chains[c] = none from hnone]
        rfl
      | some n =>
        simp only [Option.elim_some, set_fin_same]
        rfl
    rw [harea]
    exact hc.begin hp hb (by rw [areaOf, areaWith, hg]; rfl) hhead _

theorem tryBegin_areas (c : ChannelId) : KeepsAreas (tryBegin c) := by
  intro s hs
  obtain ⟨hbegins, hstays⟩ := tryBegin_begins c s
  by_cases hmay : ∃ g, s.chr.channels[c].grant = some g ∧ s.chr.channels[c].state = .playing
      ∧ s.chr.channels[c].begun = false
      ∧ (startCue g.prog.demand ≠ none → ∃ x rest, s.chr.channels[c].slots = x :: rest ∧ x.status ≠ .filling)
  · obtain ⟨g, hg, hp, hb, hhead⟩ := hmay
    exact programmeBegins_areas (hbegins g ⟨hg, hp, hb, hhead⟩) hg hp hb hhead hs
  · rw [hstays fun g hg => hmay ⟨g, hg⟩]
    exact hs

/-- A grant of a channel that has no chain: its area is emptied, and a live programme may begin (R119, R120). -/
theorem grantChannel_areas {p : Programme} (hk : s.cue.chains[c] = none) (hs : areasSound s) :
    areasSound (grantChannel c p s) := by
  rw [grantChannel_eq]
  refine tryBegin_areas c _ (sameAreas.sound (s := withChannel c (grantedRecord p s s.chr.channels[c])
    (readDropped c s.chr.reading) s) ⟨rfl, fun _ => rfl⟩ ?_)
  refine withChannel_areas (fun d hd => readsFor_readDropped_other hd) (fun hc => ?_) hs
  rw [hk]
  refine Area.sound_empty rfl rfl rfl rfl readsFor_readDropped (fun _ => ?_) nofun (fun hw => ?_)
  · show (if _ then ChannelState.waking else .playing) = _ ∨ (if _ then ChannelState.waking else .playing) = _
    split
    · exact .inl rfl
    · exact .inr rfl
  · show (if _ then ChannelState.waking else .playing) = _
    refine if_pos ?_
    by_cases hstandby : s.chr.channels[c].state = .standby
    · exact .inl hstandby
    · refine .inr (hc.warm ?_)
      rw [← hw]
      show _ = Option.isSome (if s.chr.channels[c].state = .standby then _ else _)
      rw [if_neg hstandby]
      rfl

/-- A free channel has no chain (R111, R119). -/
theorem chain_of_free (hs : areasSound s) (h : s.chr.channels[c].free = true) : s.cue.chains[c] = none := by
  refine ((areasSound_iff.1 hs c).chain_of_not_playing fun hp => ?_).2
  have hplaying : s.chr.channels[c].state = .playing := hp
  rw [ChannelRec.free, hplaying] at h
  cases h

theorem preempt_areas (c : ChannelId) (old p : Programme) : KeepsAreas (preempt c old p) := by
  intro s hs
  refine grantChannel_areas ?_ ((victimGoes_areas old _).sound (setChain_none_areas c s hs))
  have hcue : (victimGoes old (s.setChain c none)).cue = (s.setChain c none).cue := by
    unfold victimGoes
    split <;> rfl
  rw [hcue]
  exact set_fin_same _ _ _

theorem arbitrate_areas (n : Nat) : KeepsAreas (arbitrate n) := by
  induction n with
  | zero => exact fun _ hs => hs
  | succ n ih =>
    intro s hs
    unfold arbitrate
    split
    · exact hs
    · split
      · rename_i hc
        exact ih _ (grantChannel_areas (chain_of_free hs (freeChoice_chosen hc).1) hs)
      · split
        · exact hs
        · split
          · exact ih _ (preempt_areas _ _ _ s hs)
          · exact hs

theorem arbitrationPass_areas : KeepsAreas arbitrationPass := arbitrate_areas 32

/-! ## Events of CUE and of CHR (R110, R115, R122 to R124, R133) -/

theorem programmeEnded_areas (d : Demand) : KeepsAreas (programmeEnded d) := by
  intro s hs
  have hdrop := (dropWaiting_areas d s).sound hs
  unfold programmeEnded
  split
  · exact hdrop
  · exact (tenantEnded_areas d _).sound (releaseChannel_areas _ _ hdrop)

theorem programmeTaken_areas (d : Demand) (news : ProgrammeNews) : KeepsAreas (programmeTaken d news) := by
  intro s hs
  refine arbitrationPass_areas _ ?_
  split
  · exact programmeEnded_areas d s hs
  · exact (programmeFormed_areas d _ s).sound hs
  · exact (pendJoins_areas d _).sound ((renewInstant_areas d _ s).sound hs)
  · exact hs
  · exact hs

theorem tenantTaken_areas (k q i : Nat) : KeepsAreas (tenantTaken k q i) := by
  intro s hs
  unfold tenantTaken
  split
  · rename_i hc
    exact grantChannel_areas (chain_of_free hs (freeChoice_chosen hc).1) hs
  · exact (deliver_areas _).sound hs

theorem stopSource_areas (src : LiveSourceId) : KeepsAreas (stopSource src) := fun s hs =>
  arbitrationPass_areas _ (programmeEnded_areas _ _ ((deliver_areas _).sound ((setSource_areas src _ s).sound hs)))

theorem portLostAtChr_areas (p : PortId) : KeepsAreas (portLostAtChr p) := by
  intro s hs
  unfold portLostAtChr
  split
  · split
    · exact stopSource_areas _ s hs
    · exact hs
  · exact hs

/-- The chains that CUE clears at the end of its events (R115). -/
theorem chainsEnd_areas (s : State) : KeepsAreas (chainsEnd s) := by
  intro t ht
  refine areasSound_of (s := t) rfl (fun c hc => ?_) ht
  have hchain : (chainsEnd s t).cue.chains[c] = none ∨ (chainsEnd s t).cue.chains[c] = t.cue.chains[c] := by
    unfold chainsEnd
    rw [withCue_cue]
    dsimp only
    rw [tab_fin]
    exact ite_eq_or_eq _ _ _
  unfold areaOf
  obtain hn | hsame := hchain
  · rw [hn]
    exact hc.clearChain
  · rw [hsame]
    exact hc

/-- The read port at the end of an event of CHR (R128, R129). -/
theorem kickPort_areas : KeepsAreas kickPort := by
  intro s hs
  unfold kickPort
  split
  · exact hs
  · rename_i hidle
    split
    · exact hs
    · rename_i c b hfirst
      obtain ⟨d, -, hd⟩ := List.exists_of_findSome?_eq_some hfirst
      obtain ⟨_, hnext, heq⟩ := Option.map_eq_some_iff.1 hd
      cases heq
      obtain ⟨hlt, hblock⟩ := nextRead_iff.1 hnext
      rw [readOrder_eq] at hblock
      have hnone : ∀ d, readsFor s.chr.reading d = false := fun d => by rw [hidle]; rfl
      refine sameAreas.sound (s := withChannel c { s.chr.channels[c] with
        slots := s.chr.channels[c].slots ++ [⟨b, .filling⟩] } (some ⟨c, s.now, false⟩) s) ?_ ?_
      · refine ⟨rfl, fun d => ?_⟩
        rw [mapChannel_eq_withChannel]
        rfl
      · refine withChannel_areas (fun d hd => ?_) (fun hc => ?_) hs
        · rw [hnone d]
          simp [readsFor, Ne.symm hd]
        · have hread : readsFor (some ⟨c, s.now, false⟩) c = true := by simp [readsFor]
          rw [hread]
          exact hc.fill (hnone c) hlt hblock

section
variable {g : State → State} {s : State}

theorem KeepsAreas.event (h : KeepsAreas g) (home : Agent) : KeepsAreas (event home g) := fun s hs =>
  sameAreas.sound (s := g s) (sameAreas_of rfl rfl rfl) (h s hs)

theorem chrChange_areas (h : areasSound (g s)) : areasSound (chrChange g s) :=
  (deliver_areas _).sound ((remonitorIfMoved_areas s _).sound (kickPort_areas _ h))

/-- An event of CHR keeps the areas sound when its own change does. -/
theorem chrEvent_areas (h : areasSound (g s)) : areasSound (chrEvent g s) :=
  sameAreas.sound (s := chrChange g s) (sameAreas_of rfl rfl rfl) (chrChange_areas h)

theorem KeepsAreas.chrChange (h : KeepsAreas g) : KeepsAreas (chrChange g) := fun s hs => chrChange_areas (h s hs)

theorem KeepsAreas.chr (h : KeepsAreas g) : KeepsAreas (chrEvent g) := fun s hs => chrEvent_areas (h s hs)

/-- An event of CUE keeps the areas sound when its own change does. -/
theorem KeepsAreas.cue (h : KeepsAreas g) : KeepsAreas (cueEvent g) :=
  KeepsAreas.event (fun s hs => (deliver_areas _).sound ((remonitorIfMoved_areas s _).sound
    (chainsEnd_areas s _ ((zonesLeave_areas s _).sound (h s hs))))) .cue

end

end

end Sys2Proof.Machine
end

section
/-! SUPPORT. Timers, block boundaries and reads keep the areas sound (R112, R113, R119, R121, R126 to R131). -/

namespace Sys2Proof.Machine

section
variable {s t : State} {c : ChannelId} {a : Area} {n m b : Nat} {k next : Chain} {g : Grant} {left xs : List Slot}

/-! ## Timers (R119, R121) -/

theorem Area.Sound.stopIdle (h : a.Sound s n) : Area.Sound s n { a with idling := false } := { h with idle := nofun }

theorem Area.Sound.startIdle (h : a.Sound s n) (hr : a.state = .ready) (i : Bool) :
    Area.Sound s n { a with idling := i } := { h with idle := fun _ => hr }

/-- The end of a warm-up on a channel with a programme. -/
theorem Area.Sound.warmToPlaying (h : a.Sound s n) (hw : a.warming = true) :
    Area.Sound s n { a with state := .playing, warming := false } := {
  h with
  held := fun _ => .inr rfl
  playing := fun _ => rfl
  idle := fun hi => nomatch (h.idle hi).symm.trans (h.warm hw)
  warm := nofun }

/-- The end of a warm-up on a channel without one. -/
theorem Area.Sound.warmToReady (h : a.Sound s n) (hn : a.source = none) (i : Bool) :
    Area.Sound s n { a with state := .ready, warming := false, idling := i } := {
  h with
  held := fun hs => absurd hn hs
  playing := fun hb => nomatch (h.unused hn).2.symm.trans hb
  idle := fun _ => rfl
  warm := nofun }

/-- The idle timer of a channel ends. -/
theorem Area.Sound.toStandby (h : a.Sound s n) (hi : a.idling = true) :
    Area.Sound s n { a with state := .standby, idling := false } := {
  h with
  held := fun hs => (h.held hs).elim (fun hw => nomatch (h.idle hi).symm.trans hw) fun hp =>
    nomatch (h.idle hi).symm.trans hp
  playing := fun hb => nomatch (h.idle hi).symm.trans (h.playing hb)
  idle := nofun
  warm := fun hw => nomatch (h.idle hi).symm.trans (h.warm hw) }

theorem suspendIdling_areas : KeepsAreas suspendIdling := by
  intro s hs
  refine areasSound_of (s := s) rfl (fun c hc => ?_) hs
  have harea : areaOf (suspendIdling s) c = { areaOf s c with idling := false } := by
    unfold areaOf suspendIdling
    rw [withChr_chr]
    dsimp only
    rw [tab_fin]
    rfl
  rw [harea]
  exact hc.stopIdle

theorem resumeIdling_areas : KeepsAreas resumeIdling := by
  intro s hs
  refine (remonitor_areas _).sound (areasSound_of (s := s) rfl (fun c hc => ?_) hs)
  unfold areaOf
  rw [withChr_chr]
  dsimp only
  rw [tab_fin]
  by_cases hr : s.chr.channels[c].state = .ready
  · rw [if_pos (beq_iff_eq.2 hr)]
    exact hc.startIdle hr true
  · rw [if_neg fun h => hr (beq_iff_eq.1 h)]
    exact hc

theorem isSome_of_due {x : Option Nat} (h : s.due x = true) : x.isSome = true := by
  cases x with
  | none => cases h
  | some i => rfl

theorem warmUpEnds_areas (h : s.due s.chr.channels[c].warmUp = true) (hs : areasSound s) : areasSound (warmUpEnds c s) := by
  have hw := isSome_of_due h
  unfold warmUpEnds
  dsimp only
  cases hg : s.chr.channels[c].grant with
  | some g => exact tryBegin_areas c _ (mapChannel_areas (fun hc => hc.warmToPlaying hw) hs)
  | none =>
    refine arbitrationPass_areas _ (mapChannel_areas (fun hc => ?_) hs)
    have hsource : (areaOf s c).source = none := by rw [areaOf, areaWith, hg]; rfl
    exact hc.warmToReady hsource _

theorem idleEnds_areas (h : s.due s.chr.channels[c].idle = true) (hs : areasSound s) :
    areasSound (s.mapChannel c fun r => { r with state := .standby, idle := none }) :=
  mapChannel_areas (fun hc => hc.toStandby (isSome_of_due h)) hs

/-! ## Reads (R129, R131) -/

theorem readEnds_areas {r : FlashRead} {st : SlotStatus} (hr : s.chr.reading = some r) (hst : st ≠ .filling)
    (hs : areasSound s) : areasSound (readEnds r st s) := by
  unfold readEnds
  dsimp only
  cases hd : r.discarded with
  | true =>
    refine sameAreas.sound (s := s) ⟨rfl, fun d => ?_⟩ hs
    have hnone : readsFor s.chr.reading d = false := by rw [hr]; simp [readsFor, hd]
    unfold areaOf
    rw [hnone]
    rfl
  | false =>
    refine tryBegin_areas _ _ (sameAreas.sound (s := withChannel r.channel { s.chr.channels[r.channel] with
      slots := settleSlots st s.chr.channels[r.channel].slots } none s) ?_ ?_)
    · rw [mapChannel_eq_withChannel]
      exact ⟨rfl, fun _ => rfl⟩
    · refine withChannel_areas (fun d hd => ?_) (fun hc => hc.settle hst) hs
      rw [hr]
      simp [readsFor, Ne.symm hd]

theorem readFails_areas {r : FlashRead} (hr : s.chr.reading = some r) (hs : areasSound s) : areasSound (readFails r s) := by
  have hends := readEnds_areas hr (st := .faulted) nofun hs
  unfold readFails
  dsimp only
  split
  · exact hends
  · exact (deliver_areas _).sound hends

theorem readDelivered_areas {r : FlashRead} (hr : s.chr.reading = some r) (hs : areasSound s) :
    areasSound (readDelivered r s) := by
  unfold readDelivered
  split
  · exact readEnds_areas hr nofun hs
  · exact readFails_areas hr hs

/-! ## The block boundary (R112, R113, R126, R128, R130) -/

/-- The area of a channel whose chain has moved: slots that are left, in the order of the new position. -/
theorem Area.Sound.advance (h : a.Sound s n) (hb : a.begun = true) (hm : a.source = some (some m)) {p read : Bool}
    (hsub : xs.Sublist a.slots)
    (hblocks : xs.map (·.block) <+: (if p then (s.blockAt next).toList else []) ++ s.upcoming n next)
    (hplay : p = true → (∃ x rest, xs = x :: rest ∧ x.status ≠ .filling) ∧ ∃ i, next.pos = .segment i)
    (hread : read = true ↔ a.read = true ∧ ∃ y ∈ xs, y.status = .filling) :
    Area.Sound s n { a with slots := xs, headInPlay := p, chain := some next, read := read } where
  __ := h
  fits := hsub.length_le.trans h.fits
  unused := fun hn => nomatch hm.symm.trans hn
  live := fun hn => nomatch hm.symm.trans hn
  unbegun := fun hn => nomatch hb.symm.trans hn
  leads := fun _ => by
    rw [Area.order_begun (a := { a with slots := xs, headInPlay := p, chain := some next, read := read }) hb hm rfl]
    exact hblocks
  heard := fun hp => (hplay hp).1
  position := fun j hp hj => by
    cases hj
    exact (hplay hp).2
  filling := fun x hx hf => hread.2 ⟨h.filling x (hsub.subset hx) hf, x, hx, hf⟩
  read := fun hr => fillsLast_sublist (h.read (hread.1 hr).1) hsub (hread.1 hr).2

/-- What a move takes off the front of the upcoming blocks is at the front of those behind the new position. -/
theorem prefix_of_upcoming {l : List Nat} {v : Nat} (h : l <+: s.upcoming n k)
    (hnext : ∀ j, s.upcoming (j + 1) k = v :: s.upcoming j next) : l <+: v :: s.upcoming n next := by
  cases n with
  | zero => exact h.trans List.nil_prefix
  | succ n =>
    rw [hnext] at h
    exact h.trans ((List.prefix_cons_inj v).2 (upcoming_prefix (Nat.le_succ n) next))

theorem toList_getElem?_sublist {α : Type} (l : List α) (i : Nat) : (l[i]?).toList.Sublist l := by
  cases hy : l[i]? with
  | none => exact List.nil_sublist l
  | some y => exact List.singleton_sublist.2 (List.mem_of_getElem? hy)

/-- The slots that a move of the chain leaves stood in the area in the same order. -/
theorem areaLeft_sublist
    (hnext : movesWithin s k next ∨ ∃ n, cueIsOver s k ∧ s.chosenLink c k.cue = some n ∧ next = startOf s n k.started)
    (hleft : AreaLeft s c k next left) : left.Sublist s.chr.channels[c].slots := by
  have hbehind : (slotsBehind s.chr.channels[c]).Sublist s.chr.channels[c].slots := by
    unfold slotsBehind
    split
    · exact List.drop_sublist 1 _
    · exact List.Sublist.refl _
  refine List.Sublist.trans ?_ hbehind
  obtain hm | ⟨n, hover, hn, hat⟩ := hnext
  · rw [hleft.kept (.inr hm)]
  · by_cases hc : (s.cueAt k.cue).condition = .always
    · rw [hleft.kept (.inl hc)]
    · rw [hleft.chosen n hc ⟨hover, hn, hat⟩]
      exact toList_getElem?_sublist _ _

section
variable (hs : areasSound s) (hg : s.chr.channels[c].grant = some g) (hd : ∀ src, g.prog.demand ≠ .live src)
  (hk : s.cue.chains[c] = some k)
  (hnext : movesWithin s k next ∨ ∃ n, cueIsOver s k ∧ s.chosenLink c k.cue = some n ∧ next = startOf s n k.started)
  (hleft : AreaLeft s c k next left)
include hs hg hd hk hnext hleft

/-- The slots that a move of the chain leaves hold the blocks from the new position on (R128). -/
theorem areaLeft_blocks :
    left.map (·.block) <+: (s.blockAt next).toList ++ s.upcoming (s.areaSize (.channel c)) next := by
  have hbehind := slotsBehind_upcoming hs hg hd hk
  obtain hm | ⟨n, hover, hn, hat⟩ := hnext
  · rw [hleft.kept (.inr hm)]
    cases hp : next.pos with
    | gap j =>
      rw [show s.blockAt next = none by rw [State.blockAt, hp], ← upcoming_gap hm hp]
      exact hbehind
    | segment i =>
      rw [blockAt_segment hp]
      exact prefix_of_upcoming hbehind (upcoming_segment hm hp)
  · by_cases hc : (s.cueAt k.cue).condition = .always
    · rw [hleft.kept (.inl hc), hat, blockAt_startOf]
      refine prefix_of_upcoming hbehind (upcoming_link hover hc ?_)
      rw [← hn, State.chosenLink, hc]
      rfl
    · have hone := hleft.chosen n hc ⟨hover, hn, hat⟩
      cases hy : (slotsBehind s.chr.channels[c])[if (s.cueAt k.cue).nextTrue = none ∨ (s.cueAt k.cue).nextTrue = some n
          then 0 else 1]? with
      | none =>
        rw [hone, hy]
        exact List.nil_prefix
      | some y =>
        rw [hy] at hone
        have hblock := hleft.head 0 y [] (by rw [hat]; rfl) hone
        rw [hone, show s.blockAt next = some y.block by rw [hblock, hat]; rfl]
        exact ⟨_, rfl⟩

end

/-- What the block at the new position leaves of the area (R130, R131). -/
theorem blockPlays_area {first : Nat} {q x : ChannelRec} {news : List Instr} (h : BlockPlays first c next q x news)
    (hblocks : q.slots.map (·.block) <+: (s.blockAt next).toList ++ s.upcoming n next) :
    x.slots.Sublist q.slots
      ∧ (x.slots.map (·.block) <+: (if x.headInPlay then (s.blockAt next).toList else []) ++ s.upcoming n next)
      ∧ (x.headInPlay = true →
          (∃ y rest, x.slots = y :: rest ∧ y.status ≠ .filling) ∧ ∃ i, next.pos = .segment i) := by
  obtain ⟨-, hgap, hheard, hunder⟩ := h
  cases hp : next.pos with
  | gap j =>
    obtain ⟨hslots, hplay, -⟩ := hgap j hp
    rw [show s.blockAt next = none by rw [State.blockAt, hp]] at hblocks
    rw [hslots, hplay]
    exact ⟨.refl _, hblocks, nofun⟩
  | segment i =>
    rw [blockAt_segment hp] at hblocks ⊢
    by_cases hfill : ∀ y rest, q.slots = y :: rest → y.status = .filling
    · obtain ⟨hslots, hplay, -⟩ := hunder i hp hfill
      rw [hslots, hplay]
      exact ⟨List.drop_sublist 1 _, by simpa using hblocks.drop 1, nofun⟩
    · simp only [not_forall] at hfill
      obtain ⟨y, rest, hy, hnf⟩ := hfill
      obtain ⟨hslots, hplay, -⟩ := hheard i y rest hp hy hnf
      rw [hslots, hplay]
      exact ⟨.refl _, hblocks, fun _ => ⟨⟨y, rest, hy, hnf⟩, i, rfl⟩⟩

/-- A block boundary at which the chain goes on. -/
theorem boundaryAt_advance_areas (hs : areasSound s) (hb : s.chr.channels[c].boundary = some b)
    (hg : s.chr.channels[c].grant = some g) (hd : ∀ src, g.prog.demand ≠ .live src) (hk : s.cue.chains[c] = some k)
    (hnext : movesWithin s k next ∨ ∃ n, cueIsOver s k ∧ s.chosenLink c k.cue = some n ∧ next = startOf s n k.started) :
    areasSound (boundaryAt c s) := by
  obtain ⟨left, x, news, hleft, hplays, hat⟩ := boundaryAt_plays hs hb hg hd hk hnext
  have hblocks := areaLeft_blocks hs hg hd hk hnext hleft
  have hsub := areaLeft_sublist hnext hleft
  obtain ⟨hslots, horder, hplay⟩ := blockPlays_area hplays hblocks
  have hrecord := hplays.frame
  rw [hat]
  refine (deliver_areas news).sound (areasSound_of_channel (s := s) (c := c) rfl (fun d hd => ?_) (fun hc => ?_) hs)
  · rw [areaOf_withChannel_other hd, readsFor_readWith_other hd]
    exact areaOf_setChain_other hd
  · obtain ⟨m, hm⟩ : ∃ m, (areaOf s c).source = some (some m) := by
      rw [areaOf, areaWith, hg]
      cases hdem : g.prog.demand with
      | live src => exact absurd hdem (hd src)
      | fire n | tenant _ n => exact ⟨n, by rw [Option.map_some, hdem]; rfl⟩
    have hbegun : (areaOf s c).begun = true := by
      by_contra hn
      have := (hc.unbegun (Bool.eq_false_of_not_eq_true hn)).2
      exact nomatch this.symm.trans hk
    have harea : areaOf (withChannel c (joinedRecord x) (readWith c x.slots s.chr.reading) (s.setChain c (some next))) c =
        { areaOf s c with
          slots := x.slots, headInPlay := x.headInPlay, chain := some next
          read := readsFor (readWith c x.slots s.chr.reading) c } := by
      rw [areaOf_withChannel, setChain_chains, set_fin_same, joinedRecord, hrecord]
      rfl
    rw [harea]
    exact hc.advance hbegun hm (hslots.trans hsub) horder hplay readsFor_readWith

theorem sameAreas.trans {u : State} (h : sameAreas s t) (h' : sameAreas t u) : sameAreas s u :=
  ⟨h'.1.trans h.1, fun c => (h'.2 c).trans (h.2 c)⟩

/-- CUE's records beside the chains are not seen. -/
theorem withCue_areas {X : Cue} (h : X.chains = s.cue.chains) : sameAreas s (s.withCue X) :=
  sameAreas_records rfl h rfl fun _ _ _ => rfl

/-- A block boundary at which the chain ends (R116). -/
theorem boundaryAt_end_areas (hs : areasSound s) (hb : s.chr.channels[c].boundary = some b)
    (hg : s.chr.channels[c].grant = some g) (hd : ∀ src, g.prog.demand ≠ .live src) (hk : s.cue.chains[c] = some k)
    (hover : cueIsOver s k) (hn : s.chosenLink c k.cue = none) : areasSound (boundaryAt c s) := by
  rw [boundaryAt_end hb hg hd hk hover hn, chainEnds_blockEnded]
  refine arbitrationPass_areas _ ((afterChain_areas _ _).sound (releaseChannel_areas c _ ?_))
  exact (withCue_areas (restedCue_chains _ _)).sound hs

theorem joinZones_areas (c : ChannelId) (s : State) : sameAreas s (joinZones c s) := sameAreas_mapChannel fun _ _ _ => rfl

theorem liveBoundary_areas (c : ChannelId) (src : LiveSourceId) (s : State) : sameAreas s (liveBoundary c src s) := by
  refine sameAreas.trans ?_ (joinZones_areas c _)
  exact sameAreas_mapChannel fun _ _ _ => rfl

theorem boundaryAt_areas (hb : s.chr.channels[c].boundary = some b) (hs : areasSound s) : areasSound (boundaryAt c s) := by
  have hmoved : sameAreas s (s.mapChannel c fun r => { r with boundary := r.boundary.map (· + blockTime) }) :=
    sameAreas_mapChannel fun _ _ _ => rfl
  cases hg : s.chr.channels[c].grant with
  | none =>
    unfold boundaryAt
    rw [hg]
    exact hmoved.sound hs
  | some g =>
    by_cases hd : ∃ src, g.prog.demand = .live src
    · obtain ⟨src, hd⟩ := hd
      unfold boundaryAt
      rw [hg]
      dsimp only
      rw [hd]
      exact (hmoved.trans (liveBoundary_areas c src _)).sound hs
    · have hd := not_exists.1 hd
      cases hk : s.cue.chains[c] with
      | none =>
        unfold boundaryAt
        rw [hg]
        dsimp only
        rw [hk]
        cases hdem : g.prog.demand with
        | live src => exact absurd hdem (hd src)
        | fire | tenant => exact hmoved.sound hs
      | some k =>
        obtain ⟨next, hm⟩ | hover := movesWithin_or_cueIsOver s k
        · exact boundaryAt_advance_areas hs hb hg hd hk (.inl hm)
        · cases hn : s.chosenLink c k.cue with
          | some n => exact boundaryAt_advance_areas hs hb hg hd hk (.inr ⟨n, hover, hn, rfl⟩)
          | none => exact boundaryAt_end_areas hs hb hg hd hk hover hn

end

end Sys2Proof.Machine
end

section
/-! PROOF. Every step keeps the areas of the channels sound (R119, R121, R127 to R129): requests, starts, and each command. -/

namespace Sys2Proof.Machine

/-! ## The other blocks -/

section
variable {s t : State}

theorem lscOnly.areas (h : lscOnly s t) : sameAreas s t := by rw [lscOnly] at h; rw [h]; exact sameAreas_of rfl rfl rfl
theorem rgeOnly.areas (h : rgeOnly s t) : sameAreas s t := by rw [rgeOnly] at h; rw [h]; exact sameAreas_of rfl rfl rfl
theorem lfcOnly.areas (h : lfcOnly s t) : sameAreas s t := by rw [lfcOnly] at h; rw [h]; exact sameAreas_of rfl rfl rfl
theorem dsqOnly.areas (h : dsqOnly s t) : sameAreas s t := by rw [dsqOnly] at h; rw [h]; exact sameAreas_of rfl rfl rfl
theorem tnqOnly.areas (h : tnqOnly s t) : sameAreas s t := by rw [tnqOnly] at h; rw [h]; exact sameAreas_of rfl rfl rfl
theorem trlOnly.areas (h : trlOnly s t) : sameAreas s t := by rw [trlOnly] at h; rw [h]; exact sameAreas_of rfl rfl rfl
theorem cfsOnly.areas (h : cfsOnly s t) : sameAreas s t := by rw [cfsOnly] at h; rw [h]; exact sameAreas_of rfl rfl rfl
theorem linksOnly.areas (h : linksOnly s t) : sameAreas s t := by
  rw [linksOnly] at h; rw [h]; exact sameAreas_of rfl rfl rfl

theorem sameAreas.refl (s : State) : sameAreas s s := sameAreas_of rfl rfl rfl

theorem taken_areas (s : State) (e : Instr) : sameAreas s (s.taken e) := sameAreas_of rfl rfl rfl

theorem countChange_areas (a : Agent) (s t : State) : sameAreas t (countChange a s t) := sameAreas_of rfl rfl rfl

end

section
variable {f g : State → State}

theorem KeepsAreas.id : KeepsAreas fun s => s := fun _ h => h

theorem KeepsAreas.onDelivery (h : KeepsAreas f) (e : Instr) : KeepsAreas (onDelivery e f) := fun s hs =>
  onDelivery_keeps (fun s t => areasSound s → areasSound t) (fun h => h) (fun hs => h _ ((taken_areas s e).sound hs)) hs

theorem KeepsAreas.ite {c : State → Bool} (hf : KeepsAreas f) (hg : KeepsAreas g) :
    KeepsAreas fun s => if c s then f s else g s := by
  intro s hs
  dsimp only
  split
  · exact hf s hs
  · exact hg s hs

theorem KeepsAreas.ifDue {c : State → Bool} (h : KeepsAreas f) : KeepsAreas fun s => if c s then f s else s := h.ite .id

theorem KeepsAreas.rge (h : ∀ s, rgeOnly s (f s)) : KeepsAreas (rgeEvent f) :=
  KeepsAreas.event (.of_same fun s => (rgeChange_rgeOnly s f (h s)).areas) .rge
theorem KeepsAreas.dsq (h : ∀ s, dsqOnly s (f s)) : KeepsAreas (dsqEvent f) :=
  KeepsAreas.event (.of_same fun s => (dsqChange_dsqOnly s f (h s)).areas) .dsq
theorem KeepsAreas.lfc (h : ∀ s, lfcOnly s (f s)) : KeepsAreas (Machine.event .lfc f) :=
  KeepsAreas.event (.of_same fun s => (h s).areas) .lfc
theorem KeepsAreas.tnq (h : ∀ s, tnqOnly s (f s)) : KeepsAreas (Machine.event .tnq f) :=
  KeepsAreas.event (.of_same fun s => (h s).areas) .tnq
theorem KeepsAreas.trl (h : ∀ s, trlOnly s (f s)) : KeepsAreas (Machine.event .trl f) :=
  KeepsAreas.event (.of_same fun s => (h s).areas) .trl
theorem KeepsAreas.cfs (h : ∀ s, cfsOnly s (f s)) : KeepsAreas (Machine.event .cfs f) :=
  KeepsAreas.event (.of_same fun s => (h s).areas) .cfs

end

theorem recomputeFire_areas (f : SpeakerId → Bool) (s : State) : sameAreas s (recomputeFire f s) := withCue_areas rfl

theorem setDemand_areas (z : SpeakerId) (r : ZoneDemand) (s : State) : sameAreas s (s.setDemand z r) := withCue_areas rfl

/-! ## Requests (R161, R164, R165) -/

theorem cmdMonitorSelect_areas (a b : Byte) (s : State) : sameAreas s (cmdMonitorSelect a b s).1 := by
  unfold cmdMonitorSelect
  split
  · exact .refl s
  · exact ⟨rfl, fun _ => rfl⟩

theorem cmdLiveStart_areas (src : LiveSourceId) (zs : List SpeakerId) (s : State) :
    sameAreas s (cmdLiveStart src zs s).1 := by
  unfold cmdLiveStart
  dsimp only
  split
  · exact .refl s
  · split
    · exact .refl s
    · exact (setSource_areas src _ s).trans (deliver_areas _)

/-- No command moves an area. -/
theorem decideCommand_areas (p : PortId) (code : Nat) (args : List Byte) (s : State) :
    sameAreas s (decideCommand p code args s).1 := by
  unfold decideCommand
  dsimp only
  split
  next => exact (cmdAcknowledge_rgeOnly s).areas
  next => exact (cmdSilence_rgeOnly s _).areas
  next => exact (cmdResound_rgeOnly s _).areas
  next => exact (cmdRegimeReset_rgeOnly s _).areas
  next => exact (cmdEvacuateAll_rgeOnly s _).areas
  next => exact (cmdCancelEvacuateAll_rgeOnly s _).areas
  next => exact (cmdHoldExpansion_rgeOnly s _).areas
  next => exact (cmdReleaseExpansion_rgeOnly s _).areas
  next => exact (cmdIsolateZone_rgeOnly s _ _).areas
  next => exact (cmdRestoreZone_rgeOnly s _ _).areas
  next => exact (cmdTakeManualControl_rgeOnly s).areas
  next => exact (cmdSetFloorPhase_rgeOnly s _ _).areas
  next => exact (cmdReturnToAutomatic_rgeOnly s _).areas
  next => exact (cmdRecallBank_lfcOnly s _).areas
  next => exact (cmdCancelRecall_lfcOnly s _).areas
  next => exact (cmdAuthorisePhaseII_lfcOnly s _).areas
  next => exact (cmdWithdrawPhaseII_lfcOnly s _).areas
  next => exact (cmdReleaseAllDoors_dsqOnly s).areas
  next => exact cmdMonitorSelect_areas _ _ s
  next => exact .refl s

theorem serveCommand_areas (p : PortId) (code : Byte) (args : List Byte) (s : State) :
    sameAreas s (serveCommand p code args s).1 := by
  unfold serveCommand
  split
  · exact .refl s
  · split
    · exact .refl s
    · exact decideCommand_areas p _ args s

theorem serveAnnounce_areas (p : PortId) (sub : Byte) (args : List Byte) :
    KeepsAreas fun s => (serveAnnounce p sub args s).1 := by
  intro s hs
  dsimp only
  unfold serveAnnounce
  split
  · exact (cmdAnnounceTenant_tnqOnly s _ _).areas.sound hs
  · exact (cmdAnnounceCancel_tnqOnly s _).areas.sound hs
  · split
    · exact (cmdLiveStart_areas _ _ s).sound hs
    · exact hs
  · split
    · dsimp only
      unfold cmdLiveStop
      split
      · exact stopSource_areas _ s hs
      · exact hs
    · exact hs
  · exact hs

theorem serve_areas (p : PortId) (kind : Byte) (body : List Byte) : KeepsAreas fun s => (serve p kind body s).1 := by
  intro s hs
  dsimp only
  unfold serve
  split
  · exact hs
  · unfold serveKind
    split
    next => exact hs
    next => exact (zoneReportTaken_rgeOnly s p _).areas.sound hs
    next => exact (serveCommand_areas p _ _ s).sound hs
    next =>
      unfold serveCarReport
      split
      · exact (carReportTaken_lfcOnly s _ _).areas.sound hs
      · exact hs
    next => exact hs
    next => exact serveAnnounce_areas p _ _ s hs
    next => exact (configure_cfsOnly s p _ _).areas.sound hs

theorem beforeService_areas (p : PortId) (home : Agent) (s : State) : sameAreas s (beforeService p home s) := by
  have hpresence := (presenceOnFrame_linksOnly s p).areas
  unfold beforeService
  split
  · refine hpresence.trans ?_
    unfold takeOwnPresence
    split
    · exact (taken_areas _ _).trans (presenceAtLfc_lfcOnly _ _ _).areas
    · exact .refl _
  · exact hpresence

theorem serveFrame_areas (p : PortId) (home : Agent) (kind : Byte) (body : List Byte) (at_ : Nat) :
    KeepsAreas (serveFrame p home kind body at_) := fun s hs =>
  (prepare_linksOnly _ p _ at_).areas.sound (serve_areas p kind body _ ((beforeService_areas p home s).sound hs))

/-- A block that takes an earlier delivery of a port. -/
theorem takePortDelivery_areas (s : State) (e : Instr) : areasSound s → areasSound (takePortDelivery s e) := by
  unfold takePortDelivery
  split
  · exact KeepsAreas.onDelivery (.rge fun s => panelLost_rgeOnly s _) _ s
  · exact KeepsAreas.onDelivery (.rge commandStationLost_rgeOnly) _ s
  · exact KeepsAreas.onDelivery (.of_same (g := counterIncreased) fun _ => sameAreas_of rfl rfl rfl) _ s
  · exact KeepsAreas.onDelivery (.lfc fun s => presenceAtLfc_lfcOnly s _ _) _ s
  · exact KeepsAreas.onDelivery (KeepsAreas.chr (portLostAtChr_areas _)) _ s
  · exact id

theorem takeEarlier_areas (p : PortId) (home : Agent) : KeepsAreas (takeEarlier p home) := fun s =>
  foldl_keeps (fun s t => areasSound s → areasSound t) (fun _ => id) (fun _ _ _ h k => k ∘ h) _ takePortDelivery_areas _ s

theorem KeepsAreas.blockChange {f : State → State} (h : KeepsAreas f) (home : Agent) : KeepsAreas (blockChange home f) := by
  intro s hs
  cases home with
  | rge =>
    exact ((((recountFloors_rgeOnly _).trans (settleRegime_rgeOnly _)).trans (deliver_rgeOnly _ _)).areas).sound (h s hs)
  | dsq => exact (deliver_areas _).sound (h s hs)
  | chr => exact h.chrChange s hs
  | lsc | lfc | cue | tnq | trl | cfs | port => exact h s hs

theorem takeFrame_areas (p : PortId) (kind : Byte) (body : List Byte) (at_ : Nat) :
    KeepsAreas (takeFrame p kind body at_) := fun s hs =>
  KeepsAreas.event ((serveFrame_areas p _ kind body at_).blockChange _) _ _ (takeEarlier_areas p _ s hs)

theorem mapPort_areas (p : PortId) (f : PortRec → PortRec) (s : State) : sameAreas s (s.mapPort p f) :=
  (setPort_linksOnly s p _).areas

theorem receiveErrors_areas (p : PortId) (es : List ReceiveErrorKind) : KeepsAreas (receiveErrors p es) :=
  KeepsAreas.event (.of_same fun s => (receiveFails_linksOnly s p es).areas) _

theorem frameArrives_areas (p : PortId) (kind : Byte) (body : List Byte) : KeepsAreas (frameArrives p kind body) := by
  intro s hs
  unfold frameArrives
  split
  · split
    · exact takeFrame_areas p kind body _ _ ((abandon_linksOnly s p).areas.sound hs)
    · exact receiveErrors_areas p _ _ ((mapPort_areas p _ s).sound hs)
  · exact hs

theorem hearCharacter_areas (p : PortId) (b : Heard) : KeepsAreas (hearCharacter p b) := by
  intro s hs
  have hu : areasSound (lineIdle p (s.instantAt b.us) s) := (mapPort_areas p _ s).sound hs
  unfold hearCharacter
  dsimp only
  generalize lineIdle p (s.instantAt b.us) s = u at hu
  unfold received
  split
  · exact receiveErrors_areas p _ u hu
  · exact (addressTaken_linksOnly u p _).areas.sound hu
  · exact (frameStarted_linksOnly u p _).areas.sound hu
  · exact (mapPort_areas p _ u).sound hu
  · exact takeFrame_areas p _ _ _ u hu
  · exact (mapPort_areas p _ u).sound hu
  · exact hu

theorem graceEnds_areas (s : State) : sameAreas s (graceEnds s) :=
  (withLinks_linksOnly s _).areas.trans
    (foldl_keeps sameAreas .refl (fun _ _ _ => sameAreas.trans) graceEndsAt (fun s p => by
      unfold graceEndsAt
      split
      · exact (losePort_linksOnly s p).areas.trans (countChange_areas _ _ _)
      · exact .refl s) _ _)

/-! ## Starts (R137, R170, R175) -/

theorem readLines_areas (s : State) : sameAreas s (readLines s) := by
  have hlines : dsqOnly s ((List.finRange 4).foldl readLine s) :=
    foldl_keeps dsqOnly (fun _ => rfl) (fun _ _ _ => dsqOnly.trans) readLine (fun s g => by
      unfold readLine
      dsimp only
      split
      · exact takeRequest_dsqOnly s g
      · split
        · exact handBack_dsqOnly s g
        · exact dsqOnly.refl s) _ s
  exact (dsqChange_dsqOnly s (fun s => (List.finRange 4).foldl readLine s) hlines).areas.trans (countChange_areas _ _ _)

/-- Four free channels without areas, chains and reads are sound under every configuration. -/
theorem areasSound_fresh {s : State} (hread : s.chr.reading = none) (hchain : ∀ c : ChannelId, s.cue.chains[c] = none)
    (h : ∀ c : ChannelId, s.chr.channels[c].slots = [] ∧ s.chr.channels[c].begun = false
      ∧ s.chr.channels[c].headInPlay = false ∧ s.chr.channels[c].grant = none ∧ s.chr.channels[c].idle = none
      ∧ s.chr.channels[c].warmUp = none) : areasSound s := by
  refine areasSound_iff.2 fun c => ?_
  obtain ⟨hslots, hbegun, hplay, hgrant, hidle, hwarm⟩ := h c
  refine Area.sound_empty hslots hbegun hplay (hchain c) ?_ (fun hsource => ?_) (fun hi => ?_) (fun hw => ?_)
  · rw [areaOf, hread]
    rfl
  · rw [areaOf, areaWith, hgrant] at hsource
    exact absurd rfl hsource
  · rw [areaOf, areaWith, hidle] at hi
    cases hi
  · rw [areaOf, areaWith, hwarm] at hw
    cases hw

theorem areasSound_cold {s : State} (hchr : s.chr = State.reset.chr) (hcue : s.cue = State.reset.cue) : areasSound s := by
  refine areasSound_fresh ?_ (fun c => ?_) fun c => ?_
  · rw [hchr]
    rfl
  · rw [hcue]
    simp [State.reset]
  · rw [hchr]
    simp [State.reset]

theorem coldStart_areas (out : Outputs) (eeprom image : Option Image) (s : State) :
    areasSound (coldStart out eeprom image s) := by
  have hfault : ∀ e u, areasSound (enterConfigFault e u) := fun e u => areasSound_cold rfl rfl
  unfold coldStart
  dsimp only
  split
  · split
    · exact (readLines_areas _).sound (areasSound_cold rfl rfl)
    · exact hfault _ _
  · exact hfault _ _

theorem warmChr_channel (s : State) (c : ChannelId) : (warmChr s).channels[c] = warmChannel s.chr.channels[c] := tab_fin _ c

/-- A warm restart empties every area and takes every programme from its channel (R137). -/
theorem areasSound_warm {s t : State} (hchr : t.chr = warmChr s) (hcue : t.cue = State.reset.cue) : areasSound t := by
  refine areasSound_fresh ?_ (fun c => ?_) fun c => ?_
  · rw [hchr]
    rfl
  · rw [hcue]
    simp [State.reset]
  · rw [hchr, warmChr_channel]
    exact ⟨rfl, rfl, rfl, rfl, rfl, rfl⟩

theorem restarted_areas (s : State) : areasSound (restarted s) := by
  have hwarm : areasSound (warmValues (showing s.outputs s)) := areasSound_warm (s := showing s.outputs s) rfl rfl
  have hu := (startExpansion_rgeOnly (warmValues (showing s.outputs s))).areas.sound hwarm
  unfold restarted
  generalize startExpansion (warmValues (showing s.outputs s)) = u at hu
  have hp : sameAreas u (warmProgrammes u) := (recomputeFire_areas _ u).trans (deliver_areas _)
  exact ((hp.trans (remonitor_areas _)).trans (readLines_areas _)).sound hu

/-! ## Every command -/

/-- A command keeps the areas sound. -/
def CommandKeepsAreas (i : Instr) : Prop := ∀ s t : State, exec i s = .next t → areasSound s → areasSound t

theorem KeepsAreas.command {i : Instr} {f : State → State} (h : KeepsAreas f) (he : ∀ s, exec i s = .next (f s)) :
    CommandKeepsAreas i := by
  intro s t ht hs
  rw [he] at ht
  cases ht
  exact h s hs

/-- A request is a whole frame at its port. -/
theorem request_keepsAreas {i : Instr} {p : PortId} {kind : Byte} {body : List Byte}
    (h : frameOf i = some (p, kind, body)) : CommandKeepsAreas i :=
  (frameArrives_areas p kind body).command fun _ => exec_request h

/-- An event of CHR that happens when one of its instants has come. -/
theorem KeepsAreas.chrDue {f : State → State} {x : State → Option Nat}
    (h : ∀ s, s.due (x s) = true → areasSound s → areasSound (f s)) :
    KeepsAreas fun s => if s.due (x s) then chrEvent f s else s := by
  intro s hs
  dsimp only
  split
  next hd => exact chrEvent_areas (h s hd hs)
  next => exact hs

theorem expand_rgeOnly (s : State) : rgeOnly s (expand s) :=
  (((raiseFloors_rgeOnly s _).trans (recomputeAlert_rgeOnly _)).trans (withRge_rgeOnly _ _)).trans (startExpansion_rgeOnly _)

/-- The commands keep the areas sound, each by what its block does to them. -/
theorem exec_keepsAreas (i : Instr) : CommandKeepsAreas i := by
  cases i with
  -- Loop Scanner
  | scanStart => exact KeepsAreas.command (.ifDue (.of_same fun s => (withLsc_lscOnly s _).areas)) fun _ => rfl
  | loopConversion l n =>
    exact KeepsAreas.command
      (.ifDue (.event (.of_same fun s => (withLsc_lscOnly s _).areas.trans (deliver_areas _)) .lsc)) fun _ => rfl
  -- Regime Engine
  | zoneConditionArrival z c =>
    exact KeepsAreas.command (.onDelivery (.rge fun s => by
      split
      · exact arrive_rgeOnly s z c
      · exact rgeOnly.refl s) _) fun _ => rfl
  | verificationTimerExpiry z => exact KeepsAreas.command (.ifDue (.rge fun s => enterZoneAlarm_rgeOnly s z)) fun _ => rfl
  | expansionTimerExpiry => exact KeepsAreas.command (.ifDue (.rge expand_rgeOnly)) fun _ => rfl
  | rgePanelLoss p => exact KeepsAreas.command (.onDelivery (.rge fun s => panelLost_rgeOnly s p) _) fun _ => rfl
  | rgeCommandStationLoss p => exact KeepsAreas.command (.onDelivery (.rge commandStationLost_rgeOnly) _) fun _ => rfl
  | changeCounterIncrease a =>
    exact KeepsAreas.command (.onDelivery (.of_same fun s => (withRge_rgeOnly s _).areas) _) fun _ => rfl
  | reentryImpairedWrite f v => exact KeepsAreas.command (.onDelivery (.rge fun s => withRge_rgeOnly s _) _) fun _ => rfl
  | verifyBypassedRemoval z => exact KeepsAreas.command (.onDelivery (.rge fun s => setZone_rgeOnly s z _) _) fun _ => rfl
  -- Lift Coordinator
  | lfcZoneAlarm z => exact KeepsAreas.command (.onDelivery (.lfc fun s => zoneAlarmAtLfc_lfcOnly s z) _) fun _ => rfl
  | lfcAlarmEntry => exact KeepsAreas.command (.onDelivery (.lfc alarmEntryAtLfc_lfcOnly) _) fun _ => rfl
  | lfcRegimeReset => exact KeepsAreas.command (.onDelivery (.lfc resetAtLfc_lfcOnly) _) fun _ => rfl
  | lfcPresenceChange p q => exact KeepsAreas.command (.onDelivery (.lfc fun s => presenceAtLfc_lfcOnly s p q) _) fun _ => rfl
  | shutdownTimerExpiry b => exact KeepsAreas.command (.ifDue (.lfc fun s => shutdownExpires_lfcOnly s b)) fun _ => rfl
  | lampHalfCycle b => exact KeepsAreas.command (.ifDue (.of_same fun s => (lampToggles_lfcOnly s b).areas)) fun _ => rfl
  -- Door Sequencer
  | dsqPhaseChange fs => exact KeepsAreas.command (.onDelivery (.dsq fun s => phaseChangeAtDsq_dsqOnly s fs) _) fun _ => rfl
  | dsqListAppend f =>
    exact KeepsAreas.command (.onDelivery (.dsq fun s => by
      split
      · exact promote_dsqOnly s _
      · exact dsqOnly.refl s) _) fun _ => rfl
  | dsqRegimeReset => exact KeepsAreas.command (.onDelivery (.dsq resetAtDsq_dsqOnly) _) fun _ => rfl
  | pacingTimerExpiry g => exact KeepsAreas.command (.ifDue (.dsq fun s => pacingExpires_dsqOnly s g)) fun _ => rfl
  | zeroGapAttempt g =>
    exact KeepsAreas.command (.ifDue (.dsq fun s => (mapGroup_dsqOnly s g _).trans (attempt_dsqOnly _ g))) fun _ => rfl
  | rampEnd d => exact KeepsAreas.command (.ifDue (.dsq fun s => rampEnds_dsqOnly s d)) fun _ => rfl
  | doorVerifyTimerExpiry d => exact KeepsAreas.command (.ifDue (.dsq fun s => setDoor_dsqOnly s d _)) fun _ => rfl
  | dsqFeedbackBand l b => exact KeepsAreas.command (.onDelivery (.dsq fun s => feedbackAtDsq_dsqOnly s l b) _) fun _ => rfl
  | takeoverRequestAsserted g =>
    exact KeepsAreas.command (.ite .id (.ite (.of_same fun s => (mapGroup_dsqOnly s g _).areas)
      (.dsq fun s => (mapGroup_dsqOnly s g _).trans (takeRequest_dsqOnly _ g)))) fun _ => rfl
  | takeoverRequestReleased g =>
    exact KeepsAreas.command (.ite .id (.ite (.of_same fun s => (mapGroup_dsqOnly s g _).areas)
      (.dsq fun s => by
        split
        · exact (mapGroup_dsqOnly s g _).trans (handBack_dsqOnly _ g)
        · exact mapGroup_dsqOnly s g _))) fun _ => rfl
  | takeoverDriveChange g level =>
    exact KeepsAreas.command (.of_same fun s => (mapGroup_dsqOnly s g _).areas) fun _ => rfl
  -- Cue Engine
  | cuePhaseChange fs =>
    exact KeepsAreas.command (.onDelivery (.cue (.of_same (recomputeFire_areas _))) _) fun _ => rfl
  | cueAlarmEntry | cueSilenceChange | cueRegimeReset =>
    exact KeepsAreas.command (.onDelivery (.cue (.of_same (recomputeFire_areas _))) _) fun _ => rfl
  | liveSlotWrite z w => exact KeepsAreas.command (.onDelivery (.cue (.of_same fun s => setDemand_areas z _ s)) _) fun _ => rfl
  | tenantSlotWrite z w => exact KeepsAreas.command (.onDelivery (.cue (.of_same fun s => setDemand_areas z _ s)) _) fun _ => rfl
  -- Channel Router
  | programmeHanded d n i => exact KeepsAreas.command (.onDelivery (.chr (programmeTaken_areas d n)) _) fun _ => rfl
  | tenantProgrammeHanded k q i => exact KeepsAreas.command (.onDelivery (.chr (tenantTaken_areas k q i)) _) fun _ => rfl
  | chrAlarmEntry => exact KeepsAreas.command (.onDelivery (.chr suspendIdling_areas) _) fun _ => rfl
  | chrRegimeReset => exact KeepsAreas.command (.onDelivery (.chr resumeIdling_areas) _) fun _ => rfl
  | chrListAppend f => exact KeepsAreas.command (.onDelivery (.chr (.of_same remonitor_areas)) _) fun _ => rfl
  | chrPortLoss p => exact KeepsAreas.command (.onDelivery (.chr (portLostAtChr_areas p)) _) fun _ => rfl
  | warmUpExpiry c => exact KeepsAreas.command (.chrDue fun _ hd hs => warmUpEnds_areas hd hs) fun _ => rfl
  | idleTimerExpiry c => exact KeepsAreas.command (.chrDue fun _ hd hs => idleEnds_areas hd hs) fun _ => rfl
  | blockBoundary c =>
    refine KeepsAreas.command (.chrDue (x := fun s => s.chr.channels[c].boundary) fun s hd hs => ?_) fun _ => rfl
    obtain ⟨b, hb⟩ := Option.isSome_iff_exists.1 (isSome_of_due hd)
    exact boundaryAt_areas hb hs
  | memoryReadComplete =>
    intro s t h hs
    cases h
    split
    next => exact hs
    next hr => exact chrEvent_areas (readDelivered_areas hr hs)
  | memoryReadFailed =>
    intro s t h hs
    cases h
    split
    next => exact hs
    next hr => exact chrEvent_areas (readFails_areas hr hs)
  | liveBlockComplete l =>
    exact KeepsAreas.command (.ifDue (.of_same (g := liveBlockTaken l) fun s => setSource_areas l _ s)) fun _ => rfl
  | underrunRemoval c =>
    exact KeepsAreas.command (.onDelivery (.chr (.of_same fun s =>
      sameAreas_mapChannel (s := s) (c := c) (F := fun r => { r with underrun := false }) fun _ _ _ => rfl)) _) fun _ => rfl
  -- Tenant Queue
  | agingTimerExpiry t => exact KeepsAreas.command (.ifDue (.tnq fun s => ageEntry_tnqOnly s t)) fun _ => rfl
  | tnqChannelFree => exact KeepsAreas.command (.onDelivery (.tnq admissionScan_tnqOnly) _) fun _ => rfl
  | tenantRefusal t =>
    exact KeepsAreas.command (.onDelivery (.tnq fun s => onPlaying_tnqOnly s t _ fun e u => refused_tnqOnly u e) _) fun _ => rfl
  | tenantCompletion t =>
    exact KeepsAreas.command (.onDelivery (.tnq fun s => onPlaying_tnqOnly s t _ fun e u => completed_tnqOnly u e) _) fun _ => rfl
  | tenantPreEmption t | tenantProgrammeEmptied t =>
    exact KeepsAreas.command (.onDelivery (.tnq fun s => onPlaying_tnqOnly s t _ fun e u => cutShort_tnqOnly u e) _) fun _ => rfl
  | tnqAlarmFlush => exact KeepsAreas.command (.onDelivery (.tnq flush_tnqOnly) _) fun _ => rfl
  -- Trouble List
  | troubleRaise k n => exact KeepsAreas.command (.onDelivery (.trl fun s => troubleRaised_trlOnly s k n) _) fun _ => rfl
  | troubleClear k n => exact KeepsAreas.command (.onDelivery (.trl fun s => troubleCleared_trlOnly s k n) _) fun _ => rfl
  | trlAcknowledge => exact KeepsAreas.command (.onDelivery (.trl acknowledgeAll_trlOnly) _) fun _ => rfl
  -- Ports
  | supervisionTimerExpiry p =>
    exact KeepsAreas.command (.ifDue (.event (.of_same fun s => (losePort_linksOnly s p).areas) _)) fun _ => rfl
  | startGraceEnd => exact KeepsAreas.command (.ifDue (.of_same graceEnds_areas)) fun _ => rfl
  | addressCharacter p b | frameStart p b | dataCharacter p b =>
    exact KeepsAreas.command (.ifDue (hearCharacter_areas p b)) fun _ => rfl
  | receiveError p e b => exact KeepsAreas.command (.ifDue (hearCharacter_areas p b)) fun _ => rfl
  | answerBegin a => exact KeepsAreas.command (.ifDue (.of_same fun s => mapPort_areas _ _ s)) fun _ => rfl
  | answerSent a =>
    exact KeepsAreas.command (.ifDue (.of_same fun s =>
      (mapPort_areas _ _ s).trans (startWrite_linksOnly _ a.port).areas)) fun _ => rfl
  -- Configuration Store
  | configurationKeyOn => exact KeepsAreas.command (.ite .id (.cfs keyTurnedOn_cfsOnly)) fun _ => rfl
  | configurationKeyOff =>
    exact KeepsAreas.command (.ifDue (.cfs fun s => (withCfs_cfsOnly s _).trans (endMode_cfsOnly _))) fun _ => rfl
  | cfsRegimeDelivery n => exact KeepsAreas.command (.onDelivery (.cfs endMode_cfsOnly) _) fun _ => rfl
  -- Starts
  | eepromWriteEnd written =>
    intro s t h hs
    cases h
    split
    · exact hs
    · split
      · exact hs
      · split <;> exact coldStart_areas _ _ _ s
  | coldStart c e =>
    intro s t h hs
    cases h
    split
    · exact coldStart_areas _ _ _ s
    · split
      · exact coldStart_areas _ _ _ s
      · exact hs
  | warmRestart =>
    intro s t h hs
    cases h
    split
    · exact coldStart_areas _ _ _ s
    · split
      · exact hs
      · exact restarted_areas s
  -- Requests
  | poll | zoneReport | acknowledge | silence | resound | regimeReset | evacuateAll | cancelEvacuateAll | holdExpansion
  | releaseExpansion | isolateZone | restoreZone | takeManualControl | setFloorPhase | returnToAutomatic | recallBank
  | cancelRecall | authorisePhaseII | withdrawPhaseII | releaseAllDoors | monitorSelect | carReport | read
  | announceTenant | announceCancel | liveStart | liveStop | configureWrite | configureReadBack | configureCommit
  | configureDiscard => exact request_keepsAreas rfl
  | unknownCommandCode | unknownAnnounceSubkind | unknownConfigureSubkind | unknownRequestKind =>
    exact KeepsAreas.command (.ite .id (frameArrives_areas _ _ _)) fun _ => rfl

/-- What the part does by itself keeps the areas sound. -/
theorem ownStep_keepsAreas {s t : State} (h : ownStep s = .next t) (hs : areasSound s) : areasSound t := by
  unfold ownStep at h
  split at h
  · exact exec_keepsAreas _ s t h hs
  · split at h
    · exact exec_keepsAreas _ s t h hs
    · cases h
      exact sameAreas.sound (s := s) (sameAreas_of rfl rfl rfl) hs

/-- Settles O9: each command keeps the areas sound, and so does what the part does by itself. -/
theorem stepKeepsReadAhead : Obligations.StepKeepsReadAhead := by
  intro s t hs h
  unfold step at h
  split at h
  · exact exec_keepsAreas _ _ t h (sameAreas.sound (s := s) (sameAreas_of rfl rfl rfl) hs)
  · exact ownStep_keepsAreas h hs

end Sys2Proof.Machine
end

section
/-! SUPPORT. A request that CHR decides, as one event of CHR, and the monitored channel at the end of an event (R129, R135,
R161). -/

namespace Sys2Proof.Machine

/-- A state with other port records and another Configuration Store, which no event of CHR reads. -/
def relinked (l : Links) (c : Cfs) (s : State) : State := { s with links := l, cfs := c }

section
variable {s t u y : State} {f : State → State} {p : PortId} {l : Links} {x : Cfs} {a : Answer}

/-! ## The monitored channel (R135) -/

theorem kickPort_monitorTarget : (kickPort s).monitorTarget = s.monitorTarget := by
  have hany : ∀ (c : ChannelId) (g : SpeakerId → Bool),
      (kickPort s).chr.channels[c].zoneSet.any g = s.chr.channels[c].zoneSet.any g := fun c g => by rw [(kickPort_zoneSets c).1]
  have hrge : (kickPort s).rge = s.rge := by rw [kickPort_frame]
  unfold State.monitorTarget
  simp only [kickPort_waiting.2, hrge, hany]

/-- An event whose own change works out the monitored channel leaves it so (R135). -/
theorem chrEvent_monitorFollows (h : (f s).chr.monitored = (f s).monitorTarget) : monitorFollows (chrEvent f s) := by
  have hkept : (kickPort (f s)).chr.monitored = (kickPort (f s)).monitorTarget := by
    rw [kickPort_monitorTarget, ← h, kickPort_frame]
  refine monitorTarget_follows ?_
  show (if (s.zoneSets == (kickPort (f s)).zoneSets && s.chr.selection == (kickPort (f s)).chr.selection) = true then
    (kickPort (f s)).chr.monitored else (kickPort (f s)).monitorTarget) = (kickPort (f s)).monitorTarget
  rw [hkept, ite_self]

theorem monitorFollows_congr (hchr : t.chr = s.chr) (hrge : t.rge.firstAlarms = s.rge.firstAlarms) (h : monitorFollows s) :
    monitorFollows t := by
  unfold monitorFollows
  rw [hchr, hrge]
  exact h

/-! ## The ports and the Configuration Store -/

theorem nextRead_relinked (c : ChannelId) : (relinked l x s).nextRead c = s.nextRead c := by
  have horder : ∀ n, (relinked l x s).readOrder c n = s.readOrder c n := fun n => by
    unfold State.readOrder
    simp only [upcoming_congr (s := s) (t := relinked l x s) rfl]
    rfl
  unfold State.nextRead
  simp only [horder]
  rfl

theorem kickPort_relinked : kickPort (relinked l x s) = relinked l x (kickPort s) := by
  unfold kickPort
  simp only [nextRead_relinked]
  rw [show (relinked l x s).chr.reading = s.chr.reading from rfl, show (relinked l x s).portOrder = s.portOrder from rfl]
  cases s.chr.reading with
  | some r => rfl
  | none =>
    cases s.portOrder.findSome? fun c => (s.nextRead c).map fun b => (c, b) with
    | none => rfl
    | some cb => rfl

/-- The end of an event of CHR sees of the state before it the Channel Router alone. -/
theorem chrChange_relinked (hs : t.chr = s.chr) (hf : f t = relinked l x u) :
    chrChange f t = relinked l x (chrChange (fun _ => u) s) := by
  have hzones : t.zoneSets = s.zoneSets := by
    unfold State.zoneSets
    rw [hs]
  have hfree : ∀ v, freedChannel t v = freedChannel s v := fun v => by
    unfold freedChannel
    rw [hs]
  unfold chrChange
  dsimp only
  rw [hf, kickPort_relinked, hfree]
  unfold remonitorIfMoved
  rw [hzones, hs]
  rfl

theorem relinked_asked (h : s.configFault = false) :
    relinked s.links s.cfs (asked p s) = { s with deliveries := withFrame p s } := by
  have hasked := asked_eq (p := p) h
  generalize asked p s = v at hasked
  rw [hasked]
  rfl

/-- What an event of CHR leaves, told of a state with the same Channel Router, the same chains and its own deliveries. -/
theorem chrEnds_congr (h : chrEnds s u t) (hcue : y.cue = t.cue) (hchr : y.chr = t.chr)
    (hrge : y.rge.firstAlarms = t.rge.firstAlarms)
    (hleaves : ∀ news, leaves .chr u.deliveries news s t → leaves .chr u.deliveries news s y) : chrEnds s u y := by
  obtain ⟨hends, hport, hframe, ⟨hmoved, hstays⟩, hfreed, hnone⟩ := h
  refine ⟨hcue.trans hends, ?_, ?_, ⟨fun hm => monitorFollows_congr hchr hrge (hmoved hm), fun hm => ?_⟩,
    fun hm => hleaves _ (hfreed hm), fun hm => hleaves _ (hnone hm)⟩
  · unfold portBegins
    rw [hchr]
    exact hport
  · rw [hchr]
    exact hframe
  · rw [hchr]
    exact hstays hm

/-- An event that leaves on its way what another event of the block does, but for the increase of the change counter. -/
theorem leaves_event_congr {home : Agent} {way news : List Instr} {g : State → State} (hh : home ≠ .rge)
    (hx : readable t = readable s) (hd : (f t).deliveries = (g s).deliveries)
    (hc : (f t).rge.changeCounter = s.rge.changeCounter) (h : leaves home way news s (event home g s)) :
    leaves home way news s (event home f t) := by
  refine leaves_event_other hh hx (hd.trans ?_) hc
  have hall := h.1
  rw [if_neg hh, event_other hh] at hall
  exact List.append_cancel_right hall

/-- The event of CHR that serves a request whose steps leave `y` (R161). -/
theorem chr_request_ends (h : s.configFault = false) (hf : f (abandon p s) = prepare p a (s.instantAt 0) y)
    (hy : chrOnly (asked p s) y) :
    ∃ t, event .chr (chrChange f) (abandon p s) = t ∧ chrServed p s t ∧ answers p a s t
      ∧ chrEnds s (relinked s.links s.cfs y) t ∧ (y.chr.monitored = y.monitorTarget → monitorFollows t) := by
  have hasked := asked_eq (p := p) h
  have hlinks : (prepare p a (s.instantAt 0) y).links = (prepare p a (s.instantAt 0) (asked p s)).links := by
    rw [hy]
    rfl
  have hcfs : y.cfs = (abandon p s).cfs := by rw [hy, hasked]
  have hrge : y.rge = s.rge := by rw [hy, hasked]
  have hserved : f (abandon p s) =
      relinked (prepare p a (s.instantAt 0) y).links (abandon p s).cfs (relinked s.links s.cfs y) := by
    rw [hf, ← hcfs]
    rfl
  have honly : chrOnly s (relinked s.links s.cfs y) := by
    rw [chrOnly] at hy
    generalize asked p s = v at hasked hy
    rw [hy, hasked]
    rfl
  have hend := chrChange_relinked (s := s) (t := abandon p s) abandon_chr hserved
  have hends := chrEvent_ends (f := fun _ => relinked s.links s.cfs y) honly
  have hconly := chrChange_chrOnly s (fun _ => relinked s.links s.cfs y) honly
  have hrgeLeft : (chrChange (fun _ => relinked s.links s.cfs y) s).rge = s.rge := by rw [hconly]
  have hrgeEnd : (chrChange f (abandon p s)).rge = s.rge := by
    rw [hend]
    exact hrgeLeft
  have hcue : (event .chr (chrChange f) (abandon p s)).cue = (chrEvent (fun _ => relinked s.links s.cfs y) s).cue := by
    rw [event_cue, hend]
    rfl
  have hchr : (event .chr (chrChange f) (abandon p s)).chr = (chrEvent (fun _ => relinked s.links s.cfs y) s).chr := by
    rw [event_chr, hend]
    rfl
  have halarms : (event .chr (chrChange f) (abandon p s)).rge.firstAlarms
      = (chrEvent (fun _ => relinked s.links s.cfs y) s).rge.firstAlarms := by
    exact (congrArg Rge.firstAlarms hrgeEnd).trans (congrArg Rge.firstAlarms hrgeLeft).symm
  refine ⟨_, rfl, ?_, answers_of h ?_, chrEnds_congr hends hcue hchr halarms fun news hl => ?_,
    fun hm => monitorFollows_congr hchr halarms (chrEvent_monitorFollows hm)⟩
  · unfold chrServed
    rw [event_other (by decide), hend]
    rw [chrOnly] at hconly
    generalize chrChange (fun _ => relinked s.links s.cfs y) s = v at hconly
    rw [hconly]
    rfl
  · rw [event_links, hend]
    exact hlinks
  · refine leaves_event_congr (by decide) readable_abandon ?_ (congrArg Rge.changeCounter hrgeEnd) hl
    rw [hend]
    rfl

/-- A request that passes the checks of R164 and that CHR decides (R161, R164). -/
theorem chr_request_next {i : Instr} {kind : Byte} {body : List Byte} (hi : frameOf i = some (p, kind, body))
    (h : canAsk p .chr s) (hb : body.length ≤ 56) (hk : s.requestCheck p kind body = none)
    (hh : serveHome p kind body s = .chr) (hy : chrOnly (asked p s) (serveKind p kind body (asked p s)).1) :
    ∃ t, exec i s = .next t ∧ chrServed p s t ∧ answers p (serveKind p kind body (asked p s)).2 s t
      ∧ chrEnds s (relinked s.links s.cfs (serveKind p kind body (asked p s)).1) t
      ∧ ((serveKind p kind body (asked p s)).1.chr.monitored = (serveKind p kind body (asked p s)).1.monitorTarget →
          monitorFollows t) := by
  obtain ⟨t, ht, hrest⟩ := chr_request_ends (p := p) (f := fun x =>
    prepare p (serveKind p kind body (presenceOnFrame p x)).2 (s.instantAt 0)
      (serveKind p kind body (presenceOnFrame p x)).1) h.2.1 rfl hy
  exact ⟨t, (request_served hi h hb hk hh (.inl (by decide))).trans (congrArg _ ht), hrest⟩

/-- A delivery to CHR whose event works out the monitored channel. -/
theorem chrDelivery_follows {e : Instr} (h : s.takes e = true) (hf : chrOnly (s.taken e) (f (s.taken e)))
    (hm : (f (s.taken e)).chr.monitored = (f (s.taken e)).monitorTarget) :
    ∃ t, onDelivery e (chrEvent f) s = t ∧ onlyChannels s t ∧ chrEnds s (f (s.taken e)) t ∧ monitorFollows t := by
  obtain ⟨t, ht, honly, hends⟩ := chrDelivery_ends h hf
  refine ⟨t, ht, honly, hends, ?_⟩
  rw [← ht, onDelivery_takes h]
  exact chrEvent_monitorFollows hm

end

end Sys2Proof.Machine
end

section
/-! PROOF. Idling and the monitored channel: the deliveries of RGE and MONITOR SELECT (R121, R135). -/

namespace Sys2Proof.Machine

section
variable {s : State} {p : PortId} {code channel : Byte} {m : MonitorSelection}

/-! ## The selection (R135) -/

theorem selectionOf_none (h : 2 < code.toNat ∨ (code.toNat = 1 ∧ 3 < channel.toNat)) : selectionOf code channel = none := by
  unfold selectionOf
  rcases h with h | ⟨h, hc⟩
  · split
    next e => omega
    next e => omega
    next e => omega
    next => rfl
  · rw [h]
    show (toIndex 4 channel.toNat).map _ = none
    rw [toIndex_eq_none.2 hc]
    rfl

theorem selectionOf_some (h : (code.toNat = 0 ∧ m = .off) ∨ (code.toNat = 2 ∧ m = .followOrigin)
    ∨ (code.toNat = 1 ∧ ∃ c : ChannelId, c.val = channel.toNat ∧ m = .channel c)) : selectionOf code channel = some m := by
  unfold selectionOf
  rcases h with ⟨h, rfl⟩ | ⟨h, rfl⟩ | ⟨h, c, hc, rfl⟩
  · rw [h]
    rfl
  · rw [h]
    rfl
  · rw [h]
    show (toIndex 4 channel.toNat).map _ = _
    rw [← hc, toIndex_val]
    rfl

/-- The monitor follows a selection that has just been set (R135). -/
def selected (m : MonitorSelection) (s : State) : State := remonitor (s.withChr { s.chr with selection := m })

theorem cmdMonitorSelect_none (h : selectionOf code channel = none) : cmdMonitorSelect code channel s = (s, .range) := by
  rw [cmdMonitorSelect, h]

theorem cmdMonitorSelect_some (h : selectionOf code channel = some m) :
    cmdMonitorSelect code channel s = (selected m s, .accepted) := by
  rw [cmdMonitorSelect, h]
  rfl

/-- MONITOR SELECT as one event of CHR (R161, R165). -/
theorem monitorSelect_next (h : canAsk p .chr s) (hr : s.role p = .commandStation) :
    ∃ t, exec (.monitorSelect p [code, channel]) s = .next t ∧ chrServed p s t
      ∧ answers p (commandAnswer 19 (cmdMonitorSelect code channel (asked p s)).2) s t
      ∧ chrEnds s (relinked s.links s.cfs (cmdMonitorSelect code channel (asked p s)).1) t
      ∧ ((cmdMonitorSelect code channel (asked p s)).1.chr.monitored
          = (cmdMonitorSelect code channel (asked p s)).1.monitorTarget → monitorFollows t) := by
  have hcheck : s.requestCheck p 3 [19, code, channel] = none := by
    unfold State.requestCheck
    rw [h.2.1, hr]
    rfl
  have hhome : serveHome p 3 [19, code, channel] s = .chr := by
    rw [serveHome, hcheck]
    show commandHome p 19 s = .chr
    unfold commandHome
    rw [hr]
    rfl
  have hrole : (asked p s).role p = .commandStation := by
    rw [State.role, asked_cfg h.2.1]
    exact hr
  have hserve : serveKind p 3 [19, code, channel] (asked p s) = ((cmdMonitorSelect code channel (asked p s)).1,
      commandAnswer 19 (cmdMonitorSelect code channel (asked p s)).2) := by
    show ((serveCommand p 19 [code, channel] (asked p s)).1, commandAnswer 19 (serveCommand p 19 [code, channel] (asked p s)).2)
      = _
    unfold serveCommand
    rw [hrole]
    rfl
  have hnext := chr_request_next (i := .monitorSelect p [code, channel]) rfl h (by simp) hcheck hhome
    (by rw [hserve]; exact cmdMonitorSelect_chrOnly _ _ _)
  rw [hserve] at hnext
  exact hnext

end

/-- Settles O39: each event works out what it says, and the monitored channel with it where the statement asks so. -/
theorem idlingAndMonitorFollowTheirEvents : Obligations.IdlingAndMonitorFollowTheirEvents := by
  refine ⟨fun s => ⟨fun h => ?_, fun h => ?_, fun f h => ?_⟩, fun p code channel s h hr => ?_⟩
  case refine_1 =>
    obtain ⟨t, ht, honly, hends⟩ := chrDelivery_ends h (suspendIdling_chrOnly _)
    exact ⟨t, _, congrArg _ ht, honly, hends, rfl, fun c => tab_fin _ c⟩
  case refine_2 =>
    obtain ⟨t, ht, honly, hends, hfollows⟩ := chrDelivery_follows h (resumeIdling_chrOnly _) rfl
    refine ⟨t, _, congrArg _ ht, honly, hends, rfl, hfollows, fun c => (tab_fin _ c).trans ?_⟩
    simp only [beq_iff_eq]
    rfl
  case refine_3 =>
    obtain ⟨t, ht, honly, hends, hfollows⟩ := chrDelivery_follows h (remonitor_chrOnly _) rfl
    exact ⟨t, _, congrArg _ ht, honly, hends, rfl, hfollows⟩
  case refine_4 =>
    obtain ⟨t, ht, hserved, hanswers, hends, hfollows⟩ := monitorSelect_next (code := code) (channel := channel) h hr
    refine ⟨t, _, ht, hserved, hends, fun hout => ?_, fun m hm => ?_⟩
    · rw [cmdMonitorSelect_none (selectionOf_none hout)] at hanswers ⊢
      exact ⟨hanswers, relinked_asked h.2.1⟩
    · rw [cmdMonitorSelect_some (selectionOf_some hm)] at hanswers hfollows ⊢
      refine ⟨hanswers, hfollows rfl, ?_⟩
      have hasked := asked_eq (p := p) h.2.1
      generalize asked p s = v at hasked
      rw [hasked]
      rfl

end Sys2Proof.Machine
end

section
/-! PROOF. The warm-up, the idle timer and the removal of an underrun (R119 to R121, R130). -/

namespace Sys2Proof.Machine

section
variable {c : ChannelId} {s : State}

theorem warmUpEnds_of_grant (h : s.chr.channels[c].grant ≠ none) :
    warmUpEnds c s = tryBegin c (s.mapChannel c fun r => { r with state := .playing, warmUp := none }) :=
  if_pos (Option.isSome_iff_ne_none.2 h)

theorem warmUpEnds_of_unused (h : s.chr.channels[c].grant = none) :
    warmUpEnds c s = arbitrationPass (s.mapChannel c fun r =>
      { r with
        state := .ready, warmUp := none
        idle := if s.chr.idlingSuspended then none else some (s.now + s.cfg.tIdle * 1000) }) :=
  if_neg (by rw [h]; decide)

end

/-- Settles O40: each expiry is one event of CHR, whose change is a record of its channel and, after a warm-up, a beginning or an
arbitration pass. -/
theorem channelTimersMoveTheChannel : Obligations.ChannelTimersMoveTheChannel := by
  intro c s
  refine ⟨fun hdue => ?_, fun hdue => ?_, fun htakes => ?_⟩
  · refine ⟨_, warmUpEnds c s, congrArg Host.Outcome.next (if_pos hdue), chrEvent_onlyChannels (warmUpEnds_chrOnly s c),
      chrEvent_ends (warmUpEnds_chrOnly s c), fun hg => ?_, fun hg => ?_⟩
    · rw [warmUpEnds_of_grant hg]
      exact tryBegin_begins c _
    · rw [warmUpEnds_of_unused hg]
      exact arbitrationPass_arbitrated
  · exact ⟨_, congrArg Host.Outcome.next (if_pos hdue), chrEvent_onlyChannels (mapChannel_chrOnly s c _),
      chrEvent_ends (mapChannel_chrOnly s c _)⟩
  · obtain ⟨t, ht, honly, hends⟩ := chrDelivery_ends (f := fun u => u.mapChannel c fun r => { r with underrun := false })
      htakes (mapChannel_chrOnly _ c _)
    exact ⟨t, congrArg _ ht, honly, hends⟩

end Sys2Proof.Machine
end

section
/-! PROOF. The memory read port: the end of a read, and the read-ahead order of a channel (R120, R128, R129, R131). -/

namespace Sys2Proof.Machine

section
variable {s t : State} {k next : Chain} {n i m : Nat} {c : ChannelId} {r : FlashRead}

/-! ## The end of a read (R129, R131) -/

theorem dueOf_other {α : Type} {xs : List α} {isDue : α → Bool} {f : α → Instr} {e : Instr} (h : ∀ x, f x ≠ e) :
    e ∉ dueOf xs isDue f := by
  rw [dueOf, List.mem_map]
  rintro ⟨x, -, hx⟩
  exact h x hx

/-- One event among those that have fallen due. -/
theorem mem_dueIf {e f : Instr} {b : Bool} : e ∈ (if b = true then [f] else []) ↔ b = true ∧ e = f := by
  cases b <;> simp

theorem memoryReadFailed_due : .memoryReadFailed ∈ dueEvents s ↔ s.readOverdue = true := by
  unfold dueEvents
  simp only [List.mem_append, mem_dueIf, dueOf_other, ne_eq, reduceCtorEq, not_false_eq_true, implies_true,
    and_false, or_false, false_or, and_true]

theorem readOverdue_iff : s.readOverdue = true ↔ ∃ r, s.chr.reading = some r ∧ r.started + 8 ≤ s.now := by
  rw [State.readOverdue, Option.any_eq_true]
  exact exists_congr fun r => and_congr_right fun _ => decide_eq_true_iff

/-- A beginning delivers nothing. -/
theorem beginsIfReady_deliveries (h : beginsIfReady c s t) : t.deliveries = s.deliveries := by
  by_cases hmay : ∃ g : Grant, s.chr.channels[c].grant = some g ∧ s.chr.channels[c].state = .playing
      ∧ s.chr.channels[c].begun = false
      ∧ (startCue g.prog.demand ≠ none → ∃ x rest, s.chr.channels[c].slots = x :: rest ∧ x.status ≠ .filling)
  · obtain ⟨g, hg⟩ := hmay
    rw [(h.1 g hg).1]
  · rw [h.2 fun g hg => hmay ⟨g, hg⟩]

theorem readEnds_discarded (h : r.discarded = true) (st : SlotStatus) :
    readEnds r st s = { s with chr := { s.chr with reading := none } } := if_pos h

theorem readEnds_begins (h : r.discarded = false) (st : SlotStatus) : beginsIfReady r.channel
    { s with chr := { s.chr with
      reading := none
      channels := s.chr.channels.set r.channel.val
        { s.chr.channels[r.channel] with slots := settleSlots st s.chr.channels[r.channel].slots } r.channel.isLt } }
    (readEnds r st s) := by
  unfold readEnds
  rw [if_neg (by rw [h]; decide)]
  exact tryBegin_begins r.channel _

theorem readEnds_deliveries (r : FlashRead) (st : SlotStatus) (s : State) : (readEnds r st s).deliveries = s.deliveries := by
  cases h : r.discarded with
  | true => rw [readEnds_discarded h]
  | false =>
    exact (beginsIfReady_deliveries (readEnds_begins h st)).trans rfl

/-- The status that the end of a read gives its slot, by whether the block came in time. -/
def readStatus (ok : Bool) : SlotStatus := if ok then .complete else .faulted

/-- The end of a read, by whether the block came in time. -/
def readEnded (r : FlashRead) (ok : Bool) (s : State) : State :=
  if ok then readEnds r .complete s else readFails r s

theorem readEnded_eq (r : FlashRead) (ok : Bool) (s : State) : readEnded r ok s = { readEnds r (readStatus ok) s with
    deliveries := s.deliveries ++ (if r.discarded = false ∧ ¬ ok = true then
      [.troubleRaise .memoryReadFault r.channel.val, .troubleClear .memoryReadFault r.channel.val] else []) } := by
  have hdeliveries := readEnds_deliveries r (readStatus ok) s
  unfold readEnded readFails
  cases ok with
  | true => simp [readStatus, ← hdeliveries]
  | false =>
    cases hdisc : r.discarded with
    | true => simp [readStatus, ← hdeliveries]
    | false => simp [readStatus, ← hdeliveries, State.raiseMomentary, State.deliver]

theorem readEnded_chrOnly (r : FlashRead) (ok : Bool) (s : State) : chrOnly s (readEnded r ok s) := by
  unfold readEnded
  split
  · exact readEnds_chrOnly s r _
  · exact readFails_chrOnly s r

/-- The command that ends a read is an event of CHR. -/
theorem exec_read (h : s.chr.reading = some r) (complete : Bool) :
    exec (if complete then .memoryReadComplete else .memoryReadFailed) s
      = .next (chrEvent (readEnded r (complete && decide (s.now ≤ r.started + 8))) s) := by
  cases complete with
  | true =>
    show Host.Outcome.next (match s.chr.reading with | none => s | some r => chrEvent (readDelivered r) s) = _
    rw [h]
    unfold readDelivered readEnded
    rfl
  | false =>
    show Host.Outcome.next (match s.chr.reading with | none => s | some r => chrEvent (readFails r) s) = _
    rw [h]
    rfl

/-! ## The read-ahead order (R128) -/

theorem candidates_eq (s : State) (q : Nat) : s.candidates q = match (s.cueAt q).nextTrue, (s.cueAt q).nextFalse with
    | none, none => []
    | some a, none => [a]
    | none, some b => [b]
    | some a, some b => if a = b then [a] else [a, b] := by
  unfold State.candidates
  cases (s.cueAt q).nextTrue with
  | none => cases (s.cueAt q).nextFalse <;> rfl
  | some a =>
    cases (s.cueAt q).nextFalse with
    | none => rfl
    | some b =>
      by_cases hab : a = b
      · subst hab
        simp [List.eraseDups_cons]
      · simp [List.eraseDups_cons, hab, Ne.symm hab]

theorem readOrder_unbegun {g : Grant} (hg : s.chr.channels[c].grant = some g) (hm : startCue g.prog.demand = some m)
    (hb : s.chr.channels[c].begun = false) :
    s.readOrder c n = (s.cueAt m).start :: s.upcoming n (startOf s m s.now) := by
  rw [State.readOrder, hg]
  dsimp only [Option.bind_some]
  rw [hm, hb]
  rw [← atCue_eq]
  rfl

theorem readOrder_begun {g : Grant} (hg : s.chr.channels[c].grant = some g) (hm : startCue g.prog.demand = some m)
    (hb : s.chr.channels[c].begun = true) (hk : s.cue.chains[c] = some k) : s.readOrder c n =
      match s.chr.channels[c].headInPlay, k.pos with
        | true, .segment i => ((s.cueAt k.cue).start + i) :: s.upcoming n k
        | _, _ => s.upcoming n k := by
  rw [State.readOrder, hg]
  dsimp only [Option.bind_some]
  rw [hm, hb, hk]
  dsimp only
  cases s.chr.channels[c].headInPlay with
  | false => rfl
  | true =>
    rw [State.blockAt]
    cases k.pos <;> rfl

end

/-- Settles O43: a read that ends settles its slot and lets a waiting programme begin, and the read-ahead order follows the
moves of the chain. -/
theorem readPortReadsAhead : Obligations.ReadPortReadsAhead := by
  refine ⟨fun s => ⟨memoryReadFailed_due.trans readOverdue_iff, fun r complete hr => ?_⟩, fun s n k next =>
    ⟨fun j h hj => upcoming_gap h hj n, fun i h hi => upcoming_segment h hi n, fun h hc hn => upcoming_last h hc hn n,
      fun m h hc hn => upcoming_link h hc hn n, fun h hc => ?_, fun c g m hg hm =>
        ⟨fun hb => readOrder_unbegun hg hm hb, fun hb hk => readOrder_begun hg hm hb hk⟩⟩⟩
  case refine_1 =>
    obtain ⟨ok, hok⟩ : ∃ ok, ok = (complete && decide (s.now ≤ r.started + 8)) := ⟨_, rfl⟩
    have hiff : (complete = true ∧ s.now ≤ r.started + 8) ↔ ok = true := by
      rw [hok, Bool.and_eq_true, decide_eq_true_iff]
    refine ⟨_, _, readEnds r (readStatus ok) s, hok ▸ exec_read hr complete, chrEvent_onlyChannels (readEnded_chrOnly r _ s),
      fun hd => readEnds_discarded hd _, fun hd => ?_, ?_, chrEvent_ends (readEnded_chrOnly r _ s)⟩
    · simp only [hiff]
      have hbegins := readEnds_begins (s := s) hd (readStatus ok)
      unfold settleSlots at hbegins
      simp only [beq_iff_eq] at hbegins
      exact hbegins
    · simp only [hiff]
      exact readEnded_eq r ok s
  case refine_2 =>
    rw [upcoming_candidates h hc, if_neg (Nat.succ_ne_zero n), candidates_eq]
    cases (s.cueAt k.cue).nextTrue with
    | none => cases (s.cueAt k.cue).nextFalse <;> rfl
    | some a =>
      cases (s.cueAt k.cue).nextFalse with
      | none => rfl
      | some b => exact apply_ite (List.map fun q => (s.cueAt q).start) (a = b) [a] [a, b]

end Sys2Proof.Machine
end

section
/-! SUPPORT. The end of a live source (R133), and that the Channel Router reads neither the ports nor the Configuration Store. -/

namespace Sys2Proof.Machine

section
variable {s : State} {c : ChannelId} {l : Links} {x : Cfs}

/-! ## The ports and the Configuration Store -/

theorem beginProgramme_relinked (d : Demand) : beginProgramme c d (relinked l x s) = relinked l x (beginProgramme c d s) := by
  cases d <;> rfl

theorem tryBegin_relinked : tryBegin c (relinked l x s) = relinked l x (tryBegin c s) := by
  unfold tryBegin
  simp only [beginProgramme_relinked]
  rw [show (relinked l x s).chr = s.chr from rfl]
  cases s.chr.channels[c].grant with
  | none => rfl
  | some g =>
    dsimp only
    rw [apply_ite (relinked l x)]
    generalize startCue g.prog.demand = cue
    cases cue with
    | none => rfl
    | some n =>
      dsimp only
      rw [apply_ite (relinked l x)]

theorem grantChannel_relinked (p : Programme) : grantChannel c p (relinked l x s) = relinked l x (grantChannel c p s) := by
  unfold grantChannel
  rw [← tryBegin_relinked]
  rfl

theorem preempt_relinked (old p : Programme) : preempt c old p (relinked l x s) = relinked l x (preempt c old p s) := by
  have hgoes : ∀ u, victimGoes old (relinked l x u) = relinked l x (victimGoes old u) := fun u => by
    unfold victimGoes
    cases old.demand <;> rfl
  unfold preempt
  rw [← grantChannel_relinked, ← hgoes]
  rfl

theorem arbitrate_relinked (n : Nat) : arbitrate n (relinked l x s) = relinked l x (arbitrate n s) := by
  induction n generalizing s with
  | zero => rfl
  | succ n ih =>
    unfold arbitrate
    rw [show (relinked l x s).headWaiting = s.headWaiting from rfl, show (relinked l x s).freeChoice = s.freeChoice from rfl,
      show (relinked l x s).victim = s.victim from rfl]
    cases s.headWaiting with
    | none => rfl
    | some p =>
      cases s.freeChoice with
      | some c =>
        dsimp only
        rw [grantChannel_relinked, ih]
      | none =>
        cases s.victim with
        | none => rfl
        | some v =>
          dsimp only
          rw [preempt_relinked, ih, apply_ite (relinked l x)]

theorem programmeEnded_relinked (d : Demand) : programmeEnded d (relinked l x s) = relinked l x (programmeEnded d s) := by
  unfold programmeEnded
  rw [show (relinked l x s).holder d = s.holder d from rfl]
  cases s.holder d with
  | none => rfl
  | some c => cases d <;> rfl

/-! ## The end of a live source (R121, R122, R133) -/

/-- The state of a source's end before its programme leaves: the source is IDLE, and its slots are cleared. -/
def sourceStops (src : LiveSourceId) (s : State) : State :=
  (s.setSource src ⟨false, [], 0, 0, 0⟩).deliver (stopWrites s src)

theorem stopSource_eq (src : LiveSourceId) (s : State) :
    stopSource src s = arbitrationPass (programmeEnded (.live src) (sourceStops src s)) := rfl

theorem stopSource_relinked (src : LiveSourceId) : stopSource src (relinked l x s) = relinked l x (stopSource src s) := by
  have hstops : sourceStops src (relinked l x s) = relinked l x (sourceStops src s) := by cases src <;> rfl
  rw [stopSource_eq, stopSource_eq, hstops, programmeEnded_relinked]
  exact arbitrate_relinked 32

/-- The state of a source's end before its programme leaves its channel and the pass, with `way` on its way before. -/
def sourceOff (src : LiveSourceId) (way : List Instr) (s : State) : State :=
  let off := s.setSource src ⟨false, [], 0, 0, 0⟩
  { off with
    deliveries := way ++ (s.source src).claimed.map (fun z => .liveSlotWrite z (.erase src))
      ++ (if src = .liveC ∧ s.chr.liveP.live = true then
           (s.chr.liveC.claimed.filter fun z => s.chr.liveP.claimed.contains z).map fun z => .liveSlotWrite z (.put .liveP)
         else [])
    chr := { off.chr with waiting := s.chr.waiting.filter fun q => decide (q.demand ≠ .live src) } }

theorem sourceStops_waiting (src : LiveSourceId) (way : List Instr) (s : State) :
    (let u := sourceStops src { s with deliveries := way }
     ({ u with chr := { u.chr with waiting := u.chr.waiting.filter fun q => decide (q.demand ≠ .live src) } } : State))
      = sourceOff src way s := by
  cases src with
  | liveC =>
    cases hl : s.chr.liveP.live with
    | true => simp [sourceStops, sourceOff, stopWrites, State.setSource, State.deliver, State.source, hl]
    | false => simp [sourceStops, sourceOff, stopWrites, State.setSource, State.deliver, State.source, hl]
  | liveP => simp [sourceStops, sourceOff, stopWrites, State.setSource, State.deliver, State.source]

/-- A live source ends: its programme no longer waits, or leaves its channel, and a pass follows. -/
theorem stopSource_ends (src : LiveSourceId) (way : List Instr) (s : State) :
    ∃ x, arbitrated x (stopSource src { s with deliveries := way }) ∧ (s.holder (.live src) = none → x = sourceOff src way s)
      ∧ ∀ c, s.holder (.live src) = some c → channelReleased c (sourceOff src way s) x := by
  have hholder : (sourceStops src { s with deliveries := way }).holder (.live src) = s.holder (.live src) := by
    cases src <;> rfl
  obtain ⟨hnone, hsome⟩ := programmeEnded_ends (.live src) (sourceStops src { s with deliveries := way })
  rw [hholder, sourceStops_waiting] at hnone
  rw [hholder, sourceStops_waiting] at hsome
  refine ⟨programmeEnded (.live src) (sourceStops src { s with deliveries := way }), arbitrationPass_arbitrated, hnone,
    fun c hc => ?_⟩
  obtain ⟨y, hy, -, hend⟩ := hsome c hc
  rw [hend nofun]
  exact hy

end

end Sys2Proof.Machine
end

section
/-! PROOF. Live sources: their blocks, their boundaries, LIVE START, LIVE STOP and the loss of a port (R121, R122,
R132 to R134). -/

namespace Sys2Proof.Machine

section
variable {s t : State} {c : ChannelId} {p : PortId} {src : LiveSourceId}

/-! ## Blocks (R134) -/

theorem liveBlockComplete_due : .liveBlockComplete src ∈ dueEvents s ↔ s.liveBlockDue src = true := by
  unfold dueEvents
  simp only [List.mem_append, mem_dueIf, dueOf_other, ne_eq, reduceCtorEq, not_false_eq_true, implies_true,
    and_false, or_false, false_or]
  rw [dueOf, List.mem_map]
  cases src <;> simp

theorem liveBlockDue_iff : s.liveBlockDue src = true ↔ (s.source src).live = true ∧ (s.source src).nextBlock ≤ s.now := by
  rw [State.liveBlockDue, Bool.and_eq_true, decide_eq_true_iff]

/-- What setting the record of a live source leaves. -/
theorem setSource_sets (src : LiveSourceId) (r : LiveRec) (s : State) :
    s.setSource src r = { s with chr := (s.setSource src r).chr }
    ∧ (s.setSource src r).source src = r
    ∧ (s.setSource src r).chr = { s.chr with liveC := (s.setSource src r).chr.liveC, liveP := (s.setSource src r).chr.liveP }
    ∧ ∀ other, other ≠ src → (s.setSource src r).source other = s.source other := by
  cases src with
  | liveC =>
    refine ⟨rfl, rfl, rfl, fun other h => ?_⟩
    cases other with
    | liveC => exact absurd rfl h
    | liveP => rfl
  | liveP =>
    refine ⟨rfl, rfl, rfl, fun other h => ?_⟩
    cases other with
    | liveC => rfl
    | liveP => exact absurd rfl h

theorem liveBlockComplete_next (hl : (s.source src).live = true) (hn : (s.source src).nextBlock ≤ s.now) :
    exec (.liveBlockComplete src) s = .next (liveBlockTaken src s) :=
  congrArg Host.Outcome.next (if_pos (liveBlockDue_iff.2 ⟨hl, hn⟩))

/-! ## Boundaries (R134) -/

/-- The record `q` of a channel when its live programme plays what its source has next. -/
def livePlaying (src : LiveSourceId) (s : State) (q : ChannelRec) : ChannelRec :=
  { q with
    livePlayed := (livePlay src (s.ring src) q.livePlayed).2
    audio := (livePlay src (s.ring src) q.livePlayed).1 }

theorem liveBoundary_withChannel {q : ChannelRec} {f : Option FlashRead} :
    liveBoundary c src (withChannel c q f s) = withChannel c (joinedRecord (livePlaying src s q)) f s := by
  have hring : (withChannel c q f s).ring src = s.ring src := by cases src <;> rfl
  unfold liveBoundary
  dsimp only
  rw [withChannel_record, hring, mapChannel_withChannel, joinZones_withChannel]
  rfl

/-- A boundary of a channel with a live programme, in one update. -/
theorem boundaryAt_live {g : Grant} {b : Nat} (hb : s.chr.channels[c].boundary = some b)
    (hg : s.chr.channels[c].grant = some g) (hd : g.prog.demand = .live src) : boundaryAt c s =
      withChannel c (joinedRecord (livePlaying src s (boundaryMoved b s.chr.channels[c]))) s.chr.reading s := by
  unfold boundaryAt
  rw [hg, mapChannel_eq_withChannel, hb]
  dsimp only
  rw [hd]
  exact liveBoundary_withChannel

/-! ## Requests of a live source (R132, R133) -/

/-- The live source of a port's role (R132). -/
theorem sourceOfRole_eq (h : (s.role p = .commandStation ∧ src = .liveC) ∨ (s.role p = .pagingConsole ∧ src = .liveP)) :
    sourceOfRole (s.role p) = some src := by
  rcases h with ⟨h, rfl⟩ | ⟨h, rfl⟩ <;> rw [h] <;> rfl

theorem requestCheck_announce {body : List Byte} (h : s.configFault = false) (hr : sourceOfRole (s.role p) = some src)
    (hf : announceForm body = true) : s.requestCheck p 6 body = none := by
  have hrole : kindRole 6 (s.role p) = true := by
    cases hp : s.role p with
    | commandStation | pagingConsole => rfl
    | firePanel | liftGroup | unused =>
      rw [hp] at hr
      cases hr
  unfold State.requestCheck
  rw [h, show (6 : Byte).toNat = 6 from rfl, hrole]
  show (if !announceForm body then some Reason.range else none) = none
  rw [hf]
  rfl

/-- An ANNOUNCE that CHR decides for a live source by `f`, which reads neither the ports nor the Configuration Store. -/
theorem live_request_next {i : Instr} {sub : Byte} {args : List Byte} {f : State → State × Reason}
    (hi : frameOf i = some (p, 6, sub :: args)) (h : canAsk p .chr s) (hr : sourceOfRole (s.role p) = some src)
    (hform : announceForm (sub :: args) = true) (hlen : args.length ≤ 55) (hhome : announceHome p sub = .chr)
    (hserve : ∀ u : State, u.role p = s.role p → serveAnnounce p sub args u = ((f u).1, (f u).2, 0))
    (hf : ∀ l x u, f (relinked l x u) = (relinked l x (f u).1, (f u).2)) (honly : ∀ u, chrOnly u (f u).1) :
    ∃ t, exec i s = .next t ∧ chrServed p s t
      ∧ answers p (announceAnswer sub (f { s with deliveries := withFrame p s }).2 0) s t
      ∧ chrEnds s (f { s with deliveries := withFrame p s }).1 t := by
  have hcheck := requestCheck_announce h.2.1 hr hform
  have hchr : serveHome p 6 (sub :: args) s = .chr := by
    rw [serveHome, hcheck]
    exact hhome
  have hrole : (asked p s).role p = s.role p := by rw [State.role, asked_cfg h.2.1, State.role]
  have hkind : serveKind p 6 (sub :: args) (asked p s) =
      ((f (asked p s)).1, announceAnswer sub (f (asked p s)).2 0) := by
    show ((serveAnnounce p sub args (asked p s)).1, announceAnswer sub (serveAnnounce p sub args (asked p s)).2.1
      (serveAnnounce p sub args (asked p s)).2.2) = _
    rw [hserve _ hrole]
  obtain ⟨t, ht, hserved, hanswers, hends, -⟩ := chr_request_next hi h (Nat.succ_le_succ hlen) hcheck hchr
    (by rw [hkind]; exact honly _)
  rw [hkind] at hanswers hends
  rw [← relinked_asked h.2.1, hf]
  exact ⟨t, ht, hserved, hanswers, hends⟩

/-! ## LIVE START (R132) -/

/-- The configured zones of a mask (R132). -/
def maskClaimed (mask : List Byte) (s : State) : List SpeakerId :=
  (List.finRange 36).filter fun z => (mask.getD (z.val / 8) 0).getLsbD (z.val % 8) && s.speakerConfigured z

theorem maskZones_claimed (mask : List Byte) (s : State) :
    (maskZones mask).filter s.speakerConfigured = maskClaimed mask s := by
  rw [maskZones, List.filter_filter]
  exact List.filter_congr fun z _ => Bool.and_comm _ _

theorem cmdLiveStart_relinked (zs : List SpeakerId) (l : Links) (x : Cfs) (u : State) :
    cmdLiveStart src zs (relinked l x u) = (relinked l x (cmdLiveStart src zs u).1, (cmdLiveStart src zs u).2) := by
  unfold cmdLiveStart
  rw [show (relinked l x u).speakerConfigured = u.speakerConfigured from rfl,
    show (relinked l x u).source src = u.source src by cases src <;> rfl]
  dsimp only
  split
  · rfl
  · split
    · rfl
    · cases src <;> rfl

theorem cmdLiveStart_none {zs : List SpeakerId} (h : zs.filter s.speakerConfigured = []) :
    cmdLiveStart src zs s = (s, .range) := by
  unfold cmdLiveStart
  rw [h]
  rfl

theorem cmdLiveStart_live {zs : List SpeakerId} (h : zs.filter s.speakerConfigured ≠ []) (hl : (s.source src).live = true) :
    cmdLiveStart src zs s = (s, .state) := by
  unfold cmdLiveStart
  rw [hl]
  exact if_neg (by simpa using h)

theorem cmdLiveStart_starts {zs : List SpeakerId} (h : zs.filter s.speakerConfigured ≠ [])
    (hl : (s.source src).live = false) : cmdLiveStart src zs s =
      ((s.setSource src ⟨true, zs.filter s.speakerConfigured, s.now, 0, s.now + 64⟩).deliver
        ((zs.filter s.speakerConfigured).map fun z => .liveSlotWrite z (.put src)), .accepted) := by
  unfold cmdLiveStart
  rw [hl]
  exact if_neg (by simpa using h)

/-- LIVE START as one event of CHR (R132, R161). -/
theorem liveStart_next {mask : List Byte} (h : canAsk p .chr s) (hm : mask.length = 5)
    (hr : sourceOfRole (s.role p) = some src) :
    ∃ t, exec (.liveStart p mask) s = .next t ∧ chrServed p s t
      ∧ answers p (announceAnswer 3 (cmdLiveStart src (maskZones mask) { s with deliveries := withFrame p s }).2 0) s t
      ∧ chrEnds s (cmdLiveStart src (maskZones mask) { s with deliveries := withFrame p s }).1 t := by
  refine live_request_next (sub := 3) (args := mask) (f := cmdLiveStart src (maskZones mask)) rfl h hr ?_ (by omega) rfl
    (fun u hu => ?_) (cmdLiveStart_relinked _) fun u => cmdLiveStart_chrOnly u src _
  · show (mask.length == 5) = true
    rw [hm]
    rfl
  · show (match sourceOfRole (u.role p) with | some src => _ | none => _) = _
    rw [hu, hr]

/-! ## LIVE STOP and the loss of a port (R133) -/

theorem cmdLiveStop_relinked (l : Links) (x : Cfs) (u : State) :
    cmdLiveStop src (relinked l x u) = (relinked l x (cmdLiveStop src u).1, (cmdLiveStop src u).2) := by
  unfold cmdLiveStop
  rw [show (relinked l x u).source src = u.source src by cases src <;> rfl, stopSource_relinked]
  split <;> rfl

/-- LIVE STOP as one event of CHR (R133, R161). -/
theorem liveStop_next (h : canAsk p .chr s) (hr : sourceOfRole (s.role p) = some src) :
    ∃ t, exec (.liveStop p []) s = .next t ∧ chrServed p s t
      ∧ answers p (announceAnswer 4 (cmdLiveStop src { s with deliveries := withFrame p s }).2 0) s t
      ∧ chrEnds s (cmdLiveStop src { s with deliveries := withFrame p s }).1 t := by
  refine live_request_next (sub := 4) (args := []) (f := cmdLiveStop src) rfl h hr rfl (by simp) rfl
    (fun u hu => ?_) cmdLiveStop_relinked fun u => cmdLiveStop_chrOnly u src
  show (match sourceOfRole (u.role p) with | some src => _ | none => _) = _
  rw [hu, hr]

theorem cmdLiveStop_idle (h : (s.source src).live = false) : cmdLiveStop src s = (s, .state) := by
  unfold cmdLiveStop
  rw [h]
  rfl

theorem cmdLiveStop_live (h : (s.source src).live = true) : cmdLiveStop src s = (stopSource src s, .accepted) := by
  unfold cmdLiveStop
  rw [h]
  rfl

theorem portLostAtChr_eq (hr : sourceOfRole (s.role p) = some src) :
    portLostAtChr p s = if (s.source src).live = true then stopSource src s else s := by
  rw [portLostAtChr, hr]

end

/-- Settles O44: a block, a boundary and a request of a live source are each one event of CHR, whose change is one record or, at
the source's end, what `stopSource_ends` says. -/
theorem liveSourcesStartPlayAndEnd : Obligations.LiveSourcesStartPlayAndEnd := by
  refine ⟨fun src s => ⟨liveBlockComplete_due.trans liveBlockDue_iff, fun hl hn => ?_, fun c g b hb hn hg hd => ?_⟩,
    fun p src mask s h hm hr => ?_, fun p src s hr => ⟨fun h => ?_, fun h => ?_⟩⟩
  case refine_1 =>
    obtain ⟨hframe, hset, hchr, hother⟩ := setSource_sets src
      { s.source src with blocks := (s.source src).blocks + 1, nextBlock := (s.source src).nextBlock + blockTime } s
    exact ⟨_, liveBlockComplete_next hl hn, hframe, hset, hchr, hother⟩
  case refine_2 =>
    obtain ⟨t, ht, honly, hends⟩ := blockBoundary_ends hb hn
    refine ⟨t, boundaryAt c s, ht, honly, hends, ?_⟩
    have hrecord : (boundaryAt c s).chr.channels[c] =
        joinedRecord (livePlaying src s (boundaryMoved b s.chr.channels[c])) := by
      rw [boundaryAt_live hb hg hd, withChannel_record]
    rw [hrecord]
    exact ⟨boundaryAt_live hb hg hd, rfl, joinedRecord_sorted _, fun z => mem_joinedRecord, livePlay_plays _ _ _ rfl rfl⟩
  case refine_3 =>
    obtain ⟨t, ht, hserved, hanswers, hends⟩ := liveStart_next h hm (sourceOfRole_eq hr)
    have hzones := maskZones_claimed mask { s with deliveries := withFrame p s }
    refine ⟨t, _, ht, hserved, hends, fun hnone => ?_, fun hsome hl => ?_, fun hsome hl => ?_⟩
    · rw [cmdLiveStart_none (hzones.trans hnone)] at hanswers ⊢
      exact ⟨hanswers, rfl⟩
    · rw [cmdLiveStart_live (hzones.trans_ne hsome) hl] at hanswers ⊢
      exact ⟨hanswers, rfl⟩
    · rw [cmdLiveStart_starts (hzones.trans_ne hsome) hl, hzones] at hanswers ⊢
      refine ⟨hanswers, ?_⟩
      cases src <;> rfl
  case refine_4 =>
    obtain ⟨t, ht, hserved, hanswers, hends⟩ := liveStop_next h (sourceOfRole_eq hr)
    refine ⟨t, _, ht, hserved, hends, fun hl => ?_, fun hl => ?_⟩
    · rw [cmdLiveStop_idle (s := { s with deliveries := withFrame p s }) hl] at hanswers ⊢
      exact ⟨hanswers, rfl⟩
    · rw [cmdLiveStop_live (s := { s with deliveries := withFrame p s }) hl] at hanswers ⊢
      exact ⟨hanswers, stopSource_ends src _ s⟩
  case refine_5 =>
    obtain ⟨t, ht, honly, hends⟩ := chrDelivery_ends h (portLostAtChr_chrOnly _ p)
    have hlost := portLostAtChr_eq (s := s.taken (.chrPortLoss p)) (sourceOfRole_eq hr)
    refine ⟨t, _, congrArg _ ht, honly, hends, fun hl => hlost.trans (if_neg ?_), fun hl => ?_⟩
    · exact ne_true_of_eq_false hl
    · rw [hlost.trans (if_pos hl)]
      exact stopSource_ends src _ s

end Sys2Proof.Machine
end

section
/-! SUPPORT. The Tenant Queue: the slots as it finds them (log entry 17), what an admission scan starts (R140, R141), and what an
event of the Tenant Queue leaves. -/

namespace Sys2Proof.Machine

section
variable {s t u v : State} {z : SpeakerId} {e : TenantEntry} {es : List TenantEntry} {i : Instr} {p : PortId}
  {f : State → State}

/-! ## Slots as TNQ finds them (R140) -/

/-- A delivery that is no slot write of TNQ. -/
def writesNoSlot (i : Instr) : Prop := ∀ z free, freeAfter z free i = free

/-- TNQ finds the tenant slots on the way `after` as on the way `before`, but for the zones that it has cleared. -/
def slotsAfter (cleared : List SpeakerId) (before after : List Instr) : Prop :=
  ∀ z free, after.foldl (freeAfter z) free = (cleared.contains z || before.foldl (freeAfter z) free)

theorem foldl_freeAfter_kept {ds : List Instr} (h : ∀ i ∈ ds, writesNoSlot i) (free : Bool) :
    ds.foldl (freeAfter z) free = free := by
  induction ds with
  | nil => rfl
  | cons i ds ih =>
    rw [List.foldl_cons, h i List.mem_cons_self, ih fun j hj => h j (List.mem_cons_of_mem i hj)]

theorem foldl_freeAfter_erase (h : writesNoSlot i) (ds : List Instr) (free : Bool) :
    (ds.erase i).foldl (freeAfter z) free = ds.foldl (freeAfter z) free := by
  induction ds generalizing free with
  | nil => rfl
  | cons j ds ih =>
    by_cases hj : j = i
    · rw [hj, List.erase_cons_head, List.foldl_cons, h]
    · rw [List.erase_cons_tail (by simpa using hj), List.foldl_cons, List.foldl_cons, ih]

theorem foldl_freeAfter_clearing (free : Bool) :
    (clearing e).foldl (freeAfter z) free = (e.zones.contains z || free) := by
  unfold clearing
  induction e.zones generalizing free with
  | nil => rfl
  | cons y zs ih =>
    rw [List.map_cons, List.foldl_cons, ih, List.contains_cons]
    show (zs.contains z || (free || y == z)) = _
    rw [Bool.beq_comm (a := y), Bool.or_comm free, ← Bool.or_assoc, Bool.or_comm (zs.contains z)]

theorem foldl_freeAfter_puts (free : Bool) :
    (e.zones.map fun y => Instr.tenantSlotWrite y (.put e.ticket e.cue)).foldl (freeAfter z) free
      = (free && !e.zones.contains z) := by
  induction e.zones generalizing free with
  | nil => exact (Bool.and_true free).symm
  | cons y zs ih =>
    rw [List.map_cons, List.foldl_cons, ih, List.contains_cons, Bool.not_or, ← Bool.and_assoc]
    show ((free && y != z) && _) = ((free && !(z == y)) && _)
    rw [bne, Bool.beq_comm]

/-- What a frame delivers about its port's presence writes no slot of TNQ (R149, R152, R154). -/
theorem frameDeliveries_noSlot : ∀ i ∈ frameDeliveries p s, writesNoSlot i := by
  have htold : ∀ q : Presence, ∀ i ∈ (if s.role p = .liftGroup then [Instr.lfcPresenceChange p q] else []),
      writesNoSlot i := by
    intro q i hi
    split at hi
    · cases List.mem_singleton.1 hi
      exact fun _ _ => rfl
    · cases hi
  intro i hi
  unfold frameDeliveries at hi
  dsimp only at hi
  split at hi
  · exact htold _ i hi
  · exact htold _ i hi
  · split at hi
    · rcases List.mem_cons.1 hi with rfl | hi
      · exact fun _ _ => rfl
      · exact htold _ i hi
    · cases hi
  · cases hi

theorem slotsAfter_withFrame : slotsAfter [] s.deliveries (withFrame p s) := fun z free => by
  rw [withFrame, List.foldl_append, foldl_freeAfter_kept frameDeliveries_noSlot]
  rfl

theorem slotsAfter_without (h : writesNoSlot i) : slotsAfter [] s.deliveries (without s i) := fun z free => by
  rw [without, foldl_freeAfter_erase h]
  rfl

theorem slotsAfter.clearing {before after : List Instr} (h : slotsAfter [] before after) (e : TenantEntry) :
    slotsAfter e.zones before (after ++ Machine.clearing e) := fun z free => by
  rw [List.foldl_append, foldl_freeAfter_clearing, h]
  rfl

/-- Everything that TNQ reads outside its own lists and the deliveries is as in `s`. -/
def tenantFrame (s u : State) : Prop :=
  u = { s with tnq := u.tnq, links := u.links, cfs := u.cfs, deliveries := u.deliveries }

theorem tnqOnly.tenantFrame (h : tnqOnly s u) : tenantFrame s u := by
  rw [tnqOnly] at h
  rw [h]
  rfl

theorem tenantFrame.trans (h : tenantFrame s t) (k : tenantFrame t u) : tenantFrame s u := by
  unfold Machine.tenantFrame at *
  rw [k, h]

theorem tenantFrame_asked (h : s.configFault = false) : tenantFrame s (asked p s) := by
  have hasked := asked_eq (p := p) h
  unfold tenantFrame
  generalize asked p s = v at hasked
  rw [hasked]

theorem tenantFrame_taken : tenantFrame s (s.taken i) := rfl

/-- The zones that a scan finds free (R140). -/
theorem zoneFree_tenantFree {cleared : List SpeakerId} (h : tenantFrame s u) (hs : slotsAfter cleared s.deliveries u.deliveries)
    (z : SpeakerId) : u.zoneFree z = tenantFree s cleared z := by
  have hcue : u.cue = s.cue := by rw [h]
  unfold State.zoneFree State.tenantSlotFree tenantFree
  rw [hs, hcue]
  rfl

/-! ## What a scan starts (R140, R141) -/

/-- Entries are started one after another. -/
def startAll (es : List TenantEntry) (s : State) : State := es.foldl (fun u e => startEntry e u) s

theorem startAll_eq (es : List TenantEntry) (s : State) : startAll es s =
    { s with
      tnq := { s.tnq with
        queue := s.tnq.queue.filter fun x => !es.any fun e => e.ticket == x.ticket
        playing := s.tnq.playing ++ es.map fun e => { e with aging := none, started := some s.now } }
      deliveries := s.deliveries ++ es.flatMap fun e => e.zones.map fun z => .tenantSlotWrite z (.put e.ticket e.cue) } := by
  induction es generalizing s with
  | nil => simp [startAll]
  | cons e es ih =>
    show startAll es (startEntry e s) = _
    rw [ih]
    simp [startEntry, State.withTnq, State.deliver, List.filter_filter, Bool.and_comm, bne, Bool.beq_comm]

theorem zoneFree_startEntry : (startEntry e s).zoneFree z = (s.zoneFree z && !e.zones.contains z) := by
  unfold State.zoneFree State.tenantSlotFree
  show (_ && (s.deliveries ++ _).foldl (freeAfter z) _) = _
  rw [List.foldl_append, foldl_freeAfter_puts, ← Bool.and_assoc]
  rfl

theorem scanEntries_startAll (free : SpeakerId → Bool) (taken : List SpeakerId) (n : Nat)
    (h : ∀ z, s.zoneFree z = (free z && !taken.contains z)) :
    scanEntries es n s = startAll (admits free n taken es) s := by
  induction es generalizing s n taken with
  | nil => rfl
  | cons e es ih =>
    have hiff : (decide (0 < n) && e.zones.all s.zoneFree) = true ↔ 0 < n ∧ ∀ z ∈ e.zones, free z = true ∧ z ∉ taken := by
      simp [h]
    unfold scanEntries admits
    by_cases hstart : 0 < n ∧ ∀ z ∈ e.zones, free z = true ∧ z ∉ taken
    · rw [if_pos (hiff.2 hstart), if_pos hstart]
      refine ih (taken ++ e.zones) (n - 1) fun z => ?_
      rw [zoneFree_startEntry, h, Bool.and_assoc, List.contains_append, Bool.not_or]
    · rw [if_neg (mt hiff.1 hstart), if_neg hstart]
      exact ih taken n h

/-- An admission scan starts the entries that the free zones and the free channels allow (R140). -/
theorem admissionScan_startAll {free : SpeakerId → Bool} (h : ∀ z, s.zoneFree z = free z) : admissionScan s =
    startAll (if s.inAlarm = true then [] else admits free s.freeChannels [] s.tnq.queue) s := by
  unfold admissionScan
  split
  · rfl
  · exact scanEntries_startAll _ [] _ fun z => (h z).trans (Bool.and_true _).symm

/-- A scan leaves the counts and the next ticket. -/
theorem admissionScan_tnq (s : State) : (admissionScan s).tnq =
    { s.tnq with queue := (admissionScan s).tnq.queue, playing := (admissionScan s).tnq.playing } := by
  rw [admissionScan_startAll fun _ => rfl, startAll_eq]

/-! ## The end of a playing entry (R142) -/

/-- The entries with another ticket. -/
theorem filter_ticket (xs : List TenantEntry) (k : Nat) :
    xs.filter (fun x => x.ticket != k) = xs.filter fun x => decide (x.ticket ≠ k) :=
  List.filter_congr fun x _ => by rw [decide_not]; rfl

theorem endPlaying_eq (e : TenantEntry) (s : State) : endPlaying e s =
    { s with
      tnq := { s.tnq with playing := s.tnq.playing.filter fun x => decide (x.ticket ≠ e.ticket) }
      deliveries := s.deliveries ++ clearing e } := by
  rw [← filter_ticket]
  rfl

theorem ticket_of_find {xs : List TenantEntry} {k : Nat} (h : (xs.find? fun x => decide (x.ticket = k)) = some e) :
    e.ticket = k := by
  simpa using List.find?_some h

/-! ## Events of TNQ -/

/-- The own change of an event of TNQ left `v`, and its end leaves `t` (R46). -/
def tnqEnds (s v t : State) : Prop :=
  t.tnq = v.tnq ∧ ∀ way news, v.deliveries = way ++ news → leaves .tnq way news s t

/-- An event whose own change ends in an admission scan (R140, R141). -/
theorem tnqEnds.scanned {cleared : List SpeakerId} (h : tnqEnds s (admissionScan u) t) (hu : tenantFrame s u)
    (hs : slotsAfter cleared s.deliveries u.deliveries) :
    scanned cleared u.tnq.queue u.tnq.playing u.deliveries s t := by
  have halarm : u.inAlarm = s.inAlarm := by rw [hu]; rfl
  have hchannels : u.freeChannels = s.freeChannels := by rw [hu]; rfl
  have hnow : u.now = s.now := by rw [hu]
  obtain ⟨htnq, hleaves⟩ := h
  rw [admissionScan_startAll (zoneFree_tenantFree hu hs), startAll_eq, halarm, hchannels, hnow] at htnq hleaves
  unfold Machine.scanned
  rw [htnq]
  exact ⟨rfl, rfl, hleaves _ _ rfl⟩

/-- An event that ends a playing entry and makes an admission scan (R142, R143). -/
theorem tnqEnds.scanned_end (h : tnqEnds s (admissionScan (endPlaying e u)) t) (hu : tenantFrame s u)
    (hs : slotsAfter [] s.deliveries u.deliveries) :
    Machine.scanned e.zones u.tnq.queue (u.tnq.playing.filter fun x => decide (x.ticket ≠ e.ticket))
      (u.deliveries ++ clearing e) s t := by
  rw [endPlaying_eq] at h
  exact h.scanned (hu.trans rfl) (hs.clearing e)

theorem event_tnqEnds {x : State} (hx : readable x = readable s) (hc : (f x).rge = s.rge) :
    tnqEnds s (f x) (event .tnq f x) :=
  ⟨rfl, fun _ _ hd => leaves_event_other (by decide) hx hd (congrArg Rge.changeCounter hc)⟩

theorem event_tnqOnly (h : tnqOnly s (f s)) : tnqOnly s (event .tnq f s) := by
  rw [event_other (by decide)]
  exact h.trans (deliver_tnqOnly _ _)

/-- A command of TNQ's own clock. -/
theorem tnq_event_next (h : tnqOnly s (f s)) : tnqOnly s (event .tnq f s) ∧ tnqEnds s (f s) (event .tnq f s) :=
  ⟨event_tnqOnly h, event_tnqEnds rfl (by rw [h])⟩

/-- A delivery that TNQ takes is one event of TNQ. -/
theorem tnq_delivery_next (h : s.takes i = true) (hf : tnqOnly (s.taken i) (f (s.taken i))) :
    ∃ t, onDelivery i (event .tnq f) s = t ∧ tnqOnly s t ∧ tnqEnds s (f (s.taken i)) t := by
  rw [onDelivery_takes h]
  refine ⟨_, rfl, ?_, event_tnqEnds (readable_taken s i) (by rw [hf]; rfl)⟩
  exact tnqOnly.trans (s := s) (t := s.taken i) rfl (event_tnqOnly hf)

/-- An event that changes nothing leaves the delivery taken, and no more. -/
theorem tnq_delivery_discarded (h : s.takes i = true) (hf : f (s.taken i) = s.taken i) :
    onDelivery i (event .tnq f) s = { s with deliveries := without s i } := by
  rw [onDelivery_takes h, event_other (by decide), hf, changed_self]
  exact congrArg (fun ds => ({ s with deliveries := ds } : State)) (List.append_nil _)

theorem slotsAfter_asked (h : s.configFault = false) : slotsAfter [] s.deliveries (asked p s).deliveries := by
  rw [asked_deliveries h]
  exact slotsAfter_withFrame

theorem speakerConfigured_asked (h : s.configFault = false) : (asked p s).speakerConfigured = s.speakerConfigured := by
  funext z
  unfold State.speakerConfigured State.inRange
  rw [asked_cfg h]

/-- A request that TNQ refuses leaves its lists (R161). -/
theorem tnqEnds.refuses (h : tnqEnds s (asked p s) t) (hs : s.configFault = false) :
    t.tnq = s.tnq ∧ leaves .tnq (withFrame p s) [] s t :=
  ⟨h.1.trans (asked_tnq hs), h.2 _ _ ((asked_deliveries hs).trans (List.append_nil _).symm)⟩

/-- The event of TNQ that serves a request whose steps leave `y` (R161). -/
theorem tnq_request_ends {a : Answer} {y : State} (h : s.configFault = false)
    (hf : f (abandon p s) = prepare p a (s.instantAt 0) y) (hy : tnqOnly (asked p s) y) :
    tnqServed p s (event .tnq f (abandon p s)) ∧ answers p a s (event .tnq f (abandon p s))
      ∧ tnqEnds s y (event .tnq f (abandon p s)) := by
  have hrge : y.rge = s.rge := by
    rw [hy]
    exact asked_rge h
  refine ⟨?_, answers_of h ?_, ?_, fun way news hd => ?_⟩
  · have hasked := asked_eq (p := p) h
    rw [tnqServed, event_other (by decide), hf]
    generalize (if changed _ _ = true then [Instr.changeCounterIncrease .tnq] else []) = ds
    rw [tnqOnly] at hy
    generalize asked p s = v at hasked hy
    rw [hy, hasked]
    rfl
  · rw [event_links, hf]
    show (prepare p a (s.instantAt 0) y).links = _
    rw [hy]
    rfl
  · rw [event_tnq, hf]
    rfl
  · refine leaves_event_other (by decide) readable_abandon ?_ ?_
    · rw [hf]
      exact hd
    · rw [hf]
      exact congrArg Rge.changeCounter hrge

/-- An ANNOUNCE that TNQ decides is one event of TNQ (R161, R164). -/
theorem tenant_request_next {sub : Byte} {args : List Byte} (hi : frameOf i = some (p, 6, sub :: args)) (h : canAsk p .tnq s)
    (hr : s.role p = .commandStation ∨ s.role p = .pagingConsole) (hform : announceForm (sub :: args) = true)
    (hlen : args.length ≤ 55) (hhome : announceHome p sub = .tnq)
    (honly : tnqOnly (asked p s) (serveAnnounce p sub args (asked p s)).1) :
    ∃ t, exec i s = .next t ∧ tnqServed p s t
      ∧ answers p (announceAnswer sub (serveAnnounce p sub args (asked p s)).2.1 (serveAnnounce p sub args (asked p s)).2.2) s t
      ∧ tnqEnds s (serveAnnounce p sub args (asked p s)).1 t := by
  obtain ⟨src, hsrc⟩ : ∃ src, sourceOfRole (s.role p) = some src := by
    rcases hr with hr | hr
    · exact ⟨.liveC, sourceOfRole_eq (.inl ⟨hr, rfl⟩)⟩
    · exact ⟨.liveP, sourceOfRole_eq (.inr ⟨hr, rfl⟩)⟩
  have hcheck := requestCheck_announce h.2.1 hsrc hform
  have htnq : serveHome p 6 (sub :: args) s = .tnq := by
    rw [serveHome, hcheck]
    exact hhome
  exact ⟨_, request_served hi h (Nat.succ_le_succ hlen) hcheck htnq (.inl (by decide)), tnq_request_ends h.2.1 rfl honly⟩

end

end Sys2Proof.Machine
end

section
/-! PROOF. Tenant requests: ANNOUNCE TENANT and ANNOUNCE CANCEL (R138 to R141, R143). -/

namespace Sys2Proof.Machine

section
variable {s : State} {p : PortId} {q : Byte} {k : Nat} {zs : List SpeakerId} {e : TenantEntry}

/-! ## Tickets (R138) -/

/-- The tickets from any next ticket on reach every ticket. -/
theorem ticket_reached (next : Nat) {k : Nat} (h : k < 256) : ∃ n < 256, (next + n) % 256 = k :=
  ⟨(k + 256 - next % 256) % 256, Nat.mod_lt _ (by decide), by omega⟩

theorem holds_iff {l : Tnq} : l.holds k = true ↔ ∃ e ∈ l.queue ++ l.playing, e.ticket = k := by
  simp only [Tnq.holds, List.any_eq_true, beq_iff_eq]

/-- Fewer entries than tickets leave a ticket free. -/
theorem exists_ticket_free {l : Tnq} (h : l.queue.length + l.playing.length < 256) : ∃ k < 256, l.holds k = false := by
  by_contra hall
  simp only [not_exists, not_and, Bool.not_eq_false] at hall
  have hsub : List.range 256 ⊆ (l.queue ++ l.playing).map (·.ticket) := by
    intro k hk
    obtain ⟨e, he, hek⟩ := holds_iff.1 (hall k (List.mem_range.1 hk))
    exact List.mem_map.2 ⟨e, he, hek⟩
  have hlen := (List.nodup_range.subperm hsub).length_le
  rw [List.length_range, List.length_map, List.length_append] at hlen
  omega

/-- The ticket of a new entry is the first free one from the next ticket on (R138). -/
theorem freeTicket_first {l : Tnq} (h : l.queue.length + l.playing.length < 256) :
    ∃ n, freeTicket l = (l.nextTicket + n) % 256 ∧ l.holds (freeTicket l) = false
      ∧ ∀ j < n, l.holds ((l.nextTicket + j) % 256) = true := by
  cases hfind : (List.range 256).find? fun n => !l.holds ((l.nextTicket + n) % 256) with
  | none =>
    obtain ⟨k, hk, hfree⟩ := exists_ticket_free h
    obtain ⟨n, hn, rfl⟩ := ticket_reached l.nextTicket hk
    have := List.find?_eq_none.1 hfind n (List.mem_range.2 hn)
    rw [hfree] at this
    exact absurd rfl this
  | some n =>
    have hticket : freeTicket l = (l.nextTicket + n) % 256 := by
      unfold freeTicket
      rw [List.find?_map]
      exact congrArg (fun o => (Option.map _ o).getD l.nextTicket) hfind
    obtain ⟨hfree, -, hfirst⟩ := List.find?_range_eq_some.1 hfind
    refine ⟨n, hticket, ?_, fun j hj => ?_⟩
    · rw [hticket]
      simpa using hfree
    · simpa using hfirst j hj

/-! ## ANNOUNCE TENANT (R139) -/

theorem cueConfigured_iff {c : Configuration} {n : Nat} :
    cueConfigured c n = true ↔ ∃ j : Fin 96, j.val = n ∧ c.cues[j].configured = true := by
  unfold cueConfigured rowAt
  by_cases h : n < 96
  · rw [dif_pos h]
    exact ⟨fun hc => ⟨⟨n, h⟩, rfl, hc⟩, by rintro ⟨j, rfl, hj⟩; exact hj⟩
  · rw [dif_neg h]
    exact ⟨fun hc => absurd hc Bool.false_ne_true, fun ⟨j, hj, _⟩ => absurd (hj ▸ j.isLt) h⟩

/-- The request names a start cue that is not configured, or no configured zone (R139). -/
def tenantOutOfRange (n : Nat) (zs : List SpeakerId) (s : State) : Prop :=
  ¬ (∃ j : Fin 96, j.val = n ∧ s.cfg.cues[j].configured = true) ∨ zs.filter s.speakerConfigured = []

theorem tenantOutOfRange_iff {n : Nat} : tenantOutOfRange n zs s ↔
    (!cueConfigured s.cfg n || (zs.filter s.speakerConfigured).isEmpty) = true := by
  rw [tenantOutOfRange, ← cueConfigured_iff, Bool.or_eq_true, Bool.not_eq_true', Bool.not_eq_true, List.isEmpty_iff]

theorem cmdAnnounceTenant_range {n : Nat} (h : tenantOutOfRange n zs s) : cmdAnnounceTenant n zs s = (s, .range, 0) :=
  if_pos (tenantOutOfRange_iff.1 h)

theorem cmdAnnounceTenant_alarm {n : Nat} (h : ¬ tenantOutOfRange n zs s) (ha : s.inAlarm = true) :
    cmdAnnounceTenant n zs s = (s, .state, 0) :=
  (if_neg (mt tenantOutOfRange_iff.2 h)).trans (if_pos ha)

theorem cmdAnnounceTenant_full {n : Nat} (h : ¬ tenantOutOfRange n zs s) (ha : s.inAlarm = false)
    (hq : 12 ≤ s.tnq.queue.length) : cmdAnnounceTenant n zs s = (s, .full, 0) :=
  (if_neg (mt tenantOutOfRange_iff.2 h)).trans ((if_neg (ne_true_of_eq_false ha)).trans (if_pos hq))

/-- The Tenant Queue with a new entry at its tail (R138, R139). -/
def joined (n : Nat) (zones : List SpeakerId) (s : State) : State :=
  s.withTnq { s.tnq with
    queue := s.tnq.queue ++ [⟨freeTicket s.tnq, n, zones, s.now, some (s.now + s.cfg.tAge * 1000), none⟩]
    nextTicket := (freeTicket s.tnq + 1) % 256 }

/-- The scan behind a new entry (R139 to R141). -/
theorem tnqEnds.scanned_joined {t : State} {n : Nat} {zones : List SpeakerId}
    (h : tnqEnds s (admissionScan (joined n zones (asked p s))) t) (hs : s.configFault = false) :
    Machine.scanned [] (s.tnq.queue ++ [⟨freeTicket s.tnq, n, zones, s.now, some (s.now + s.cfg.tAge * 1000), none⟩])
      s.tnq.playing (withFrame p s) s t := by
  have hscan := h.scanned ((tenantFrame_asked hs).trans (withTnq_tnqOnly _ _).tenantFrame) (slotsAfter_asked hs)
  unfold joined at hscan
  rw [asked_tnq hs, asked_now hs, asked_cfg hs] at hscan
  rw [← asked_deliveries hs]
  exact hscan

theorem cmdAnnounceTenant_joins {n : Nat} (h : ¬ tenantOutOfRange n zs s) (ha : s.inAlarm = false)
    (hq : s.tnq.queue.length < 12) : cmdAnnounceTenant n zs s =
      (admissionScan (joined n (zs.filter s.speakerConfigured) s), .accepted, freeTicket s.tnq) :=
  (if_neg (mt tenantOutOfRange_iff.2 h)).trans ((if_neg (ne_true_of_eq_false ha)).trans (if_neg (Nat.not_le.2 hq)))

/-- ANNOUNCE TENANT leaves the counts of the queue (R139). -/
theorem cmdAnnounceTenant_counts (n : Nat) (zs : List SpeakerId) (s : State) :
    (cmdAnnounceTenant n zs s).1.tnq.aged = s.tnq.aged ∧ (cmdAnnounceTenant n zs s).1.tnq.cut = s.tnq.cut := by
  by_cases h : tenantOutOfRange n zs s
  · rw [cmdAnnounceTenant_range h]
    exact ⟨rfl, rfl⟩
  cases ha : s.inAlarm with
  | true =>
    rw [cmdAnnounceTenant_alarm h ha]
    exact ⟨rfl, rfl⟩
  | false =>
    rcases Nat.lt_or_ge s.tnq.queue.length 12 with hq | hq
    · rw [cmdAnnounceTenant_joins h ha hq, admissionScan_tnq]
      exact ⟨rfl, rfl⟩
    · rw [cmdAnnounceTenant_full h ha hq]
      exact ⟨rfl, rfl⟩

/-- ANNOUNCE TENANT as one event of TNQ (R139, R161). -/
theorem announceTenant_next {mask : List Byte} (h : canAsk p .tnq s)
    (hr : s.role p = .commandStation ∨ s.role p = .pagingConsole) (hm : mask.length = 5) :
    ∃ t, exec (.announceTenant p (q :: mask)) s = .next t ∧ tnqServed p s t
      ∧ answers p (announceAnswer 1 (cmdAnnounceTenant q.toNat (maskZones mask) (asked p s)).2.1
          (cmdAnnounceTenant q.toNat (maskZones mask) (asked p s)).2.2) s t
      ∧ tnqEnds s (cmdAnnounceTenant q.toNat (maskZones mask) (asked p s)).1 t := by
  refine tenant_request_next (sub := 1) (args := q :: mask) rfl h hr ?_ ?_ rfl (cmdAnnounceTenant_tnqOnly _ _ _)
  · show ((q :: mask).length == 6) = true
    rw [List.length_cons, hm]
    rfl
  · rw [List.length_cons, hm]
    decide

/-! ## ANNOUNCE CANCEL (R143) -/

theorem cmdAnnounceCancel_unknown (h : ∀ e ∈ s.tnq.queue ++ s.tnq.playing, e.ticket ≠ k) :
    cmdAnnounceCancel k s = (s, .state) := by
  have hnone : ∀ xs ⊆ s.tnq.queue ++ s.tnq.playing, (xs.find? fun x => x.ticket == k) = none := fun xs hxs =>
    List.find?_eq_none.2 fun x hx => by simpa using h x (hxs hx)
  unfold cmdAnnounceCancel
  rw [hnone _ (List.subset_append_left _ _), hnone _ (List.subset_append_right _ _)]

theorem cmdAnnounceCancel_queued (h : ∃ e ∈ s.tnq.queue, e.ticket = k) : cmdAnnounceCancel k s =
    (s.withTnq { s.tnq with queue := s.tnq.queue.filter fun x => decide (x.ticket ≠ k) }, .accepted) := by
  have hsome : (s.tnq.queue.find? fun x => x.ticket == k).isSome = true := by simpa using h
  obtain ⟨e, he⟩ := Option.isSome_iff_exists.1 hsome
  unfold cmdAnnounceCancel
  rw [he, ← filter_ticket]

theorem cmdAnnounceCancel_playing (hq : ∀ x ∈ s.tnq.queue, x.ticket ≠ k)
    (he : (s.tnq.playing.find? fun x => decide (x.ticket = k)) = some e) :
    cmdAnnounceCancel k s = (admissionScan (endPlaying e s), .accepted) := by
  have hnone : (s.tnq.queue.find? fun x => x.ticket == k) = none := List.find?_eq_none.2 fun x hx => by simpa using hq x hx
  unfold cmdAnnounceCancel
  rw [hnone]
  dsimp only
  rw [show (s.tnq.playing.find? fun x => x.ticket == k) = some e from he]

/-- ANNOUNCE CANCEL as one event of TNQ (R143, R161). -/
theorem announceCancel_next {k : Byte} (h : canAsk p .tnq s)
    (hr : s.role p = .commandStation ∨ s.role p = .pagingConsole) :
    ∃ t, exec (.announceCancel p [k]) s = .next t ∧ tnqServed p s t
      ∧ answers p (announceAnswer 2 (cmdAnnounceCancel k.toNat (asked p s)).2 0) s t
      ∧ tnqEnds s (cmdAnnounceCancel k.toNat (asked p s)).1 t :=
  tenant_request_next (sub := 2) (args := [k]) rfl h hr rfl (by simp) rfl (cmdAnnounceCancel_tnqOnly _ _)

end

/-- Settles O45: each request is one event of TNQ, refused by its checks in their order, or followed by an admission scan. -/
theorem tenantRequestsQueueAndCancelEntries : Obligations.TenantRequestsQueueAndCancelEntries := by
  intro p s h hr hfew
  have hcfg : s.configFault = false := h.2.1
  have htnq : (asked p s).tnq = s.tnq := asked_tnq hcfg
  refine ⟨fun q mask hm => ?_, fun k => ?_⟩
  case refine_1 =>
    obtain ⟨t, ht, hserved, hanswers, hends⟩ := announceTenant_next (q := q) h hr hm
    obtain ⟨haged, hcut⟩ := cmdAnnounceTenant_counts q.toNat (maskZones mask) (asked p s)
    have hzones : (maskZones mask).filter (asked p s).speakerConfigured = maskClaimed mask s := by
      rw [speakerConfigured_asked hcfg, maskZones_claimed]
    have hrange : tenantOutOfRange q.toNat (maskZones mask) (asked p s) ↔
        (¬ ∃ j : Fin 96, j.val = q.toNat ∧ s.cfg.cues[j].configured = true) ∨ maskClaimed mask s = [] := by
      rw [tenantOutOfRange, hzones, asked_cfg hcfg]
    have halarm : (asked p s).inAlarm = s.inAlarm := by rw [State.inAlarm, asked_rge hcfg, State.inAlarm]
    have honly : ∀ r : Reason, cmdAnnounceTenant q.toNat (maskZones mask) (asked p s) = (asked p s, r, 0) →
        answers p ⟨0x86, [1, r.code, 0]⟩ s t ∧ t.tnq = s.tnq ∧ leaves .tnq (withFrame p s) [] s t := by
      intro r hr
      rw [hr] at hanswers hends
      exact ⟨hanswers, hends.refuses hcfg⟩
    rw [htnq, ← hends.1] at haged hcut
    refine ⟨t, ht, hserved, haged, hcut, fun hout => ?_, fun hin ha => ?_, fun hin ha hq => ?_, fun hin ha hq => ?_⟩
    · exact honly .range (cmdAnnounceTenant_range (hrange.2 hout))
    · exact honly .state (cmdAnnounceTenant_alarm (mt hrange.1 hin) (halarm.trans ha))
    · exact honly .full (cmdAnnounceTenant_full (mt hrange.1 hin) (halarm.trans ha) (htnq ▸ hq))
    · rw [cmdAnnounceTenant_joins (mt hrange.1 hin) (halarm.trans ha) (htnq ▸ hq), hzones] at hanswers hends
      obtain ⟨n, hn, hfree, hheld⟩ := freeTicket_first hfew
      refine ⟨n, freeTicket s.tnq, hn, fun e he hek => ?_, fun j hj => holds_iff.1 (hheld j hj), htnq ▸ hanswers, ?_,
        hends.scanned_joined hcfg⟩
      · exact ne_true_of_eq_false hfree (holds_iff.2 ⟨e, he, hek⟩)
      · rw [hends.1, admissionScan_tnq]
        show (freeTicket (asked p s).tnq + 1) % 256 = _
        rw [htnq]
  case refine_2 =>
    obtain ⟨t, ht, hserved, hanswers, hends⟩ := announceCancel_next (k := k) h hr
    refine ⟨t, ht, hserved, fun hnone => ?_, fun hqueued => ?_, fun e hq he => ?_⟩
    · rw [cmdAnnounceCancel_unknown (htnq ▸ hnone)] at hanswers hends
      exact ⟨hanswers, hends.refuses hcfg⟩
    · rw [cmdAnnounceCancel_queued (htnq ▸ hqueued), htnq] at hanswers hends
      exact ⟨hanswers, hends.1, hends.2 _ _ ((asked_deliveries hcfg).trans (List.append_nil _).symm)⟩
    · rw [cmdAnnounceCancel_playing (htnq ▸ hq) (htnq ▸ he)] at hanswers hends
      refine ⟨hanswers, ?_, ?_⟩
      · rw [hends.1, admissionScan_tnq, endPlaying_eq, htnq]
      · have hscan := hends.scanned_end (tenantFrame_asked hcfg) (slotsAfter_asked hcfg)
        rw [htnq, asked_deliveries hcfg, ticket_of_find he] at hscan
        exact hscan

end Sys2Proof.Machine
end

section
/-! PROOF. Deliveries and timers of the Tenant Queue: ends, refusals, aging, the flush and a free channel (R140 to R142, R144,
R145). -/

namespace Sys2Proof.Machine

section
variable {s : State} {c : Instr} {k n : Nat} {e : TenantEntry} {f : TenantEntry → State → State}

/-! ## Deliveries for a playing entry (R141, R142) -/

theorem onPlaying_none (h : ∀ e ∈ s.tnq.playing, e.ticket ≠ k) : onPlaying k f s = s := by
  have hnone : (s.tnq.playing.find? fun x => x.ticket == k) = none := List.find?_eq_none.2 fun x hx => by simpa using h x hx
  rw [onPlaying, hnone]

theorem onPlaying_some (h : (s.tnq.playing.find? fun x => decide (x.ticket = k)) = some e) : onPlaying k f s = f e s := by
  rw [onPlaying, show (s.tnq.playing.find? fun x => x.ticket == k) = some e from h]

/-- A delivery that finds no playing entry is discarded (R141, R142). -/
theorem playing_discarded (h : s.takes c = true) (hnone : ∀ e ∈ s.tnq.playing, e.ticket ≠ k) :
    onDelivery c (event .tnq (onPlaying k f)) s = { s with deliveries := without s c } :=
  tnq_delivery_discarded h (onPlaying_none (s := s.taken c) hnone)

/-- A delivery that finds its playing entry is one event of TNQ (R141, R142). -/
theorem playing_next (h : s.takes c = true) (he : (s.tnq.playing.find? fun x => decide (x.ticket = k)) = some e)
    (hf : ∀ u, tnqOnly u (f e u)) :
    ∃ t, onDelivery c (event .tnq (onPlaying k f)) s = t ∧ tnqOnly s t ∧ tnqEnds s (f e (s.taken c)) t := by
  have hfound := onPlaying_some (s := s.taken c) (f := f) he
  obtain ⟨t, ht, honly, hends⟩ := tnq_delivery_next (f := onPlaying k f) h (by rw [hfound]; exact hf _)
  exact ⟨t, ht, honly, hfound ▸ hends⟩

/-! ## Ends (R142) -/

/-- The Tenant Queue with its cut count at `n`. -/
def withCut (n : Nat) (s : State) : State := s.withTnq { s.tnq with cut := n }

/-- The end of a playing entry by a delivery that leaves the cut count at `n` (R142). -/
theorem playing_ended (hc : writesNoSlot c) (h : s.takes c = true)
    (he : (s.tnq.playing.find? fun x => decide (x.ticket = k)) = some e) (hf : ∀ u, tnqOnly u (f e u))
    (hcut : f e (s.taken c) = admissionScan (endPlaying e (withCut n (s.taken c)))) :
    ∃ t, onDelivery c (event .tnq (onPlaying k f)) s = t ∧ t = { s with tnq := t.tnq, deliveries := t.deliveries }
      ∧ t.tnq.nextTicket = s.tnq.nextTicket ∧ t.tnq.aged = s.tnq.aged ∧ t.tnq.cut = n
      ∧ scanned e.zones s.tnq.queue (s.tnq.playing.filter fun x => decide (x.ticket ≠ k)) (without s c ++ clearing e) s t := by
  obtain ⟨t, ht, honly, hends⟩ := playing_next h he hf
  rw [hcut] at hends
  have hscan := hends.scanned_end (tnqOnly.tenantFrame rfl) (slotsAfter_without hc)
  rw [ticket_of_find he] at hscan
  have htnq := hends.1
  rw [admissionScan_tnq, endPlaying_eq] at htnq
  exact ⟨t, ht, honly, by rw [htnq]; rfl, by rw [htnq]; rfl, by rw [htnq]; rfl, hscan⟩

/-! ## Refusals (R141) -/

/-- The place of a returning entry: behind those enqueued no later than it, before the first that was enqueued later. -/
theorem requeue_split (e : TenantEntry) (q : List TenantEntry) : ∃ a b, q = a ++ b ∧ requeue e q = a ++ e :: b
    ∧ (∀ x ∈ a, x.enqueued ≤ e.enqueued) ∧ ∀ x, b.head? = some x → e.enqueued < x.enqueued := by
  refine ⟨_, _, List.takeWhile_append_dropWhile.symm, rfl, fun x hx => ?_, fun x hx => ?_⟩
  · simpa using List.mem_takeWhile_imp hx
  · have hhead := List.head?_dropWhile_not (fun x : TenantEntry => decide (x.enqueued ≤ e.enqueued)) q
    rw [hx] at hhead
    simpa using hhead

/-- An entry that returns and is removed at once leaves the queue as it was. -/
theorem requeue_removed {q : List TenantEntry} (h : ∀ x ∈ q, x.ticket ≠ e.ticket) :
    (requeue e q).filter (fun x => x.ticket != e.ticket) = q := by
  obtain ⟨a, b, rfl, hq, -, -⟩ := requeue_split e q
  have hkept : (a ++ b).filter (fun x => x.ticket != e.ticket) = a ++ b := List.filter_eq_self.2 fun x hx => by simpa using h x hx
  rw [List.filter_append] at hkept
  rw [hq, List.filter_append, List.filter_cons, if_neg (by simp), hkept]

theorem refused_full (hq : 12 ≤ s.tnq.queue.length) : refused e s = addCut 1 (endPlaying e s) := if_pos hq

/-- The instant at which the aging timer of an entry expires (R141, R144). -/
def expiryOf (e : TenantEntry) (s : State) : Nat := e.enqueued + s.cfg.tAge * 1000

/-- The Tenant Queue with a refused entry back in the queue (R141). -/
def returned (e : TenantEntry) (s : State) : State :=
  (endPlaying e s).withTnq { (endPlaying e s).tnq with
    queue := requeue { e with aging := some (expiryOf e s), started := none } s.tnq.queue }

theorem refused_returned (hq : s.tnq.queue.length < 12) (hx : s.now < expiryOf e s) : refused e s = returned e s :=
  (if_neg (Nat.not_le.2 hq)).trans (if_neg (Nat.not_le.2 hx))

theorem refused_aged (hq : s.tnq.queue.length < 12) (hx : expiryOf e s ≤ s.now) :
    refused e s = ageEntry e.ticket (returned e s) :=
  (if_neg (Nat.not_le.2 hq)).trans (if_pos hx)

/-- What every refusal does to the playing list and to the slots (R141). -/
theorem refused_clears (e : TenantEntry) (s : State) : (refused e s).deliveries = s.deliveries ++ clearing e
    ∧ (refused e s).tnq = { s.tnq with
        playing := s.tnq.playing.filter fun x => decide (x.ticket ≠ e.ticket)
        queue := (refused e s).tnq.queue, aged := (refused e s).tnq.aged, cut := (refused e s).tnq.cut } := by
  rw [← filter_ticket]
  rcases Nat.lt_or_ge s.tnq.queue.length 12 with hq | hq
  · rcases Nat.lt_or_ge s.now (expiryOf e s) with hx | hx
    · rw [refused_returned hq hx]
      exact ⟨rfl, rfl⟩
    · rw [refused_aged hq hx]
      exact ⟨rfl, rfl⟩
  · rw [refused_full hq]
    exact ⟨rfl, rfl⟩

/-- An entry that is refused after its expiry leaves the queue as it was (R141). -/
theorem returned_removed (h : ∀ x ∈ s.tnq.queue, x.ticket ≠ e.ticket) :
    (ageEntry e.ticket (returned e s)).tnq.queue = s.tnq.queue :=
  requeue_removed (e := { e with aging := some (expiryOf e s), started := none }) h

/-! ## Aging (R144) -/

theorem agingTimerExpiry_next {i : Nat} (he : (s.tnq.queue.find? fun x => decide (x.ticket = k)) = some e)
    (ha : e.aging = some i) (hi : i ≤ s.now) : exec (.agingTimerExpiry k) s = .next (event .tnq (ageEntry k) s) := by
  have hdue : s.due (s.agingTimer k) = true := by
    rw [State.agingTimer, show (s.tnq.queue.find? fun x => x.ticket == k) = some e from he, Option.bind_some, ha]
    exact decide_eq_true hi
  exact congrArg Host.Outcome.next (if_pos hdue)

/-! ## The flush (R145) -/

theorem foldl_clearSlots (es : List TenantEntry) (s : State) :
    es.foldl (fun u e => clearSlots e u) s = s.deliver (es.flatMap clearing) := by
  induction es generalizing s with
  | nil => exact congrArg (fun ds => ({ s with deliveries := ds } : State)) (List.append_nil _).symm
  | cons e es ih =>
    rw [List.foldl_cons, ih, List.flatMap_cons]
    exact congrArg (fun ds => ({ s with deliveries := ds } : State)) (List.append_assoc _ _ _)

theorem flush_eq (s : State) : flush s =
    { s with
      tnq := { s.tnq with
        queue := [], playing := []
        cut := min 65535 (s.tnq.cut + (s.tnq.queue.length + s.tnq.playing.length)) }
      deliveries := s.deliveries ++ s.tnq.playing.flatMap clearing } := by
  unfold flush
  rw [foldl_clearSlots]
  rfl

end

/-- Settles O46: each delivery and each expiry is one event of TNQ, whose change is an end, a return, a removal, the flush or an
admission scan. -/
theorem tenantEntriesEndReturnAgeAndFlush : Obligations.TenantEntriesEndReturnAgeAndFlush := by
  refine ⟨fun k c s hc h => ?_, fun k s => ⟨fun h => ⟨fun hnone => ?_, fun e he hfree => ?_⟩, fun e i he ha hi => ?_⟩,
    fun s => ⟨fun h => ?_, fun h => ?_⟩⟩
  case refine_1 =>
    rcases hc with rfl | rfl | rfl
    · refine ⟨fun hnone => congrArg _ (playing_discarded h hnone), fun e he => ?_⟩
      obtain ⟨t, ht, hends⟩ := playing_ended (f := completed) (n := s.tnq.cut) (fun _ _ => rfl) h he
        (fun u => completed_tnqOnly u e) rfl
      rw [if_pos rfl]
      exact ⟨t, congrArg _ ht, hends⟩
    all_goals
      refine ⟨fun hnone => congrArg _ (playing_discarded h hnone), fun e he => ?_⟩
      obtain ⟨t, ht, hends⟩ := playing_ended (f := cutShort) (n := min 65535 (s.tnq.cut + 1)) (fun _ _ => rfl) h he
        (fun u => cutShort_tnqOnly u e) rfl
      rw [if_neg (by simp)]
      exact ⟨t, congrArg _ ht, hends⟩
  case refine_2 => exact congrArg _ (playing_discarded h hnone)
  case refine_3 =>
    obtain ⟨t, ht, honly, htnq, hleaves⟩ := playing_next (f := refused) h he fun u => refused_tnqOnly u e
    obtain ⟨hway, hkept⟩ := refused_clears e (s.taken (.tenantRefusal k))
    have hticket := ticket_of_find he
    refine ⟨t, congrArg _ ht, honly, hleaves _ _ (hway.trans (List.append_nil _).symm), ?_, fun hq => ?_, fun hq hx => ?_,
      fun hq hx => ?_⟩
    · rw [htnq]
      exact hticket ▸ hkept
    · rw [htnq, refused_full (s := s.taken (.tenantRefusal k)) hq]
      exact ⟨rfl, rfl, rfl⟩
    · rw [htnq, refused_aged (s := s.taken (.tenantRefusal k)) hq hx]
      exact ⟨returned_removed (s := s.taken (.tenantRefusal k)) (hticket ▸ hfree), rfl, rfl⟩
    · rw [htnq, refused_returned (s := s.taken (.tenantRefusal k)) hq hx]
      exact ⟨rfl, rfl, requeue_split { e with aging := some (expiryOf e s), started := none } s.tnq.queue⟩
  case refine_4 =>
    obtain ⟨honly, htnq, hleaves⟩ := tnq_event_next (ageEntry_tnqOnly s k)
    refine ⟨_, agingTimerExpiry_next he ha hi, honly, hleaves _ _ (List.append_nil _).symm, ?_⟩
    rw [htnq, ← filter_ticket]
    rfl
  case refine_5 =>
    obtain ⟨t, ht, honly, hends⟩ := tnq_delivery_next h (flush_tnqOnly (s.taken .tnqAlarmFlush))
    rw [flush_eq] at hends
    exact ⟨t, congrArg _ ht, honly, hends.1, hends.2 _ _ rfl⟩
  case refine_6 =>
    obtain ⟨t, ht, honly, hends⟩ := tnq_delivery_next h (admissionScan_tnqOnly (s.taken .tnqChannelFree))
    refine ⟨t, congrArg _ ht, honly, ?_, hends.scanned tenantFrame_taken (slotsAfter_without fun _ _ => rfl)⟩
    rw [hends.1]
    exact admissionScan_tnq _

end Sys2Proof.Machine
end

section
/-! PROOF. The Trouble List: raises, clears and the ACKNOWLEDGE (R147 to R150). -/

namespace Sys2Proof.Machine

/-! ## Entries -/

section
variable {s : State} {k : TroubleKind} {n : Nat} {e x : TroubleEntry}

theorem latching_iff : latching k = true ↔
    k = .verifyBypassed ∨ k = .doorFailed ∨ k = .channelUnderrun ∨ k = .memoryReadFault := by
  cases k <;> simp [latching]

theorem names_eq (e : TroubleEntry) (k : TroubleKind) (n : Nat) :
    e.names k n = decide (e.kind = k ∧ e.subject = n) := by
  rw [Bool.eq_iff_iff, decide_eq_true_eq, TroubleEntry.names, Bool.and_eq_true, beq_iff_eq, beq_iff_eq]

theorem names_iff : e.names k n = true ↔ (e.kind, e.subject) = (k, n) := by
  rw [names_eq, decide_eq_true_eq, Prod.mk.injEq]

theorem staysAtClear_iff : staysAtClear e = true ↔ e.acknowledged = false ∧ latching e.kind = true := by
  rw [staysAtClear, Bool.and_eq_true, Bool.not_eq_true', and_comm]

theorem removedByAck_eq (e : TroubleEntry) : removedByAck e = decide (e.present = false
    ∧ (e.kind = .verifyBypassed ∨ e.kind = .doorFailed ∨ e.kind = .channelUnderrun ∨ e.kind = .memoryReadFault)) := by
  rw [Bool.eq_iff_iff, decide_eq_true_eq, removedByAck, Bool.and_eq_true, Bool.not_eq_true', latching_iff, and_comm]

/-- In a list without repeats the entry that a kind and subject name is the one that is found (R147). -/
theorem find_names (h : troublesFit s) (he : e ∈ s.trl.entries) (hn : e.names k n = true) :
    (s.trl.entries.find? fun x => x.names k n) = some e := by
  cases hf : s.trl.entries.find? fun x => x.names k n with
  | none => exact absurd hn (List.find?_eq_none.1 hf e he)
  | some x =>
    have hx := names_iff.1 (List.find?_some (p := fun x : TroubleEntry => x.names k n) hf)
    rw [List.inj_on_of_nodup_map h.2 (List.mem_of_find?_eq_some hf) he (hx.trans (names_iff.1 hn).symm)]

theorem mem_removalNews_verifyBypassed {z : ZoneId} :
    .verifyBypassedRemoval z ∈ removalNews e ↔ e.kind = .verifyBypassed ∧ e.subject = z.val := by
  unfold removalNews
  split
  next hk => simp [hk, toIndex_eq_some]
  next hk => simp [hk]
  next hk _ => simpa using fun h => absurd h hk

theorem mem_removalNews_underrun {c : ChannelId} :
    .underrunRemoval c ∈ removalNews e ↔ e.kind = .channelUnderrun ∧ e.subject = c.val := by
  unfold removalNews
  split
  next hk => simp [hk]
  next hk => simp [hk, toIndex_eq_some]
  next _ hk => simpa using fun h => absurd h hk

end

/-! ## Events of TRL -/

section
variable {s : State} {k : TroubleKind} {n : Nat} {e : TroubleEntry} {i : Instr} {f : State → State} {news : List Instr}

/-- A delivery to TRL whose own change delivers `news`. -/
theorem trl_delivery_next (h : s.takes i = true) (hf : trlOnly (s.taken i) (f (s.taken i)))
    (hd : (f (s.taken i)).deliveries = without s i ++ news) :
    ∃ t, onDelivery i (event .trl f) s = t ∧ trlOnly s t ∧ t.trl = (f (s.taken i)).trl
      ∧ leaves .trl (without s i) news s t := by
  rw [onDelivery_takes h]
  refine ⟨_, rfl, ?_, event_trl, leaves_event_other (by decide) (readable_taken s i) hd (by rw [hf]; rfl)⟩
  rw [event_other (by decide)]
  exact trlOnly.trans (s := s) (t := s.taken i) rfl (hf.trans rfl)

/-- A clear without an entry does nothing (R149). -/
theorem troubleCleared_absent (h : (s.trl.entries.any fun x => x.names k n) = false) : troubleCleared k n s = s := by
  have hnone : (s.trl.entries.find? fun x => x.names k n) = none := List.find?_eq_none.2 (List.any_eq_false.1 h)
  unfold troubleCleared
  rw [hnone]

/-- A latching entry that is not acknowledged stays at its clear, the condition not present (R149). -/
theorem troubleCleared_stays (h : troublesFit s) (he : e ∈ s.trl.entries) (hn : e.names k n = true)
    (hs : staysAtClear e = true) : troubleCleared k n s = s.withTrl { s.trl with
      entries := s.trl.entries.map fun x => if x.names k n then { x with present := false } else x } := by
  unfold troubleCleared
  rw [find_names h he hn]
  exact if_pos hs

/-- Any other entry is removed at its clear (R149). -/
theorem troubleCleared_removes (h : troublesFit s) (he : e ∈ s.trl.entries) (hn : e.names k n = true)
    (hs : staysAtClear e = false) : troubleCleared k n s =
      (s.withTrl { s.trl with entries := s.trl.entries.filter fun x => !x.names k n }).deliver (removalNews e) := by
  unfold troubleCleared
  rw [find_names h he hn]
  exact if_neg (ne_true_of_eq_false hs)

theorem troubleRaised_deliveries (k : TroubleKind) (n : Nat) (s : State) :
    (troubleRaised k n s).deliveries = s.deliveries := by
  unfold troubleRaised
  split
  · rfl
  · split <;> rfl

/-- The list that a raise leaves (R148). -/
theorem troubleRaised_trl (k : TroubleKind) (n : Nat) (s : State) : (troubleRaised k n s).trl =
    if s.trl.entries.any fun e => e.names k n then
      { s.trl with entries := s.trl.entries.map fun e => if e.names k n then { e with present := true } else e }
    else if s.trl.entries.length < 48 then { s.trl with entries := s.trl.entries ++ [⟨k, n, s.now, true, false⟩] }
    else { s.trl with overflow := min 65535 (s.trl.overflow + 1) } := by
  unfold troubleRaised
  rw [apply_ite State.trl, apply_ite State.trl]
  rfl

end

/-- A clear that TRL takes, by the entry that it names (R149). -/
theorem troubleClear_next (k : TroubleKind) (n : Nat) {s : State} (hfit : troublesFit s)
    (h : s.takes (.troubleClear k n) = true) :
    ∃ t, exec (.troubleClear k n) s = .next t ∧ trlOnly s t
      ∧ ((s.trl.entries.any fun x => x.names k n) = false →
          t.trl = s.trl ∧ leaves .trl (without s (.troubleClear k n)) [] s t)
      ∧ ∀ e ∈ s.trl.entries, e.names k n = true →
        (staysAtClear e = true →
          t.trl = { s.trl with
            entries := s.trl.entries.map fun x => if x.names k n then { x with present := false } else x }
          ∧ leaves .trl (without s (.troubleClear k n)) [] s t)
        ∧ (staysAtClear e = false →
          t.trl = { s.trl with entries := s.trl.entries.filter fun x => !x.names k n }
          ∧ leaves .trl (without s (.troubleClear k n)) (removalNews e) s t) := by
  have hnext := fun news hd => trl_delivery_next (news := news) h (troubleCleared_trlOnly (s.taken _) k n) hd
  by_cases hany : (s.trl.entries.any fun x => x.names k n) = false
  · have hclear := troubleCleared_absent (s := s.taken (.troubleClear k n)) hany
    obtain ⟨t, ht, honly, htrl, hleaves⟩ := hnext [] (by rw [hclear]; exact (List.append_nil _).symm)
    rw [hclear] at htrl
    exact ⟨t, congrArg _ ht, honly, fun _ => ⟨htrl, hleaves⟩, fun e he hn => absurd hn (List.any_eq_false.1 hany e he)⟩
  · obtain ⟨e, he, hn⟩ := List.any_eq_true.1 (eq_true_of_ne_false hany)
    have honly_one : ∀ x ∈ s.trl.entries, x.names k n = true → x = e := fun x hx hxn =>
      Option.some.inj ((find_names hfit hx hxn).symm.trans (find_names hfit he hn))
    by_cases hs : staysAtClear e = true
    · have hclear := troubleCleared_stays (s := s.taken (.troubleClear k n)) hfit he hn hs
      obtain ⟨t, ht, honly, htrl, hleaves⟩ := hnext [] (by rw [hclear]; exact (List.append_nil _).symm)
      rw [hclear] at htrl
      refine ⟨t, congrArg _ ht, honly, fun h => absurd h hany, fun x hx hxn => ?_⟩
      rw [honly_one x hx hxn]
      exact ⟨fun _ => ⟨htrl, hleaves⟩, fun h => absurd hs (ne_true_of_eq_false h)⟩
    · have hs := eq_false_of_ne_true hs
      have hclear := troubleCleared_removes (s := s.taken (.troubleClear k n)) hfit he hn hs
      obtain ⟨t, ht, honly, htrl, hleaves⟩ := hnext (removalNews e) (by rw [hclear]; rfl)
      rw [hclear] at htrl
      refine ⟨t, congrArg _ ht, honly, fun h => absurd h hany, fun x hx hxn => ?_⟩
      rw [honly_one x hx hxn]
      exact ⟨fun h => absurd h (ne_true_of_eq_false hs), fun _ => ⟨htrl, hleaves⟩⟩

/-- Settles O47: a raise by what the list holds, a clear by the one entry that it names. -/
theorem raisesAndClearsKeepTheTroubleList : Obligations.RaisesAndClearsKeepTheTroubleList := by
  intro k n s hfit
  have hnames : (fun e : TroubleEntry => decide (e.kind = k ∧ e.subject = n)) = fun e => e.names k n :=
    funext fun e => (names_eq e k n).symm
  dsimp only
  simp only [congrFun hnames]
  refine ⟨fun h => ?_, fun h => ?_⟩
  · obtain ⟨t, ht, honly, htrl, hleaves⟩ := trl_delivery_next (news := []) h (troubleRaised_trlOnly (s.taken _) k n)
      (by rw [troubleRaised_deliveries]; exact (List.append_nil _).symm)
    exact ⟨t, congrArg _ ht, honly, hleaves, htrl.trans (troubleRaised_trl k n _)⟩
  · obtain ⟨t, ht, honly, habsent, hnamed⟩ := troubleClear_next k n hfit h
    refine ⟨t, ht, honly, habsent, fun e he hn => ?_⟩
    obtain ⟨hstays, hremoves⟩ := hnamed e he hn
    obtain ⟨rfl, rfl⟩ := Prod.mk.inj (names_iff.1 hn)
    rw [← latching_iff, ← staysAtClear_iff, Bool.not_eq_true]
    exact ⟨hstays, hremoves⟩

/-- Settles O48: the entries that the ACKNOWLEDGE leaves, and the removals of those that it does not. -/
theorem acknowledgeMarksEveryTrouble : Obligations.AcknowledgeMarksEveryTrouble := by
  intro s h
  obtain ⟨t, ht, honly, htrl, hleaves⟩ := trl_delivery_next
    (news := (s.trl.entries.filter removedByAck).flatMap removalNews) h (acknowledgeAll_trlOnly (s.taken _)) rfl
  refine ⟨t, congrArg _ ht, honly, ?_⟩
  dsimp only
  simp only [← removedByAck_eq]
  refine ⟨by rw [htrl]; rfl, by rw [htrl]; rfl, _, hleaves, fun z => ?_, fun c => ?_⟩
  · simp only [List.mem_flatMap, List.mem_filter, mem_removalNews_verifyBypassed, and_assoc]
  · simp only [List.mem_flatMap, List.mem_filter, mem_removalNews_underrun, and_assoc]

end Sys2Proof.Machine
end

section
/-! PROOF. The supervision of the parties: supervision timers and the end of the start grace (R153, R154). -/

namespace Sys2Proof.Machine

/-! ## The loss of a port (R153, R154) -/

/-- The record of a port that becomes LOST (R153). -/
def lostPort (r : PortRec) : PortRec := { r with presence := .lost, attach := 0, supervision := none }

section
variable {s t u : State} {p q : PortId} {ps : List PortId} {news more : List Instr}

theorem losePort_eq (p : PortId) (s : State) : losePort p s =
    { s with
      links := { s.links with ports := s.links.ports.set p.val (lostPort s.links.ports[p]) p.isLt }
      deliveries := s.deliveries ++ lossDeliveries p s } := by
  have hnews : lossDeliveries p s = [.troubleRaise .partyLost p.val] ++ lossNews s p := rfl
  rw [hnews, ← List.append_assoc]
  rfl

/-- The loss of a port raises PARTY LOST of that port and of no other. -/
theorem raise_mem_lossDeliveries : .troubleRaise .partyLost q.val ∈ lossDeliveries p s ↔ q = p := by
  unfold lossDeliveries
  rw [List.mem_cons, Instr.troubleRaise.injEq, Fin.val_inj]
  cases s.role p <;> simp

/-- What the event of a port that becomes LOST leaves. -/
theorem event_losePort (p : PortId) (s : State) : ∃ t, event (.port p) (losePort p) s = t
    ∧ t = { s with links := t.links, deliveries := t.deliveries } ∧ t.links.grace = s.links.grace
    ∧ t.links.ports[p] = lostPort s.links.ports[p] ∧ (∀ q : PortId, q ≠ p → t.links.ports[q] = s.links.ports[q])
    ∧ leaves (.port p) s.deliveries (lossDeliveries p s) s t := by
  refine ⟨_, rfl, ?_, ?_, ?_, fun q hq => ?_, leaves_event_other (by nofun) rfl ?_ ?_⟩
  · rw [event_other (by nofun), losePort_eq]
    rfl
  · rw [event_links, losePort_eq]
  · rw [event_links, losePort_eq]
    exact set_fin_same _ _ _
  · rw [event_links, losePort_eq]
    exact set_fin_other _ _ hq
  · rw [losePort_eq]
  · rw [losePort_eq]

/-! ## The end of the start grace (R153) -/

/-- A port of a used role that is still ABSENT. -/
def silent (s : State) (p : PortId) : Prop := s.role p ≠ .unused ∧ s.links.ports[p].presence = .absent

/-- The silent ports among `ps` became LOST from `s` to `t`, and this delivered `news`. -/
structure LossesMade (ps : List PortId) (s t : State) (news : List Instr) : Prop where
  frame : t = { s with links := t.links, deliveries := t.deliveries }
  grace : t.links.grace = s.links.grace
  deliveries : t.deliveries = s.deliveries ++ news
  lost : ∀ p ∈ ps, silent s p → t.links.ports[p] = lostPort s.links.ports[p] ∧ ∀ e ∈ lossDeliveries p s, e ∈ news
  kept : ∀ p, ¬ (p ∈ ps ∧ silent s p) →
    t.links.ports[p] = s.links.ports[p] ∧ .troubleRaise .partyLost p.val ∉ news

theorem LossesMade.nil (s : State) : LossesMade [] s s [] where
  frame := rfl
  grace := rfl
  deliveries := (List.append_nil _).symm
  lost := nofun
  kept _ _ := ⟨rfl, List.not_mem_nil⟩

/-- The turn of one port. -/
theorem graceEndsAt_loses (s : State) (p : PortId) : ∃ news, LossesMade [p] s (graceEndsAt s p) news := by
  unfold graceEndsAt
  by_cases hp : silent s p
  · obtain ⟨t, ht, hframe, hgrace, hport, hothers, hleaves, -⟩ := event_losePort p s
    rw [if_pos (by simpa [silent] using hp), ht]
    refine ⟨_, hframe, hgrace, hleaves.trans (List.append_assoc _ _ _), fun q hq _ => ?_, fun q hq => ?_⟩
    · rw [List.mem_singleton.1 hq]
      exact ⟨hport, fun e he => List.mem_append_left _ he⟩
    · have hne : q ≠ p := fun h => hq ⟨List.mem_singleton.2 h, h ▸ hp⟩
      refine ⟨hothers q hne, fun h => ?_⟩
      rw [if_neg (by nofun), mem_append_increaseOf (by nofun)] at h
      exact hne (raise_mem_lossDeliveries.1 h)
  · rw [if_neg (by simpa [silent] using hp)]
    refine ⟨[], rfl, rfl, (List.append_nil _).symm, fun q hq hs => ?_, fun q _ => ⟨rfl, List.not_mem_nil⟩⟩
    exact absurd (List.mem_singleton.1 hq ▸ hs) hp

/-- The turn of one port, then the turns of other ports. -/
theorem LossesMade.cons (h : LossesMade [p] s t news) (hp : p ∉ ps) (k : LossesMade ps t u more) :
    LossesMade (p :: ps) s u (news ++ more) := by
  have hrole : ∀ q, t.role q = s.role q := fun q => by rw [h.frame]; rfl
  have hother : ∀ q, q ≠ p → t.links.ports[q] = s.links.ports[q] := fun q hq =>
    (h.kept q fun k => hq (List.mem_singleton.1 k.1)).1
  have hsilent : ∀ q, q ≠ p → (silent t q ↔ silent s q) := fun q hq => by
    unfold silent
    rw [hrole, hother q hq]
  have hloss : ∀ q, lossDeliveries q t = lossDeliveries q s := fun q => by
    unfold lossDeliveries
    rw [hrole]
  have hlast := k.kept p fun k => hp k.1
  refine ⟨by rw [k.frame, h.frame], k.grace.trans h.grace, by rw [k.deliveries, h.deliveries, List.append_assoc],
    fun q hq hs => ?_, fun q hq => ?_⟩
  · by_cases hqp : q = p
    · subst hqp
      obtain ⟨hport, hmem⟩ := h.lost q (List.mem_singleton_self q) hs
      exact ⟨hlast.1.trans hport, fun e he => List.mem_append_left _ (hmem e he)⟩
    · obtain ⟨hport, hmem⟩ := k.lost q ((List.mem_cons.1 hq).resolve_left hqp) ((hsilent q hqp).2 hs)
      rw [hother q hqp] at hport
      rw [hloss] at hmem
      exact ⟨hport, fun e he => List.mem_append_right _ (hmem e he)⟩
  · have hfirst := h.kept q fun k => hq ⟨List.mem_singleton.1 k.1 ▸ List.mem_cons_self, k.2⟩
    have hrest := k.kept q fun k => by
      have hqp : q ≠ p := fun e => hp (e ▸ k.1)
      exact hq ⟨List.mem_cons_of_mem _ k.1, (hsilent q hqp).1 k.2⟩
    exact ⟨hrest.1.trans hfirst.1, fun hm => (List.mem_append.1 hm).elim hfirst.2 hrest.2⟩

/-- The turns of ports, each once. -/
theorem foldl_graceEndsAt (hps : ps.Nodup) (s : State) : ∃ news, LossesMade ps s (ps.foldl graceEndsAt s) news := by
  induction ps generalizing s with
  | nil => exact ⟨[], .nil s⟩
  | cons p ps ih =>
    obtain ⟨hp, hps⟩ := List.nodup_cons.1 hps
    obtain ⟨news, hfirst⟩ := graceEndsAt_loses s p
    obtain ⟨more, hrest⟩ := ih hps (graceEndsAt s p)
    exact ⟨news ++ more, hfirst.cons hp hrest⟩

theorem graceEnds_loses (s : State) :
    ∃ news, LossesMade (List.finRange 6) (s.withLinks { s.links with grace := none }) (graceEnds s) news :=
  foldl_graceEndsAt (List.nodup_finRange 6) _

end

/-- Settles O49: the event of one port, and at the end of the grace one such event for each silent port in turn. -/
theorem silentPartiesAreLost : Obligations.SilentPartiesAreLost := by
  refine fun s => ⟨fun p hdue => ?_, fun hdue => ?_⟩
  · obtain ⟨t, ht, hframe, hgrace, hport, hothers, hleaves⟩ := event_losePort p s
    exact ⟨t, congrArg _ ((if_pos hdue).trans ht), hframe, hgrace, hport, hothers, hleaves⟩
  · have ht : exec .startGraceEnd s = .next (graceEnds s) := congrArg Host.Outcome.next (if_pos hdue)
    obtain ⟨news, hmade⟩ := graceEnds_loses s
    generalize graceEnds s = t at ht hmade
    refine ⟨t, ht, hmade.frame, hmade.grace, news, hmade.deliveries, fun p => ⟨?_, fun hp => ?_⟩⟩
    · exact hmade.lost p (List.mem_finRange p)
    · exact hmade.kept p fun h => hp h.2

end Sys2Proof.Machine
end

section
/-! SUPPORT. The tables of READ (R166): the lengths of their rows, and what a row sees of the ports. -/

namespace Sys2Proof.Machine

/-! ## Lengths of fields -/

section
variable (s : State)

@[simp] theorem orNone_length (n : Option Nat) : (orNone n).length = 1 := rfl
@[simp] theorem flag_length (b : Bool) : (flag b).length = 1 := rfl
@[simp] theorem bytes2_length (n : Nat) : (bytes2 n).length = 2 := rfl
@[simp] theorem bytes4_length (n : Nat) : (bytes4 n).length = 4 := rfl
@[simp] theorem instantBytes_length (n : Option Nat) : (instantBytes n).length = 4 := by cases n <;> rfl
@[simp] theorem zoneBytes_length (zs : List SpeakerId) : (zoneBytes zs).length = 5 := by simp [zoneBytes]
@[simp] theorem orderFields_length (r : BankRec) : (orderFields r).length = 5 := rfl
@[simp] theorem entryFields_length (e : TenantEntry) : (entryFields e).length = 11 := by simp [entryFields]
@[simp] theorem grantFields_length (g : Option Grant) : (grantFields g).length = 11 := by simp [grantFields]
@[simp] theorem chainFields_length (k : Option Chain) : (chainFields k).length = 2 := rfl
@[simp] theorem finishedFields_length (m : Option FinishedMark) : (finishedFields m).length = 6 := by simp [finishedFields]
@[simp] theorem beginFlag_length (r : ChannelRec) : (beginFlag r).length = 1 := rfl
@[simp] theorem fireFields_length (f : Option FireSlot) : (fireFields f).length = 7 := by simp [fireFields]
@[simp] theorem liveFields_length (l : Option LiveSlot) : (liveFields l).length = 5 := by simp [liveFields]
@[simp] theorem tenantFields_length (t : Option TenantSlot) : (tenantFields t).length = 7 := by simp [tenantFields]
@[simp] theorem selectionFields_length (m : MonitorSelection) : (selectionFields m).length = 2 := by cases m <;> rfl

/-! ## Lengths of rows -/

theorem floorRow_length (i : Nat) : (floorRow s i).length ≤ 8 := by
  unfold floorRow
  split <;> simp

theorem zoneRow_length (i : Nat) : (zoneRow s i).length ≤ 6 := by
  unfold zoneRow
  split
  · split <;> simp
  · simp

theorem loopRow_length (i : Nat) : (loopRow s i).length ≤ 6 := by
  unfold loopRow
  split <;> simp

theorem doorRow_length (d : DoorId) : (doorRow s d).length ≤ 10 := by
  unfold doorRow
  dsimp only
  split
  · simp
  · split <;> simp

theorem groupRow_length (r : GroupRec) : (groupRow s r).length = 8 := by simp [groupRow]

theorem doorsRow_length (i : Nat) : (doorsRow s i).length ≤ 10 := by
  unfold doorsRow
  split
  · exact doorRow_length s _
  · cases rowAt s.dsq.groups (i - 128) <;> simp [groupRow_length]

theorem carRow_length (i : Nat) : (carRow s i).length ≤ 6 := by
  unfold carRow
  split <;> simp

theorem bankRow_length (i : Nat) : (bankRow s i).length ≤ 10 := by
  unfold bankRow
  split
  · dsimp only
    split <;> simp
  · simp

theorem troubleRow_length (i : Nat) : (troubleRow s i).length ≤ 10 := by
  unfold troubleRow
  split
  · simp
  · rename_i k
    cases s.trl.entries[k]? <;> simp [troubleEntryRow]

theorem channelRow_length (c : ChannelId) : (channelRow s c).length = 28 := by simp [channelRow]

theorem speakerRow_length (z : SpeakerId) : (speakerRow s z).length = 23 := by simp [speakerRow]

theorem monitorRow_length : (monitorRow s).length = 15 := by simp [monitorRow]

theorem channelsRow_length (i : Nat) : (channelsRow s i).length ≤ 32 := by
  unfold channelsRow
  split
  · simp [channelRow_length]
  · split
    · simp [speakerRow_length]
    · simp [monitorRow_length]

theorem tenantRow_length (i : Nat) : (tenantRow s i).length ≤ 18 := by
  unfold tenantRow
  split
  · simp
  · rename_i k
    split
    · cases s.tnq.queue[k]? <;> simp
    · cases s.tnq.playing[k - 12]? <;> simp

theorem portRow_length (i : Nat) : (portRow s i).length ≤ 10 := by
  unfold portRow
  split
  · dsimp only
    split <;> simp
  · simp

theorem areaRow_length (i : Nat) : (areaRow s i).length ≤ 4 := by
  unfold areaRow
  split <;> simp

end

/-! ## Tables -/

section
variable {s t : State} {code rows size : Nat} {tb : ReadTable}

/-- The tables and their row sizes (R166). -/
theorem tableNamed_of_listed (h : (code, rows, size) ∈ [(1, s.cfg.topFloor + 1, 8), (2, 64, 6), (3, 48, 6), (4, 132, 10),
      (5, 12, 6), (6, 2, 10), (7, 49, 10), (8, 41, 32), (9, 13 + s.tnq.playing.length, 18), (10, 6, 10), (11, 8, 4)]) :
    ∃ tb, s.tableNamed code = some tb ∧ tb.rows = rows ∧ tb.size = size := by
  simp only [List.mem_cons, List.not_mem_nil, or_false, Prod.mk.injEq] at h
  obtain ⟨rfl, rfl, rfl⟩ | ⟨rfl, rfl, rfl⟩ | ⟨rfl, rfl, rfl⟩ | ⟨rfl, rfl, rfl⟩ | ⟨rfl, rfl, rfl⟩ | ⟨rfl, rfl, rfl⟩
    | ⟨rfl, rfl, rfl⟩ | ⟨rfl, rfl, rfl⟩ | ⟨rfl, rfl, rfl⟩ | ⟨rfl, rfl, rfl⟩ | ⟨rfl, rfl, rfl⟩ := h
  all_goals exact ⟨_, rfl, rfl, rfl⟩

theorem tableNamed_unknown (h : code = 0 ∨ 11 < code) : s.tableNamed code = none := by
  unfold State.tableNamed
  split
  case h_12 => rfl
  all_goals omega

theorem tableNamed_congr (hc : t.cfg = s.cfg) (hq : t.tnq = s.tnq) : t.tableNamed code = s.tableNamed code := by
  unfold State.tableNamed
  rw [hc, hq]

/-- No row is longer than the row size of its table. -/
theorem row_length_le (h : s.tableNamed code = some tb) (u : State) (i : Nat) : (tb.row u i).length ≤ tb.size := by
  unfold State.tableNamed at h
  split at h
  case h_12 => cases h
  all_goals obtain rfl := Option.some.inj h
  · exact floorRow_length u i
  · exact zoneRow_length u i
  · exact loopRow_length u i
  · exact doorsRow_length u i
  · exact carRow_length u i
  · exact bankRow_length u i
  · exact troubleRow_length u i
  · exact channelsRow_length u i
  · exact tenantRow_length u i
  · exact portRow_length u i
  · exact areaRow_length u i

theorem padRow_length {bs : List Byte} (h : bs.length ≤ size) : (padRow size bs).length = size := by
  unfold padRow
  rw [List.length_append, List.length_replicate]
  omega

/-- An answer holds whole rows. -/
theorem rowsFrom_length (h : s.tableNamed code = some tb) (u : State) (first n : Nat) :
    (tb.rowsFrom u first n).length = n * tb.size := by
  unfold ReadTable.rowsFrom
  simp [List.length_flatMap, padRow_length (row_length_le h u _)]

/-- What the rows see of a state: everything but the deliveries and what the ports are receiving or sending. -/
structure SameRows (s t : State) : Prop where
  frame : t = { s with links := t.links, deliveries := t.deliveries }
  ports : ∀ p : PortId, t.links.ports[p].presence = s.links.ports[p].presence
    ∧ t.links.ports[p].attach = s.links.ports[p].attach ∧ t.links.ports[p].errors = s.links.ports[p].errors
    ∧ t.links.ports[p].supervision = s.links.ports[p].supervision

theorem SameRows.portRow (h : SameRows s t) (i : Nat) : portRow t i = portRow s i := by
  have hrole : ∀ p, t.role p = s.role p := fun p => by rw [h.frame]; rfl
  have hleft : ∀ x, t.remaining x = s.remaining x := fun x => by rw [h.frame]; rfl
  unfold Machine.portRow
  cases toIndex 6 i with
  | none => rfl
  | some p =>
    obtain ⟨hpresence, hattach, herrors, hsupervision⟩ := h.ports p
    dsimp only
    rw [hrole, hleft, hpresence, hattach, herrors, hsupervision]

theorem SameRows.row (h : SameRows s t) {u : State} (hn : u.tableNamed code = some tb) (i : Nat) :
    tb.row t i = tb.row s i := by
  have hport := h.portRow i
  have hframe := h.frame
  unfold State.tableNamed at hn
  split at hn
  case h_12 => cases hn
  all_goals obtain rfl := Option.some.inj hn
  case h_10 => exact hport
  all_goals
    dsimp only
    rw [hframe]
    rfl

theorem SameRows.rowsFrom (h : SameRows s t) {u : State} (hn : u.tableNamed code = some tb) (first n : Nat) :
    tb.rowsFrom t first n = tb.rowsFrom s first n := by
  unfold ReadTable.rowsFrom
  simp only [h.row hn]

end

end Sys2Proof.Machine
end

section
/-! PROOF. POLL and READ: requests that a port answers itself (R152, R166, R167, R171). -/

namespace Sys2Proof.Machine

/-! ## A request that the port serves itself -/

section
variable {p q : PortId} {s t : State} {i : Instr} {kind : Byte} {body : List Byte} {a : Answer} {at_ : Nat}

/-- What the frame of a request touches before it is served: ports, the start of an EEPROM write, deliveries. -/
theorem asked_portServed (p : PortId) (s : State) : portServed p s (asked p s) := by
  cases h : s.configFault with
  | true =>
    have hcfs : (asked p s).cfs = (abandon p s).cfs := by rw [asked_fault h]
    have hframe := abandon_eq p s
    unfold portServed
    rw [asked_fault h]
    generalize abandon p s = u at hframe ⊢
    rw [hframe]
  | false =>
    have hframe := asked_eq (p := p) h
    unfold portServed
    generalize asked p s = u at hframe ⊢
    rw [hframe]

/-- The event in which a port answers a request that leaves the other blocks alone. -/
theorem port_request_next (hf : frameOf i = some (p, kind, body)) (h : s.hears p = true) (hb : body.length ≤ 56)
    (hhome : serveHome p kind body s = .port p) (hserve : serve p kind body (asked p s) = (asked p s, a)) :
    ∃ t, exec i s = .next t ∧ portServed p s t ∧ t.links = (prepare p a (s.instantAt 0) (asked p s)).links
      ∧ leaves (.port p) (asked p s).deliveries [] s t := by
  have hserved : serveFrame p (.port p) kind body (s.instantAt 0) (abandon p s) =
      prepare p a (s.instantAt 0) (asked p s) := by
    have hbefore : beforeService p (.port p) (abandon p s) = asked p s := rfl
    unfold serveFrame
    rw [hbefore, hserve]
  have hframe := asked_portServed p s
  unfold portServed at hframe
  refine ⟨_, request_next hf h hb hhome (noneOnWay_port p), ?_, ?_, leaves_event_other (by nofun) readable_abandon ?_ ?_⟩
  · show portServed p s (event (.port p) (serveFrame p (.port p) kind body (s.instantAt 0)) (abandon p s))
    unfold portServed
    rw [event_other (by nofun), hserved]
    generalize asked p s = u at hframe ⊢
    rw [hframe]
    rfl
  · rw [event_links]
    exact congrArg State.links hserved
  · exact (congrArg State.deliveries hserved).trans (List.append_nil _).symm
  · refine (congrArg (fun u => u.rge.changeCounter) hserved).trans ?_
    show (asked p s).rge.changeCounter = _
    rw [hframe]

/-- Preparing an answer leaves the presence and the errors of every port. -/
theorem prepare_port (q : PortId) : (prepare p a at_ s).links.ports[q].presence = s.links.ports[q].presence
    ∧ (prepare p a at_ s).links.ports[q].attach = s.links.ports[q].attach
    ∧ (prepare p a at_ s).links.ports[q].errors = s.links.ports[q].errors
    ∧ (prepare p a at_ s).links.ports[q].supervision = s.links.ports[q].supervision := by
  have hport : (prepare p a at_ s).links.ports[q] = if q = p then _ else s.links.ports[q] := set_fin _ _ _ _
  rw [hport]
  split
  next h => rw [h]; exact ⟨rfl, rfl, rfl, rfl⟩
  next => exact ⟨rfl, rfl, rfl, rfl⟩

/-- In CONFIG FAULT the answer is prepared and presence stands (R155, R171). -/
theorem answers_of_fault (h : s.configFault = true) (hl : t.links = (prepare p a (s.instantAt 0) (asked p s)).links) :
    answers p a s t ∧ t.links.ports[p].presence = s.links.ports[p].presence
      ∧ t.links.ports[p].supervision = s.links.ports[p].supervision := by
  rw [asked_fault h] at hl
  have hport : t.links.ports[p] = { (abandon p s).links.ports[p] with
      rx := .preparing, buffer := [], answer := some a, idleFrom := s.instantAt 0, takenAt := s.instantAt 0 } := by
    rw [hl]
    exact set_fin_same _ _ _
  have hother : ∀ q : PortId, q ≠ p → t.links.ports[q] = s.links.ports[q] := fun q hq => by
    rw [hl]
    refine (set_fin_other _ _ hq).trans ?_
    rw [abandon_ports, if_neg fun k => hq k.1]
  obtain ⟨herrors, hpresence, -, hsupervision⟩ := abandon_port_kept (p := p) (s := s)
  refine ⟨⟨?_, ?_, ?_, ?_, ?_, ?_, by rw [hl]; exact abandon_grace, hother⟩, ?_, ?_⟩ <;> rw [hport]
  · exact herrors
  · exact hpresence
  · exact hsupervision

end

/-! ## POLL (R167, R171) -/

section
variable {p : PortId} {s : State}

/-- A POLL passes the checks of R164, in CONFIG FAULT too. -/
theorem requestCheck_poll (h : s.configFault = false → s.role p ≠ .unused) : s.requestCheck p 1 [] = none := by
  unfold State.requestCheck
  cases hc : s.configFault with
  | true => rfl
  | false =>
    cases hr : s.role p with
    | unused => exact absurd hr (h hc)
    | commandStation | firePanel | pagingConsole | liftGroup => rfl

theorem pollAnswer_of_fault (h : s.configFault = true) : pollAnswer s = ⟨0x81, faultSummary⟩ := by
  unfold pollAnswer
  rw [h]
  rfl

theorem pollAnswer_of_running (h : s.configFault = false) : pollAnswer s = ⟨0x81, summaryBody s⟩ := by
  unfold pollAnswer
  rw [h]
  rfl

theorem regimeByte_eq (r : RegimeState) : byteOf (regimeCode r) = match r with
    | .normal => 0
    | .prealarm => 1
    | .alarm => 2 := by cases r <;> rfl

theorem summaryFlags_eq (mode acknowledged : Bool) : flagMask [false, mode, acknowledged] =
    (if mode then 2 else 0) + if acknowledged then 4 else 0 := by
  cases mode <;> cases acknowledged <;> rfl

theorem presenceByte_eq (s : State) (p : PortId) : presenceByte s p = if s.role p = .unused then 0xFF
    else match s.links.ports[p].presence with
      | .absent => 0
      | .attaching => 1
      | .present => 2
      | .lost => 3 := by
  unfold presenceByte
  simp only [beq_iff_eq]
  split
  · rfl
  · cases s.links.ports[p].presence <;> rfl

/-- SUMMARY gives what the state holds (10.8). -/
theorem summaryBody_eq (s : State) : summaryBody s =
    (let level := fun (h : Option Nat) => h.elim (0xFF : Byte) byteOf
     [byteOf (regimeCode s.rge.regime), flagMask [false, s.cfs.mode, s.rge.acknowledged], level s.rge.silence,
        level s.rge.evacuateAll, level s.rge.expansionHold, level s.rge.manual]
      ++ bytes2 s.rge.changeCounter.toNat ++ [byteOf s.rge.stepCount] ++ bytes2 s.elapsed
      ++ [byteOf s.trl.entries.length, byteOf s.trl.unacknowledged] ++ bytes2 s.trl.overflow
      ++ (List.finRange 6).map (presenceByte s) ++ [level (s.rge.firstAlarms.head?.map fun f => f.val)]) := rfl

end

section
variable {p : PortId} {s t u : State}

theorem SameRows.summaryBody (h : SameRows s t) : summaryBody t = summaryBody s := by
  have hpresence : presenceByte t = presenceByte s := funext fun p => by
    have hrole : t.role p = s.role p := by rw [h.frame]; rfl
    unfold presenceByte
    rw [hrole, (h.ports p).1]
  rw [summaryBody_eq, summaryBody_eq, hpresence, h.frame]
  rfl

/-- The state that a port's own event leaves has the rows of the state in which the request is served. -/
theorem sameRows_asked {a : Answer} (h : portServed p s t) (hl : t.links = (prepare p a (s.instantAt 0) (asked p s)).links) :
    SameRows (asked p s) t where
  frame := by
    have hasked := asked_portServed p s
    unfold portServed at h hasked
    generalize asked p s = u at hasked ⊢
    rw [h, hasked]
  ports q := by
    rw [hl]
    exact prepare_port q

/-- A POLL is answered with the SUMMARY of the state that its event leaves (log entry 30). -/
theorem poll_next (p : PortId) (h : s.hears p = true) :
    ∃ t, exec (.poll p []) s = .next t ∧ portServed p s t
      ∧ t.links = (prepare p (pollAnswer t) (s.instantAt 0) (asked p s)).links
      ∧ leaves (.port p) (asked p s).deliveries [] s t := by
  have hrole : s.configFault = false → s.role p ≠ .unused := hears_role h
  have hasked := asked_portServed p s
  have hcheck : s.requestCheck p 1 [] = none := requestCheck_poll hrole
  have hcheck' : (asked p s).requestCheck p 1 [] = none := by
    rw [← hcheck]
    unfold State.requestCheck State.role
    rw [hasked]
  have hserve : serve p 1 [] (asked p s) = (asked p s, pollAnswer (asked p s)) := by
    unfold serve
    rw [hcheck']
    rfl
  have hhome : serveHome p 1 [] s = .port p := by
    unfold serveHome
    rw [hcheck]
    rfl
  obtain ⟨t, ht, hserved, hlinks, hleaves⟩ := port_request_next (i := .poll p []) rfl h (Nat.zero_le _) hhome hserve
  have hanswer : pollAnswer t = pollAnswer (asked p s) := by
    have hrows := sameRows_asked hserved hlinks
    have hfault : t.configFault = (asked p s).configFault := by rw [hrows.frame]
    unfold pollAnswer
    rw [hfault, hrows.summaryBody]
  exact ⟨t, ht, hserved, hanswer ▸ hlinks, hleaves⟩

/-! ## READ (R166) -/

/-- A READ is answered from the state in which it is served. -/
theorem read_next (p : PortId) (code first n : Byte) (h : s.hears p = true) (hc : s.configFault = false) :
    ∃ t, exec (.read p [code, first, n]) s = .next t ∧ portServed p s t
      ∧ t.links = (prepare p (readAnswer (asked p s) code first n) (s.instantAt 0) (asked p s)).links
      ∧ leaves (.port p) (asked p s).deliveries [] s t := by
  have hused := hears_role h hc
  have hcheck : s.requestCheck p 5 [code, first, n] = none := by
    unfold State.requestCheck
    rw [hc]
    cases hr : s.role p with
    | unused => exact absurd hr hused
    | commandStation | firePanel | pagingConsole | liftGroup => rfl
  have hcheck' : (asked p s).requestCheck p 5 [code, first, n] = none := by
    rw [← hcheck]
    unfold State.requestCheck State.role
    rw [asked_configFault hc, asked_cfg hc, hc]
  refine port_request_next rfl h (by simp) ?_ ?_
  · unfold serveHome
    rw [hcheck]
    rfl
  · unfold serve
    rw [hcheck']
    rfl

/-- The answer to a READ of a table (R166). -/
theorem readAnswer_of_named {code first n : Byte} {tb : ReadTable} (h : s.tableNamed code.toNat = some tb) :
    readAnswer s code first n = ⟨0x85, [code, first, byteOf (tb.count first.toNat n.toNat)]
      ++ tb.rowsFrom s first.toNat (tb.count first.toNat n.toNat)⟩ := by
  unfold readAnswer
  rw [h]

theorem readAnswer_of_unknown {code first n : Byte} (h : s.tableNamed code.toNat = none) :
    readAnswer s code first n = ⟨0xFF, [5, 5]⟩ := by
  unfold readAnswer
  rw [h]
  rfl

end

/-- Settles O50: both are events of the port alone, answered from the state that they leave. -/
theorem pollAndReadAnswerTheState : Obligations.PollAndReadAnswerTheState := by
  refine ⟨fun p s h => ?_, fun p code first n s h hc => ?_⟩
  · obtain ⟨t, ht, hserved, hlinks, hleaves⟩ := poll_next p h
    refine ⟨t, ht, hserved, fun hc => ?_, fun hc => ?_⟩
    · rw [pollAnswer_of_fault (by rw [hserved]; exact hc)] at hlinks
      rw [asked_fault hc, abandon_deliveries] at hleaves
      exact ⟨hleaves, answers_of_fault hc hlinks⟩
    · have hanswer := pollAnswer_of_running (s := t) (by rw [hserved]; exact hc)
      have hmode : t.cfs.mode = s.cfs.mode := by
        rw [hserved]
        show (abandon p s).cfs.mode = _
        rw [abandon_cfs]
      have hrge : t.rge = s.rge := by rw [hserved]
      have htrl : t.trl = s.trl := by rw [hserved]
      have helapsed : t.elapsed = s.elapsed := by rw [hserved]; rfl
      have hrole : ∀ q, t.role q = s.role q := fun q => by rw [hserved]; rfl
      rw [asked_deliveries hc] at hleaves
      refine ⟨hleaves, presenceAfter_of hc hlinks, ?_⟩
      have hanswers := answers_of hc hlinks
      rw [hanswer, summaryBody_eq, funext (presenceByte_eq t), regimeByte_eq, summaryFlags_eq, hmode, hrge, htrl,
        helapsed] at hanswers
      simp only [hrole] at hanswers
      exact hanswers
  · obtain ⟨t, ht, hserved, hlinks, hleaves⟩ := read_next p code first n h hc
    have hrows := sameRows_asked hserved hlinks
    rw [asked_deliveries hc] at hleaves
    refine ⟨t, ht, hserved, hleaves, presenceAfter_of hc hlinks, fun hcode => ?_, fun rows size hlisted => ?_⟩
    · rw [readAnswer_of_unknown (tableNamed_unknown hcode)] at hlinks
      exact answers_of hc hlinks
    · obtain ⟨tb, hnamed, rfl, rfl⟩ := tableNamed_of_listed hlisted
      have hasked : (asked p s).tableNamed code.toNat = some tb :=
        (tableNamed_congr (asked_cfg hc) (asked_tnq hc)).trans hnamed
      have hleft : t.tableNamed code.toNat = some tb :=
        (tableNamed_congr (by rw [hserved]) (by rw [hserved])).trans hnamed
      rw [readAnswer_of_named hasked, ← hrows.rowsFrom hnamed] at hlinks
      exact ⟨tb, _, hleft, rowsFrom_length hnamed t _ _, rfl, answers_of hc hlinks⟩

end Sys2Proof.Machine
end

section
/-! SUPPORT. The release queues stay in order (4.4, R74, R75): what each operation of the Door Sequencer makes of them. -/

namespace Sys2Proof.Machine

section
variable {s t : State} {g h : GroupId} {d : DoorId} {r : DoorState} {f : GroupRec → GroupRec} {e : QueueEntry}

/-! ## The invariant -/

/-- The invariant over the doors that a queue names. -/
theorem queuesInOrder_iff : queuesInOrder s ↔ ∀ g : GroupId, inClassOrder s.dsq.groups[g].queue
    ∧ (s.dsq.groups[g].queue.map (·.door)).Nodup
    ∧ ∀ d ∈ s.dsq.groups[g].queue.map (·.door), s.strikeOf g d = true ∧ s.dsq.doors[d] = .queued := by
  unfold queuesInOrder inClassOrder
  simp only [List.forall_mem_map]

theorem strikeOf_congr (hc : t.cfg = s.cfg) : t.strikeOf g d = s.strikeOf g d := by
  unfold State.strikeOf State.isStrike
  rw [hc]

/-- A strike belongs to one group. -/
theorem strikeOf_group (hg : s.strikeOf g d = true) (hh : s.strikeOf h d = true) : g = h :=
  Fin.ext (((strikeOf_iff s g d).1 hg).2.symm.trans ((strikeOf_iff s h d).1 hh).2)

/-- An entry names a QUEUED strike of its group. -/
theorem queuesInOrder.entry (hs : queuesInOrder s) (he : e ∈ s.dsq.groups[g].queue) :
    s.strikeOf g e.door = true ∧ s.dsq.doors[e.door] = .queued := by
  obtain ⟨-, -, hentries⟩ := hs g
  exact hentries e he

theorem queuesInOrder_congr (hc : t.cfg = s.cfg) (hd : t.dsq = s.dsq) (hs : queuesInOrder s) : queuesInOrder t := by
  unfold queuesInOrder
  simp only [strikeOf_congr hc, hd]
  exact hs

/-- Queues that only lose entries stay in order while their entries stay QUEUED. -/
theorem queuesInOrder.shrink (hs : queuesInOrder s) (hc : t.cfg = s.cfg)
    (hq : ∀ g : GroupId, t.dsq.groups[g].queue.Sublist s.dsq.groups[g].queue)
    (hd : ∀ g : GroupId, ∀ e ∈ t.dsq.groups[g].queue, t.dsq.doors[e.door] = .queued) : queuesInOrder t := by
  intro g
  obtain ⟨hclass, hnodup, -⟩ := hs g
  refine ⟨hclass.sublist (hq g), hnodup.sublist ((hq g).map _), fun e he => ⟨?_, hd g e he⟩⟩
  rw [strikeOf_congr hc]
  exact (hs.entry ((hq g).subset he)).1

theorem queuesInOrder_empty (hs : ∀ g : GroupId, s.dsq.groups[g].queue = []) : queuesInOrder s := by
  intro g
  rw [hs]
  exact ⟨.nil, .nil, nofun⟩

/-! ## Doors and records -/

/-- A change of doors that leaves every QUEUED strike. -/
theorem queuesInOrder_doors {v : Vector DoorState 128} (hs : queuesInOrder s)
    (hv : ∀ d : DoorId, s.dsq.doors[d] = .queued → v[d] = .queued) :
    queuesInOrder (s.withDsq { s.dsq with doors := v }) :=
  hs.shrink rfl (fun _ => .refl _) fun _ _ he => hv _ (hs.entry he).2

theorem queuesInOrder_setDoor (hs : queuesInOrder s) (hd : s.dsq.doors[d] ≠ .queued) :
    queuesInOrder (s.setDoor d r) := by
  refine queuesInOrder_doors hs fun x hx => ?_
  rw [set_fin, if_neg fun k : x = d => hd (k ▸ hx)]
  exact hx

theorem queuesInOrder_dropMagnets (fs : List FloorId) (hs : queuesInOrder s) : queuesInOrder (dropMagnets fs s) := by
  refine queuesInOrder_doors hs fun d hd => ?_
  rw [tab_fin, hd]
  simp

theorem queuesInOrder_feedbackAtDsq (l : LoopId) (b : Band) (hs : queuesInOrder s) :
    queuesInOrder (feedbackAtDsq l b s) := by
  refine queuesInOrder_doors hs fun d hd => ?_
  rw [tab_fin, hd]
  split <;> rfl

theorem queuesInOrder_mapGroup (hf : ∀ r, (f r).queue = r.queue) (hs : queuesInOrder s) :
    queuesInOrder (s.mapGroup g f) := by
  have hqueue : ∀ h : GroupId, (s.mapGroup g f).dsq.groups[h].queue = s.dsq.groups[h].queue := fun h => by
    rw [mapGroup_groups]
    split
    next hg => rw [hg, hf]
    next => rfl
  refine hs.shrink rfl (fun h => hqueue h ▸ .refl _) fun h e he => ?_
  rw [hqueue] at he
  exact (hs.entry he).2

/-! ## Takeover (R93 to R98) -/

theorem queuesInOrder_takeRequest (hs : queuesInOrder s) : queuesInOrder (takeRequest g s) := by
  unfold takeRequest
  split
  · split <;> exact queuesInOrder_mapGroup (fun _ => rfl) hs
  · split <;> exact queuesInOrder_mapGroup (fun _ => rfl) hs
  · exact hs
  · exact hs

theorem queuesInOrder_handBack (hs : queuesInOrder s) : queuesInOrder (handBack g s) :=
  queuesInOrder_mapGroup (fun _ => rfl) hs

theorem queuesInOrder_endHandover (hs : queuesInOrder s) : queuesInOrder (endHandover g s) := by
  rw [endHandover_eq]
  refine queuesInOrder_mapGroup (fun r => ?_) hs
  unfold handoverEnded
  split
  · split <;> rfl
  · rfl

theorem queuesInOrder_rampEnds (hs : queuesInOrder s) (hd : s.dsq.doors[d] ≠ .queued) :
    queuesInOrder (rampEnds d s) := by
  have hdoor := queuesInOrder_setDoor (r := s.afterRamp d) hs hd
  unfold rampEnds
  dsimp only
  split
  · exact queuesInOrder_endHandover hdoor
  · exact hdoor

/-- An accepted REGIME RESET empties every queue (R98). -/
theorem queuesInOrder_resetAtDsq (s : State) : queuesInOrder (resetAtDsq s) := by
  obtain ⟨w, hw, hrec⟩ := resetAtDsq_records s
  refine queuesInOrder_empty fun g => ?_
  rw [hw, withDsq_dsq]
  refine (congrArg GroupRec.queue (hrec g)).trans ?_
  dsimp only
  split
  case h_4 => split <;> rfl
  all_goals rfl

/-! ## Release attempts (R89, R90) -/

/-- A release takes its strike out of the one queue that names it, once (R90). -/
theorem queuesInOrder_issueRelease (hs : queuesInOrder s) (he : e ∈ s.dsq.groups[g].queue) :
    queuesInOrder (issueRelease g e s) := by
  have hgroup : ∀ h : GroupId, (issueRelease g e s).dsq.groups[h] =
      if h = g then issuedGroup (s.setDoor e.door (.ramp (s.after rampTime))) g e s.dsq.groups[g]
      else s.dsq.groups[h] := fun h => set_fin _ _ _ _
  have hdoor : ∀ d : DoorId, (issueRelease g e s).dsq.doors[d] =
      if d = e.door then .ramp (s.after rampTime) else s.dsq.doors[d] := fun d => set_fin _ _ _ _
  have hkept : ∀ h : GroupId, (issueRelease g e s).dsq.groups[h].queue.Sublist s.dsq.groups[h].queue := fun h => by
    rw [hgroup]
    split
    next hg => rw [hg]; exact List.erase_sublist
    next => exact .refl _
  refine hs.shrink rfl hkept fun h x hx => ?_
  obtain ⟨hstrike, hqueued⟩ := hs.entry ((hkept h).subset hx)
  rw [hdoor, if_neg fun hxd => ?_]
  · exact hqueued
  · obtain ⟨-, hnodup, -⟩ := hs g
    have hg : h = g := strikeOf_group (hxd ▸ hstrike) (hs.entry he).1
    subst hg
    rw [hgroup, if_pos rfl] at hx
    obtain ⟨hne, hmem⟩ := (List.Nodup.mem_erase_iff hnodup.of_map).1 hx
    exact hne (List.inj_on_of_nodup_map hnodup hmem he hxd)

theorem queuesInOrder_attempt (hs : queuesInOrder s) : queuesInOrder (attempt g s) := by
  by_cases hmay : MayAttempt s g
  · cases hf : s.fitting g with
    | some e =>
      rw [attempt_issues hmay hf]
      exact queuesInOrder_issueRelease hs (List.mem_of_find?_eq_some hf)
    | none =>
      rw [attempt_limits hmay hf]
      exact queuesInOrder_congr (s := s.mapGroup g fun r => { r with limited := true }) rfl rfl
        (queuesInOrder_mapGroup (fun _ => rfl) hs)
  · rw [attempt_stays hmay]
    exact hs

theorem queuesInOrder_attemptsAfter (before : State) (hs : queuesInOrder s) : queuesInOrder (attemptsAfter before s) :=
  foldl_keeps (fun s t => queuesInOrder s → queuesInOrder t) (fun _ => id) (fun _ _ _ h k => k ∘ h) _ (fun s g hs => by
    unfold attemptIfAppended
    split
    · exact queuesInOrder_attempt hs
    · exact hs) _ s hs

theorem queuesInOrder_pacingExpires (hs : queuesInOrder s) : queuesInOrder (pacingExpires g s) := by
  rw [pacingExpires_eq]
  exact queuesInOrder_attempt (queuesInOrder_mapGroup pacingExpired_keepsSupply.queue hs)

/-! ## New entries and promotion (R74, R75) -/

theorem newEntries_nodup (s : State) (names : DoorId → Bool) (g : GroupId) :
    ((newEntries s names g).map (·.door)).Nodup := by
  have hdoors : (newEntries s names g).map (·.door) =
      (List.finRange 128).filter fun d => s.strikeOf g d && s.queueable names d := by
    unfold newEntries
    rw [List.map_map]
    exact List.map_id _
  rw [hdoors]
  exact (List.nodup_finRange 128).filter _

/-- The new entries name SECURED strikes, so none that a queue names already (R74). -/
theorem queuesInOrder_queueStrikes (names : DoorId → Bool) (hs : queuesInOrder s) :
    queuesInOrder (queueStrikes names s) := by
  rw [queuesInOrder_iff] at hs ⊢
  intro g
  obtain ⟨hclass, hnodup, hentries⟩ := hs g
  have hqueue : (queueStrikes names s).dsq.groups[g].queue =
      (newEntries s names g).foldl insertEntry s.dsq.groups[g].queue := congrArg GroupRec.queue (tab_fin _ g)
  have hdoor : ∀ d : DoorId, (queueStrikes names s).dsq.doors[d] =
      if s.queueable names d then .queued else s.dsq.doors[d] := fun d => tab_fin _ d
  have hperm := (insertEntries_perm (newEntries s names g) s.dsq.groups[g].queue).map (·.door)
  have hnew : ∀ d ∈ (newEntries s names g).map (·.door),
      s.strikeOf g d = true ∧ s.dsq.doors[d] = .secured ∧ s.queueable names d = true := by
    refine List.forall_mem_map.2 fun e he => ?_
    obtain ⟨hstrike, hsecured, hnamed, -⟩ := mem_newEntries.1 he
    exact ⟨hstrike, hsecured, queueable_iff.2 ⟨((strikeOf_iff s g e.door).1 hstrike).1, hnamed, hsecured⟩⟩
  rw [hqueue]
  rw [List.map_append] at hperm
  refine ⟨insertEntries_inClassOrder hclass, hperm.nodup_iff.2 (List.nodup_append'.2 ⟨newEntries_nodup s names g, hnodup,
    fun d hd hold => ?_⟩), fun d hd => ?_⟩
  · obtain ⟨-, hsecured, -⟩ := hnew d hd
    obtain ⟨-, hqueued⟩ := hentries d hold
    rw [hqueued] at hsecured
    cases hsecured
  · rw [hdoor, strikeOf_congr (t := queueStrikes names s) (withDsq_cfg s _)]
    obtain hd | hd := List.mem_append.1 (hperm.subset hd)
    · obtain ⟨hstrike, -, hqueued⟩ := hnew d hd
      exact ⟨hstrike, if_pos hqueued⟩
    · obtain ⟨hstrike, hqueued⟩ := hentries d hd
      exact ⟨hstrike, by rw [hqueued, ite_self]⟩

theorem queuesInOrder_promote (floors : List FloorId) (hs : queuesInOrder s) : queuesInOrder (promote floors s) := by
  rw [queuesInOrder_iff] at hs ⊢
  intro g
  obtain ⟨hclass, hnodup, hentries⟩ := hs g
  have hperm := promoteQueue_doors floors s s.dsq.groups[g].queue
  rw [promote_group, promote_doors]
  exact ⟨promoteQueue_inClassOrder hclass, hperm.nodup_iff.2 hnodup, fun d hd => hentries d (hperm.subset hd)⟩

theorem queuesInOrder_phaseChangeAtDsq (fs : List (FloorId × Phase)) (hs : queuesInOrder s) :
    queuesInOrder (phaseChangeAtDsq fs s) := by
  unfold phaseChangeAtDsq
  split
  · exact queuesInOrder_attemptsAfter s (queuesInOrder_promote _
      (queuesInOrder_queueStrikes _ (queuesInOrder_dropMagnets _ hs)))
  · exact hs

theorem queuesInOrder_releaseAllDoors (hs : queuesInOrder s) : queuesInOrder (cmdReleaseAllDoors s).1 := by
  unfold cmdReleaseAllDoors
  split
  · dsimp only
    exact queuesInOrder_attemptsAfter s (queuesInOrder_queueStrikes _ hs)
  · exact hs

end

end Sys2Proof.Machine
end

section
/-! SUPPORT. The trouble list and the tenant queue stay within their capacities (R139, R141, R147). -/

namespace Sys2Proof.Machine

section
variable {s t : State} {k : TroubleKind} {n : Nat} {e : TenantEntry}

/-! ## The trouble list (R147) -/

theorem troublesFit_congr (h : t.trl = s.trl) (hs : troublesFit s) : troublesFit t := by
  unfold troublesFit
  rw [h]
  exact hs

/-- A list whose kinds and subjects are some of those that stood. -/
theorem troublesFit_of_sublist (hs : troublesFit s)
    (h : (t.trl.entries.map fun e => (e.kind, e.subject)).Sublist (s.trl.entries.map fun e => (e.kind, e.subject))) :
    troublesFit t := by
  have hlen := h.length_le
  rw [List.length_map, List.length_map] at hlen
  exact ⟨hlen.trans hs.1, hs.2.sublist h⟩

theorem troublesFit_of_named (hs : troublesFit s)
    (h : (t.trl.entries.map fun e => (e.kind, e.subject)) = s.trl.entries.map fun e => (e.kind, e.subject)) :
    troublesFit t := troublesFit_of_sublist hs (h ▸ .refl _)

/-- Entries that keep their kinds and subjects. -/
theorem map_named (xs : List TroubleEntry) {f : TroubleEntry → TroubleEntry}
    (hf : ∀ e, ((f e).kind, (f e).subject) = (e.kind, e.subject)) :
    ((xs.map f).map fun e => (e.kind, e.subject)) = xs.map fun e => (e.kind, e.subject) := by
  rw [List.map_map]
  exact List.map_congr_left fun e _ => hf e

theorem troublesFit_raised (k : TroubleKind) (n : Nat) (hs : troublesFit s) : troublesFit (troubleRaised k n s) := by
  have htrl := troubleRaised_trl k n s
  split at htrl
  next =>
    refine troublesFit_of_named hs ?_
    rw [htrl]
    exact map_named _ fun e => by split <;> rfl
  next hany =>
    have hfree : ∀ e ∈ s.trl.entries, (e.kind, e.subject) ≠ (k, n) := fun e he hn =>
      hany (List.any_eq_true.2 ⟨e, he, names_iff.2 hn⟩)
    split at htrl
    next hlen =>
      unfold troublesFit
      rw [htrl]
      dsimp only
      rw [List.length_append, List.map_append]
      refine ⟨hlen, List.nodup_append'.2 ⟨hs.2, List.nodup_singleton _, fun x hx hnew => ?_⟩⟩
      obtain ⟨e, he, rfl⟩ := List.mem_map.1 hx
      exact hfree e he (List.mem_singleton.1 hnew)
    next => exact troublesFit_of_named hs (by rw [htrl])

theorem troublesFit_cleared (k : TroubleKind) (n : Nat) (hs : troublesFit s) : troublesFit (troubleCleared k n s) := by
  unfold troubleCleared
  split
  · exact hs
  · split
    · exact troublesFit_of_named hs (map_named _ fun e => by split <;> rfl)
    · exact troublesFit_of_sublist hs (List.filter_sublist.map _)

theorem troublesFit_acknowledged (hs : troublesFit s) : troublesFit (acknowledgeAll s) := by
  refine troublesFit_of_sublist hs ?_
  have hnamed := map_named (s.trl.entries.filter fun e => !removedByAck e)
    (f := fun e => { e with acknowledged := true }) fun _ => rfl
  exact hnamed ▸ List.filter_sublist.map _

/-! ## The tenant queue (8.1) -/

theorem tenantsFit_of_le (h : t.tnq.queue.length ≤ s.tnq.queue.length) (hs : tenantsFit s) : tenantsFit t := h.trans hs

/-- An admission scan takes entries out of the queue alone (R140). -/
theorem tenantsFit_admissionScan (hs : tenantsFit s) : tenantsFit (admissionScan s) := by
  refine tenantsFit_of_le ?_ hs
  rw [admissionScan_startAll fun _ => rfl, startAll_eq]
  exact List.length_filter_le _ _

/-- A request that finds the queue full is refused (R139). -/
theorem tenantsFit_announceTenant (q : Nat) (zs : List SpeakerId) (hs : tenantsFit s) :
    tenantsFit (cmdAnnounceTenant q zs s).1 := by
  unfold cmdAnnounceTenant
  dsimp only
  split
  · exact hs
  · split
    · exact hs
    · split
      · exact hs
      · rename_i hfull
        refine tenantsFit_admissionScan ?_
        unfold tenantsFit
        rw [withTnq_tnq, List.length_append]
        exact Nat.lt_of_not_le hfull

theorem tenantsFit_announceCancel (k : Nat) (hs : tenantsFit s) : tenantsFit (cmdAnnounceCancel k s).1 := by
  unfold cmdAnnounceCancel
  split
  · exact tenantsFit_of_le (List.length_filter_le _ _) hs
  · split
    · exact tenantsFit_admissionScan (s := endPlaying _ s) hs
    · exact hs

theorem tenantsFit_ageEntry (k : Nat) (hs : tenantsFit s) : tenantsFit (ageEntry k s) :=
  tenantsFit_of_le (List.length_filter_le _ _) hs

theorem requeue_length (e : TenantEntry) (q : List TenantEntry) : (requeue e q).length = q.length + 1 := by
  unfold requeue
  rw [List.length_append, List.length_cons, ← Nat.add_assoc, ← List.length_append, List.takeWhile_append_dropWhile]

/-- A refused entry that finds the queue full is dropped (R141). -/
theorem tenantsFit_refused (e : TenantEntry) (hs : tenantsFit s) : tenantsFit (refused e s) := by
  unfold refused
  dsimp only
  split
  · exact hs
  · rename_i hfull
    have hback : ∀ x : TenantEntry, tenantsFit ((endPlaying e s).withTnq
        { (endPlaying e s).tnq with queue := requeue x (endPlaying e s).tnq.queue }) := fun x => by
      unfold tenantsFit
      rw [withTnq_tnq, requeue_length]
      exact Nat.lt_of_not_le hfull
    split
    · exact tenantsFit_ageEntry _ (hback _)
    · exact hback _

theorem tenantsFit_onPlaying (k : Nat) {f : TenantEntry → State → State}
    (hf : ∀ e s, tenantsFit s → tenantsFit (f e s)) (hs : tenantsFit s) : tenantsFit (onPlaying k f s) := by
  unfold onPlaying
  split
  · exact hf _ s hs
  · exact hs

theorem tenantsFit_completed (e : TenantEntry) (s : State) (hs : tenantsFit s) : tenantsFit (completed e s) :=
  tenantsFit_admissionScan (s := endPlaying e s) hs

theorem tenantsFit_cutShort (e : TenantEntry) (s : State) (hs : tenantsFit s) : tenantsFit (cutShort e s) :=
  tenantsFit_admissionScan (s := addCut 1 (endPlaying e s)) hs

theorem tenantsFit_flush (s : State) : tenantsFit (flush s) := Nat.zero_le 12

end

end Sys2Proof.Machine
end

section
/-! PROOF. Every step keeps the trouble list and the tenant queue within their capacities and the release queues in order (4.4,
R74, R75, R139, R141, R147): requests, starts, and each command. -/

namespace Sys2Proof.Machine

/-! ## The invariant and what leaves it -/

/-- The trouble list, the tenant queue and the release queues are sound. -/
structure ListsFit (s : State) : Prop where
  troubles : troublesFit s
  tenants : tenantsFit s
  queues : queuesInOrder s

/-- The lists, and what gives them their meaning, are as they were. -/
structure SameLists (s t : State) : Prop where
  cfg : t.cfg = s.cfg
  dsq : t.dsq = s.dsq
  tnq : t.tnq = s.tnq
  trl : t.trl = s.trl

section
variable {s t u : State}

theorem SameLists.refl (s : State) : SameLists s s := ⟨rfl, rfl, rfl, rfl⟩

theorem SameLists.trans (h : SameLists s t) (k : SameLists t u) : SameLists s u :=
  ⟨k.cfg.trans h.cfg, k.dsq.trans h.dsq, k.tnq.trans h.tnq, k.trl.trans h.trl⟩

theorem SameLists.fit (h : SameLists s t) (hs : ListsFit s) : ListsFit t where
  troubles := troublesFit_congr h.trl hs.troubles
  tenants := tenantsFit_of_le (by rw [h.tnq]) hs.tenants
  queues := queuesInOrder_congr h.cfg h.dsq hs.queues

theorem lscOnly.lists (h : lscOnly s t) : SameLists s t := by rw [lscOnly] at h; rw [h]; exact ⟨rfl, rfl, rfl, rfl⟩
theorem rgeOnly.lists (h : rgeOnly s t) : SameLists s t := by rw [rgeOnly] at h; rw [h]; exact ⟨rfl, rfl, rfl, rfl⟩
theorem lfcOnly.lists (h : lfcOnly s t) : SameLists s t := by rw [lfcOnly] at h; rw [h]; exact ⟨rfl, rfl, rfl, rfl⟩
theorem chrOnly.lists (h : chrOnly s t) : SameLists s t := by rw [chrOnly] at h; rw [h]; exact ⟨rfl, rfl, rfl, rfl⟩
theorem cfsOnly.lists (h : cfsOnly s t) : SameLists s t := by rw [cfsOnly] at h; rw [h]; exact ⟨rfl, rfl, rfl, rfl⟩
theorem linksOnly.lists (h : linksOnly s t) : SameLists s t := by rw [linksOnly] at h; rw [h]; exact ⟨rfl, rfl, rfl, rfl⟩

theorem deliver_lists (s : State) (es : List Instr) : SameLists s (s.deliver es) := ⟨rfl, rfl, rfl, rfl⟩

theorem taken_lists (s : State) (e : Instr) : SameLists s (s.taken e) := ⟨rfl, rfl, rfl, rfl⟩

theorem countChange_lists (a : Agent) (s t : State) : SameLists t (countChange a s t) := ⟨rfl, rfl, rfl, rfl⟩

/-- A change of DSQ alone keeps the lists when it keeps the queues in order. -/
theorem ListsFit.of_dsqOnly (hs : ListsFit s) (h : dsqOnly s t) (hq : queuesInOrder t) : ListsFit t where
  troubles := troublesFit_congr (by rw [h]) hs.troubles
  tenants := tenantsFit_of_le (by rw [h]) hs.tenants
  queues := hq

/-- A change of TNQ alone keeps the lists when it keeps the tenant queue within its capacity. -/
theorem ListsFit.of_tnqOnly (hs : ListsFit s) (h : tnqOnly s t) (hq : tenantsFit t) : ListsFit t where
  troubles := troublesFit_congr (by rw [h]) hs.troubles
  tenants := hq
  queues := queuesInOrder_congr (by rw [h]) (by rw [h]) hs.queues

/-- A change of TRL alone keeps the lists when it keeps the trouble list. -/
theorem ListsFit.of_trlOnly (hs : ListsFit s) (h : trlOnly s t) (hq : troublesFit t) : ListsFit t where
  troubles := hq
  tenants := tenantsFit_of_le (by rw [h]) hs.tenants
  queues := queuesInOrder_congr (by rw [h]) (by rw [h]) hs.queues

end

/-! ## Operations that keep the lists -/

/-- An operation keeps the lists. -/
def KeepsLists (f : State → State) : Prop := ∀ s : State, ListsFit s → ListsFit (f s)

section
variable {f g : State → State} {s : State}

theorem KeepsLists.of_same (h : ∀ s, SameLists s (f s)) : KeepsLists f := fun s => (h s).fit

theorem KeepsLists.id : KeepsLists fun s => s := fun _ h => h

theorem KeepsLists.event (h : KeepsLists f) (a : Agent) : KeepsLists (event a f) := fun s hs =>
  (countChange_lists a s (f s)).fit (h s hs)

theorem KeepsLists.onDelivery (h : KeepsLists f) (e : Instr) : KeepsLists (onDelivery e f) := fun s hs =>
  onDelivery_keeps (fun s t => ListsFit s → ListsFit t) (fun h => h) (fun hs => h _ ((taken_lists s e).fit hs)) hs

theorem KeepsLists.ite {c : State → Bool} (hf : KeepsLists f) (hg : KeepsLists g) :
    KeepsLists fun s => if c s then f s else g s := by
  intro s hs
  dsimp only
  split
  · exact hf s hs
  · exact hg s hs

theorem KeepsLists.ifDue {c : State → Bool} (h : KeepsLists f) : KeepsLists fun s => if c s then f s else s := h.ite .id

theorem KeepsLists.rge (h : ∀ s, rgeOnly s (f s)) : KeepsLists (rgeEvent f) :=
  KeepsLists.event (.of_same fun s => (rgeChange_rgeOnly s f (h s)).lists) .rge
theorem KeepsLists.lfc (h : ∀ s, lfcOnly s (f s)) : KeepsLists (Machine.event .lfc f) :=
  KeepsLists.event (.of_same fun s => (h s).lists) .lfc
theorem KeepsLists.cue (h : ∀ s, chrOnly s (f s)) : KeepsLists (cueEvent f) :=
  KeepsLists.event (.of_same fun s => (cueChange_chrOnly s f (h s)).lists) .cue
theorem KeepsLists.chr (h : ∀ s, chrOnly s (f s)) : KeepsLists (chrEvent f) :=
  KeepsLists.event (.of_same fun s => (chrChange_chrOnly s f (h s)).lists) .chr
theorem KeepsLists.cfs (h : ∀ s, cfsOnly s (f s)) : KeepsLists (Machine.event .cfs f) :=
  KeepsLists.event (.of_same fun s => (h s).lists) .cfs
theorem KeepsLists.tnq (h : ∀ s, tnqOnly s (f s)) (hq : ∀ s, tenantsFit s → tenantsFit (f s)) :
    KeepsLists (Machine.event .tnq f) := KeepsLists.event (fun s hs => hs.of_tnqOnly (h s) (hq s hs.tenants)) .tnq
theorem KeepsLists.trl (h : ∀ s, trlOnly s (f s)) (hq : ∀ s, troublesFit s → troublesFit (f s)) :
    KeepsLists (Machine.event .trl f) := KeepsLists.event (fun s hs => hs.of_trlOnly (h s) (hq s hs.troubles)) .trl

/-- An event of DSQ in one state. -/
theorem ListsFit.dsqEvent (hs : ListsFit s) (h : dsqOnly s (f s)) (hq : queuesInOrder (f s)) :
    ListsFit (dsqEvent f s) :=
  ((deliver_lists (f s) _).trans (countChange_lists .dsq s (dsqChange f s))).fit (hs.of_dsqOnly h hq)

theorem KeepsLists.dsq (h : ∀ s, dsqOnly s (f s)) (hq : ∀ s, queuesInOrder s → queuesInOrder (f s)) :
    KeepsLists (dsqEvent f) := fun s hs => hs.dsqEvent (h s) (hq s hs.queues)

/-- An event of DSQ that happens when a timer of a door point is due, which no QUEUED strike has. -/
theorem KeepsLists.doorDue {d : DoorId} {timer : DoorState → Option Nat} (ht : timer .queued = none)
    (h : ∀ s, dsqOnly s (f s)) (hq : ∀ s, queuesInOrder s → s.dsq.doors[d] ≠ .queued → queuesInOrder (f s)) :
    KeepsLists fun s => if s.due (timer s.dsq.doors[d]) then Machine.dsqEvent f s else s := by
  intro s hs
  dsimp only
  split
  next hdue =>
    refine hs.dsqEvent (h s) (hq s hs.queues fun hqueued => ?_)
    rw [hqueued, ht] at hdue
    cases hdue
  next => exact hs

end

/-! ## Requests (R161, R164, R165) -/

/-- Every command keeps the lists, by the block that decides it. -/
theorem decideCommand_lists (p : PortId) (code : Nat) (args : List Byte) :
    KeepsLists fun s => (decideCommand p code args s).1 := by
  intro s hs
  have hrge : ∀ {t}, rgeOnly s t → ListsFit t := fun h => h.lists.fit hs
  have hlfc : ∀ {t}, lfcOnly s t → ListsFit t := fun h => h.lists.fit hs
  dsimp only
  unfold decideCommand
  dsimp only
  split
  next => exact hrge (cmdAcknowledge_rgeOnly s)
  next => exact hrge (cmdSilence_rgeOnly s _)
  next => exact hrge (cmdResound_rgeOnly s _)
  next => exact hrge (cmdRegimeReset_rgeOnly s _)
  next => exact hrge (cmdEvacuateAll_rgeOnly s _)
  next => exact hrge (cmdCancelEvacuateAll_rgeOnly s _)
  next => exact hrge (cmdHoldExpansion_rgeOnly s _)
  next => exact hrge (cmdReleaseExpansion_rgeOnly s _)
  next => exact hrge (cmdIsolateZone_rgeOnly s _ _)
  next => exact hrge (cmdRestoreZone_rgeOnly s _ _)
  next => exact hrge (cmdTakeManualControl_rgeOnly s)
  next => exact hrge (cmdSetFloorPhase_rgeOnly s _ _)
  next => exact hrge (cmdReturnToAutomatic_rgeOnly s _)
  next => exact hlfc (cmdRecallBank_lfcOnly s _)
  next => exact hlfc (cmdCancelRecall_lfcOnly s _)
  next => exact hlfc (cmdAuthorisePhaseII_lfcOnly s _)
  next => exact hlfc (cmdWithdrawPhaseII_lfcOnly s _)
  next => exact hs.of_dsqOnly (cmdReleaseAllDoors_dsqOnly s) (queuesInOrder_releaseAllDoors hs.queues)
  next => exact (cmdMonitorSelect_chrOnly s _ _).lists.fit hs
  next => exact hs

theorem serveCommand_lists (p : PortId) (code : Byte) (args : List Byte) :
    KeepsLists fun s => (serveCommand p code args s).1 := by
  intro s hs
  dsimp only
  unfold serveCommand
  split
  · exact hs
  · split
    · exact hs
    · exact decideCommand_lists p _ args s hs

theorem serveAnnounce_lists (p : PortId) (sub : Byte) (args : List Byte) :
    KeepsLists fun s => (serveAnnounce p sub args s).1 := by
  intro s hs
  dsimp only
  unfold serveAnnounce
  split
  · exact hs.of_tnqOnly (cmdAnnounceTenant_tnqOnly s _ _) (tenantsFit_announceTenant _ _ hs.tenants)
  · exact hs.of_tnqOnly (cmdAnnounceCancel_tnqOnly s _) (tenantsFit_announceCancel _ hs.tenants)
  · split
    · exact (cmdLiveStart_chrOnly s _ _).lists.fit hs
    · exact hs
  · split
    · exact (cmdLiveStop_chrOnly s _).lists.fit hs
    · exact hs
  · exact hs

theorem serve_lists (p : PortId) (kind : Byte) (body : List Byte) : KeepsLists fun s => (serve p kind body s).1 := by
  intro s hs
  dsimp only
  unfold serve
  split
  · exact hs
  · unfold serveKind
    split
    next => exact hs
    next => exact (zoneReportTaken_rgeOnly s p _).lists.fit hs
    next => exact serveCommand_lists p _ _ s hs
    next =>
      unfold serveCarReport
      split
      · exact (carReportTaken_lfcOnly s _ _).lists.fit hs
      · exact hs
    next => exact hs
    next => exact serveAnnounce_lists p _ _ s hs
    next => exact (configure_cfsOnly s p _ _).lists.fit hs

theorem beforeService_lists (p : PortId) (home : Agent) (s : State) : SameLists s (beforeService p home s) := by
  have hpresence := (presenceOnFrame_linksOnly s p).lists
  unfold beforeService
  split
  · refine hpresence.trans ?_
    unfold takeOwnPresence
    split
    · exact (taken_lists _ _).trans (presenceAtLfc_lfcOnly _ _ _).lists
    · exact .refl _
  · exact hpresence

theorem serveFrame_lists (p : PortId) (home : Agent) (kind : Byte) (body : List Byte) (at_ : Nat) :
    KeepsLists (serveFrame p home kind body at_) := fun s hs =>
  (prepare_linksOnly _ p _ at_).lists.fit (serve_lists p kind body _ ((beforeService_lists p home s).fit hs))

/-- A block that takes an earlier delivery of a port. -/
theorem takePortDelivery_lists (s : State) (e : Instr) : ListsFit s → ListsFit (takePortDelivery s e) := by
  unfold takePortDelivery
  split
  · exact KeepsLists.onDelivery (.rge fun s => panelLost_rgeOnly s _) _ s
  · exact KeepsLists.onDelivery (.rge commandStationLost_rgeOnly) _ s
  · exact KeepsLists.onDelivery (.of_same (f := counterIncreased) fun s => (withRge_rgeOnly s _).lists) _ s
  · exact KeepsLists.onDelivery (.lfc fun s => presenceAtLfc_lfcOnly s _ _) _ s
  · exact KeepsLists.onDelivery (.chr fun s => portLostAtChr_chrOnly s _) _ s
  · exact fun h => h

theorem takeEarlier_lists (p : PortId) (home : Agent) : KeepsLists (takeEarlier p home) := fun s =>
  foldl_keeps (fun s t => ListsFit s → ListsFit t) (fun _ h => h) (fun _ _ _ h k => k ∘ h) _ takePortDelivery_lists _ s

/-- What a block does at the end of its events leaves the lists. -/
theorem blockChange_lists (home : Agent) (f : State → State) (s : State) : SameLists (f s) (blockChange home f s) := by
  cases home with
  | rge => exact (((recountFloors_rgeOnly _).trans (settleRegime_rgeOnly _)).trans (deliver_rgeOnly _ _)).lists
  | dsq => exact deliver_lists _ _
  | chr =>
    exact (((kickPort_chrOnly (f s)).trans (remonitorIfMoved_chrOnly s (kickPort (f s)))).trans (deliver_chrOnly _ _)).lists
  | lsc | lfc | cue | tnq | trl | cfs | port => exact .refl _

theorem takeFrame_lists (p : PortId) (kind : Byte) (body : List Byte) (at_ : Nat) :
    KeepsLists (takeFrame p kind body at_) := fun s hs =>
  KeepsLists.event (fun u hu => (blockChange_lists _ _ u).fit (serveFrame_lists p _ kind body at_ u hu)) _ _
    (takeEarlier_lists p _ s hs)

theorem mapPort_lists (p : PortId) (f : PortRec → PortRec) (s : State) : SameLists s (s.mapPort p f) :=
  (setPort_linksOnly s p _).lists

theorem receiveErrors_lists (p : PortId) (es : List ReceiveErrorKind) : KeepsLists (receiveErrors p es) :=
  KeepsLists.event (.of_same fun s => (receiveFails_linksOnly s p es).lists) _

theorem frameArrives_lists (p : PortId) (kind : Byte) (body : List Byte) : KeepsLists (frameArrives p kind body) := by
  intro s hs
  unfold frameArrives
  split
  · split
    · exact takeFrame_lists p kind body _ _ ((abandon_linksOnly s p).lists.fit hs)
    · exact receiveErrors_lists p _ _ ((mapPort_lists p _ s).fit hs)
  · exact hs

theorem hearCharacter_lists (p : PortId) (b : Heard) : KeepsLists (hearCharacter p b) := by
  intro s hs
  have hu : ListsFit (lineIdle p (s.instantAt b.us) s) := (mapPort_lists p _ s).fit hs
  unfold hearCharacter
  dsimp only
  generalize lineIdle p (s.instantAt b.us) s = u at hu
  unfold received
  split
  · exact receiveErrors_lists p _ u hu
  · exact (addressTaken_linksOnly u p _).lists.fit hu
  · exact (frameStarted_linksOnly u p _).lists.fit hu
  · exact (mapPort_lists p _ u).fit hu
  · exact takeFrame_lists p _ _ _ u hu
  · exact (mapPort_lists p _ u).fit hu
  · exact hu

theorem graceEnds_lists (s : State) : SameLists s (graceEnds s) := by
  obtain ⟨_, hmade⟩ := graceEnds_loses s
  rw [hmade.frame]
  exact ⟨rfl, rfl, rfl, rfl⟩

/-! ## Starts (R84, R100, R146, R170, R175) -/

theorem readLines_lists : KeepsLists readLines := by
  refine KeepsLists.dsq (fun s => ?_) fun s => ?_
  · refine foldl_keeps dsqOnly (fun _ => rfl) (fun _ _ _ => dsqOnly.trans) readLine (fun s g => ?_) _ s
    unfold readLine
    dsimp only
    split
    · exact takeRequest_dsqOnly s g
    · split
      · exact handBack_dsqOnly s g
      · exact dsqOnly.refl s
  · refine foldl_keeps (fun s t => queuesInOrder s → queuesInOrder t) (fun _ h => h) (fun _ _ _ h k => k ∘ h) readLine
      (fun s g hs => ?_) _ s
    unfold readLine
    dsimp only
    split
    · exact queuesInOrder_takeRequest hs
    · split
      · exact queuesInOrder_handBack hs
      · exact hs

/-- A cold start leaves every list empty. -/
theorem ListsFit.cold {s t : State} (htrl : t.trl = State.reset.trl) (htnq : t.tnq = State.reset.tnq)
    (hgroup : ∀ g : GroupId, t.dsq.groups[g] = coldGroup s.dsq.groups[g]) : ListsFit t where
  troubles := by
    unfold troublesFit
    rw [htrl]
    exact ⟨Nat.zero_le _, .nil⟩
  tenants := by
    unfold tenantsFit
    rw [htnq]
    exact Nat.zero_le _
  queues := queuesInOrder_empty fun g => by rw [hgroup]; rfl

theorem coldStart_lists (out : Outputs) (eeprom image : Option Image) (s : State) :
    ListsFit (coldStart out eeprom image s) := by
  have hgroup : ∀ (c : Configuration) (u : State) (g : GroupId),
      (coldValues c u).dsq.groups[g] = coldGroup u.dsq.groups[g] := fun c u g => tab_fin _ g
  have hfault : ∀ e u, ListsFit (enterConfigFault e u) := fun e u => .cold rfl rfl (hgroup Configuration.blank u)
  unfold coldStart
  dsimp only
  split
  · split
    · exact readLines_lists _ (.cold rfl rfl (hgroup _ _))
    · exact hfault _ _
  · exact hfault _ _

/-- A warm restart keeps the trouble list and the release queues, whose strikes stay QUEUED, and empties the tenant queue. -/
theorem warmValues_lists : KeepsLists warmValues := by
  intro s hs
  have hcfg : (warmValues s).cfg = s.cfg := by unfold warmValues; rfl
  have hdsq : (warmValues s).dsq = warmDsq s := by unfold warmValues; rfl
  have hgroup : ∀ g : GroupId, (warmDsq s).groups[g].queue = s.dsq.groups[g].queue := fun g => by
    unfold warmDsq
    rw [tab_fin]
    rfl
  have hdoor : ∀ d : DoorId, s.dsq.doors[d] = .queued → (warmDsq s).doors[d] = .queued := fun d hd => by
    unfold warmDsq
    rw [tab_fin, hd]
    rfl
  refine ⟨troublesFit_congr (by unfold warmValues; rfl) hs.troubles, Nat.zero_le _,
    hs.queues.shrink hcfg (fun g => ?_) fun g e he => ?_⟩
  · rw [hdsq, hgroup]
  · rw [hdsq, hgroup] at he
    rw [hdsq]
    exact hdoor _ (hs.queues.entry he).2

theorem restarted_lists : KeepsLists restarted := by
  intro s hs
  have hwarm : ListsFit (warmValues (showing s.outputs s)) :=
    warmValues_lists _ (SameLists.fit (s := s) ⟨rfl, rfl, rfl, rfl⟩ hs)
  have hu := (startExpansion_rgeOnly (warmValues (showing s.outputs s))).lists.fit hwarm
  unfold restarted
  generalize startExpansion (warmValues (showing s.outputs s)) = u at hu
  have hp : SameLists u (warmProgrammes u) := ((recomputeFire_chrOnly u _).trans (deliver_chrOnly _ _)).lists
  exact readLines_lists _ ((hp.trans (remonitor_chrOnly _).lists).fit hu)

/-! ## Every command -/

/-- A command keeps the lists. -/
def CommandKeepsLists (i : Instr) : Prop := ∀ s t : State, exec i s = .next t → ListsFit s → ListsFit t

theorem KeepsLists.command {i : Instr} {f : State → State} (h : KeepsLists f) (he : ∀ s, exec i s = .next (f s)) :
    CommandKeepsLists i := by
  intro s t ht hs
  rw [he] at ht
  cases ht
  exact h s hs

/-- A request is a whole frame at its port. -/
theorem request_keepsLists {i : Instr} {p : PortId} {kind : Byte} {body : List Byte}
    (h : frameOf i = some (p, kind, body)) : CommandKeepsLists i :=
  (frameArrives_lists p kind body).command fun _ => exec_request h

/-- The commands keep the lists, each by what its block does to them. -/
theorem exec_keepsLists (i : Instr) : CommandKeepsLists i := by
  cases i with
  -- Loop Scanner
  | scanStart => exact KeepsLists.command (.ifDue (.of_same fun s => (withLsc_lscOnly s _).lists)) fun _ => rfl
  | loopConversion l n =>
    exact KeepsLists.command
      (.ifDue (.event (.of_same fun s => (withLsc_lscOnly s _).lists.trans (deliver_lists _ _)) .lsc)) fun _ => rfl
  -- Regime Engine
  | zoneConditionArrival z c =>
    exact KeepsLists.command (.onDelivery (.rge fun s => by
      split
      · exact arrive_rgeOnly s z c
      · exact rgeOnly.refl s) _) fun _ => rfl
  | verificationTimerExpiry z => exact KeepsLists.command (.ifDue (.rge fun s => enterZoneAlarm_rgeOnly s z)) fun _ => rfl
  | expansionTimerExpiry => exact KeepsLists.command (.ifDue (.rge expand_rgeOnly)) fun _ => rfl
  | rgePanelLoss p => exact KeepsLists.command (.onDelivery (.rge fun s => panelLost_rgeOnly s p) _) fun _ => rfl
  | rgeCommandStationLoss p => exact KeepsLists.command (.onDelivery (.rge commandStationLost_rgeOnly) _) fun _ => rfl
  | changeCounterIncrease a =>
    exact KeepsLists.command (.onDelivery (.of_same fun s => (withRge_rgeOnly s _).lists) _) fun _ => rfl
  | reentryImpairedWrite f v => exact KeepsLists.command (.onDelivery (.rge fun s => withRge_rgeOnly s _) _) fun _ => rfl
  | verifyBypassedRemoval z => exact KeepsLists.command (.onDelivery (.rge fun s => setZone_rgeOnly s z _) _) fun _ => rfl
  -- Lift Coordinator
  | lfcZoneAlarm z => exact KeepsLists.command (.onDelivery (.lfc fun s => zoneAlarmAtLfc_lfcOnly s z) _) fun _ => rfl
  | lfcAlarmEntry => exact KeepsLists.command (.onDelivery (.lfc alarmEntryAtLfc_lfcOnly) _) fun _ => rfl
  | lfcRegimeReset => exact KeepsLists.command (.onDelivery (.lfc resetAtLfc_lfcOnly) _) fun _ => rfl
  | lfcPresenceChange p q => exact KeepsLists.command (.onDelivery (.lfc fun s => presenceAtLfc_lfcOnly s p q) _) fun _ => rfl
  | shutdownTimerExpiry b => exact KeepsLists.command (.ifDue (.lfc fun s => shutdownExpires_lfcOnly s b)) fun _ => rfl
  | lampHalfCycle b => exact KeepsLists.command (.ifDue (.of_same fun s => (lampToggles_lfcOnly s b).lists)) fun _ => rfl
  -- Door Sequencer
  | dsqPhaseChange fs =>
    exact KeepsLists.command (.onDelivery (.dsq (fun s => phaseChangeAtDsq_dsqOnly s fs)
      fun s => queuesInOrder_phaseChangeAtDsq fs) _) fun _ => rfl
  | dsqListAppend f =>
    refine KeepsLists.command (.onDelivery (.dsq (fun s => ?_) fun s hs => ?_) _) fun _ => rfl
    · split
      · exact promote_dsqOnly s _
      · exact dsqOnly.refl s
    · split
      · exact queuesInOrder_promote _ hs
      · exact hs
  | dsqRegimeReset =>
    exact KeepsLists.command (.onDelivery (.dsq resetAtDsq_dsqOnly fun s _ => queuesInOrder_resetAtDsq s) _) fun _ => rfl
  | pacingTimerExpiry g =>
    exact KeepsLists.command (.ifDue (.dsq (fun s => pacingExpires_dsqOnly s g) fun s => queuesInOrder_pacingExpires))
      fun _ => rfl
  | zeroGapAttempt g =>
    exact KeepsLists.command (.ifDue (.dsq
      (fun s => (mapGroup_dsqOnly s g fun r => { r with zeroGap := false }).trans (attempt_dsqOnly _ g))
      fun s hs => queuesInOrder_attempt (queuesInOrder_mapGroup (fun _ => rfl) hs))) fun _ => rfl
  | rampEnd d =>
    exact KeepsLists.command (.doorDue (timer := DoorState.rampTimer) rfl (fun s => rampEnds_dsqOnly s d)
      fun s => queuesInOrder_rampEnds) fun _ => rfl
  | doorVerifyTimerExpiry d =>
    exact KeepsLists.command (.doorDue (timer := DoorState.verifyTimer) rfl (fun s => setDoor_dsqOnly s d _)
      fun s => queuesInOrder_setDoor) fun _ => rfl
  | dsqFeedbackBand l b =>
    exact KeepsLists.command (.onDelivery (.dsq (fun s => feedbackAtDsq_dsqOnly s l b)
      fun s => queuesInOrder_feedbackAtDsq l b) _) fun _ => rfl
  | takeoverRequestAsserted g =>
    have hline : KeepsLists fun u => u.mapGroup g fun r => { r with request := true } := fun s hs =>
      hs.of_dsqOnly (mapGroup_dsqOnly s g _) (queuesInOrder_mapGroup (fun _ => rfl) hs.queues)
    exact KeepsLists.command (.ite .id (.ite hline (.dsq
      (fun s => (mapGroup_dsqOnly s g fun r => { r with request := true }).trans (takeRequest_dsqOnly _ g))
      fun s hs => queuesInOrder_takeRequest (queuesInOrder_mapGroup (fun _ => rfl) hs)))) fun _ => rfl
  | takeoverRequestReleased g =>
    have hline : KeepsLists fun u => u.mapGroup g fun r => { r with request := false } := fun s hs =>
      hs.of_dsqOnly (mapGroup_dsqOnly s g _) (queuesInOrder_mapGroup (fun _ => rfl) hs.queues)
    refine KeepsLists.command (.ite .id (.ite hline (.dsq (fun s => ?_) fun s hs => ?_))) fun _ => rfl
    · split
      · exact (mapGroup_dsqOnly s g _).trans (handBack_dsqOnly _ g)
      · exact mapGroup_dsqOnly s g _
    · have hreleased := queuesInOrder_mapGroup (g := g) (f := fun r => { r with request := false }) (fun _ => rfl) hs
      split
      · exact queuesInOrder_handBack hreleased
      · exact hreleased
  | takeoverDriveChange g level =>
    exact KeepsLists.command (fun s hs => hs.of_dsqOnly
      (mapGroup_dsqOnly s g fun r => { r with drive := level }) (queuesInOrder_mapGroup (fun _ => rfl) hs.queues)) fun _ => rfl
  -- Cue Engine
  | cuePhaseChange fs => exact KeepsLists.command (.onDelivery (.cue fun s => recomputeFire_chrOnly s _) _) fun _ => rfl
  | cueAlarmEntry | cueSilenceChange | cueRegimeReset =>
    exact KeepsLists.command (.onDelivery (.cue fun s => recomputeFire_chrOnly s _) _) fun _ => rfl
  | liveSlotWrite z w => exact KeepsLists.command (.onDelivery (.cue fun s => setDemand_chrOnly s z _) _) fun _ => rfl
  | tenantSlotWrite z w => exact KeepsLists.command (.onDelivery (.cue fun s => setDemand_chrOnly s z _) _) fun _ => rfl
  -- Channel Router
  | programmeHanded d n i => exact KeepsLists.command (.onDelivery (.chr fun s => programmeTaken_chrOnly s d n) _) fun _ => rfl
  | tenantProgrammeHanded k q i =>
    exact KeepsLists.command (.onDelivery (.chr fun s => tenantTaken_chrOnly s k q i) _) fun _ => rfl
  | chrAlarmEntry => exact KeepsLists.command (.onDelivery (.chr suspendIdling_chrOnly) _) fun _ => rfl
  | chrRegimeReset => exact KeepsLists.command (.onDelivery (.chr resumeIdling_chrOnly) _) fun _ => rfl
  | chrListAppend f => exact KeepsLists.command (.onDelivery (.chr remonitor_chrOnly) _) fun _ => rfl
  | chrPortLoss p => exact KeepsLists.command (.onDelivery (.chr fun s => portLostAtChr_chrOnly s p) _) fun _ => rfl
  | warmUpExpiry c => exact KeepsLists.command (.ifDue (.chr fun s => warmUpEnds_chrOnly s c)) fun _ => rfl
  | idleTimerExpiry c => exact KeepsLists.command (.ifDue (.chr fun s => mapChannel_chrOnly s c _)) fun _ => rfl
  | blockBoundary c => exact KeepsLists.command (.ifDue (.chr fun s => boundaryAt_chrOnly s c)) fun _ => rfl
  | memoryReadComplete =>
    intro s t h hs
    cases h
    split
    · exact hs
    · exact KeepsLists.chr (fun s => readDelivered_chrOnly s _) s hs
  | memoryReadFailed =>
    intro s t h hs
    cases h
    split
    · exact hs
    · exact KeepsLists.chr (fun s => readFails_chrOnly s _) s hs
  | liveBlockComplete l =>
    exact KeepsLists.command (.ifDue (.of_same fun s => (liveBlockTaken_chrOnly s l).lists)) fun _ => rfl
  | underrunRemoval c => exact KeepsLists.command (.onDelivery (.chr fun s => mapChannel_chrOnly s c _) _) fun _ => rfl
  -- Tenant Queue
  | agingTimerExpiry t =>
    exact KeepsLists.command (.ifDue (.tnq (fun s => ageEntry_tnqOnly s t) fun s => tenantsFit_ageEntry t)) fun _ => rfl
  | tnqChannelFree =>
    exact KeepsLists.command (.onDelivery (.tnq admissionScan_tnqOnly fun s => tenantsFit_admissionScan) _) fun _ => rfl
  | tenantRefusal t =>
    exact KeepsLists.command (.onDelivery (.tnq (fun s => onPlaying_tnqOnly s t _ fun e u => refused_tnqOnly u e)
      fun s => tenantsFit_onPlaying t fun e _ => tenantsFit_refused e) _) fun _ => rfl
  | tenantCompletion t =>
    exact KeepsLists.command (.onDelivery (.tnq (fun s => onPlaying_tnqOnly s t _ fun e u => completed_tnqOnly u e)
      fun s => tenantsFit_onPlaying t tenantsFit_completed) _) fun _ => rfl
  | tenantPreEmption t | tenantProgrammeEmptied t =>
    exact KeepsLists.command (.onDelivery (.tnq (fun s => onPlaying_tnqOnly s t _ fun e u => cutShort_tnqOnly u e)
      fun s => tenantsFit_onPlaying t tenantsFit_cutShort) _) fun _ => rfl
  | tnqAlarmFlush =>
    exact KeepsLists.command (.onDelivery (.tnq flush_tnqOnly fun s _ => tenantsFit_flush s) _) fun _ => rfl
  -- Trouble List
  | troubleRaise k n =>
    exact KeepsLists.command (.onDelivery (.trl (fun s => troubleRaised_trlOnly s k n) fun s => troublesFit_raised k n) _)
      fun _ => rfl
  | troubleClear k n =>
    exact KeepsLists.command (.onDelivery (.trl (fun s => troubleCleared_trlOnly s k n) fun s => troublesFit_cleared k n) _)
      fun _ => rfl
  | trlAcknowledge =>
    exact KeepsLists.command (.onDelivery (.trl acknowledgeAll_trlOnly fun s => troublesFit_acknowledged) _) fun _ => rfl
  -- Ports
  | supervisionTimerExpiry p =>
    exact KeepsLists.command (.ifDue (.event (.of_same fun s => (losePort_linksOnly s p).lists) _)) fun _ => rfl
  | startGraceEnd => exact KeepsLists.command (.ifDue (.of_same graceEnds_lists)) fun _ => rfl
  | addressCharacter p b | frameStart p b | dataCharacter p b =>
    exact KeepsLists.command (.ifDue (hearCharacter_lists p b)) fun _ => rfl
  | receiveError p e b => exact KeepsLists.command (.ifDue (hearCharacter_lists p b)) fun _ => rfl
  | answerBegin a => exact KeepsLists.command (.ifDue (.of_same fun s => mapPort_lists _ _ s)) fun _ => rfl
  | answerSent a =>
    exact KeepsLists.command (.ifDue (.of_same fun s =>
      (mapPort_lists _ _ s).trans (startWrite_linksOnly _ a.port).lists)) fun _ => rfl
  -- Configuration Store
  | configurationKeyOn => exact KeepsLists.command (.ite .id (.cfs keyTurnedOn_cfsOnly)) fun _ => rfl
  | configurationKeyOff =>
    exact KeepsLists.command (.ifDue (.cfs fun s => (withCfs_cfsOnly s _).trans (endMode_cfsOnly _))) fun _ => rfl
  | cfsRegimeDelivery n => exact KeepsLists.command (.onDelivery (.cfs endMode_cfsOnly) _) fun _ => rfl
  -- Starts
  | eepromWriteEnd written =>
    intro s t h hs
    cases h
    split
    · exact hs
    · split
      · exact hs
      · split <;> exact coldStart_lists _ _ _ s
  | coldStart c e =>
    intro s t h hs
    cases h
    split
    · exact coldStart_lists _ _ _ s
    · split
      · exact coldStart_lists _ _ _ s
      · exact hs
  | warmRestart =>
    intro s t h hs
    cases h
    split
    · exact coldStart_lists _ _ _ s
    · split
      · exact hs
      · exact restarted_lists s hs
  -- Requests
  | poll | zoneReport | acknowledge | silence | resound | regimeReset | evacuateAll | cancelEvacuateAll | holdExpansion
  | releaseExpansion | isolateZone | restoreZone | takeManualControl | setFloorPhase | returnToAutomatic | recallBank
  | cancelRecall | authorisePhaseII | withdrawPhaseII | releaseAllDoors | monitorSelect | carReport | read
  | announceTenant | announceCancel | liveStart | liveStop | configureWrite | configureReadBack | configureCommit
  | configureDiscard => exact request_keepsLists rfl
  | unknownCommandCode | unknownAnnounceSubkind | unknownConfigureSubkind | unknownRequestKind =>
    exact KeepsLists.command (.ite .id (frameArrives_lists _ _ _)) fun _ => rfl

/-- What the part does by itself keeps the lists. -/
theorem ownStep_keepsLists {s t : State} (h : ownStep s = .next t) (hs : ListsFit s) : ListsFit t := by
  unfold ownStep at h
  split at h
  · exact exec_keepsLists _ s t h hs
  · split at h
    · exact exec_keepsLists _ s t h hs
    · cases h
      exact SameLists.fit (s := s) ⟨rfl, rfl, rfl, rfl⟩ hs

/-- Settles O7: each command keeps the lists, and so does what the part does by itself. -/
theorem stepKeepsListsInOrder : Obligations.StepKeepsListsInOrder := by
  intro s t htroubles htenants hqueues h
  have hs : ListsFit s := ⟨htroubles, htenants, hqueues⟩
  have ht : ListsFit t := by
    unfold step at h
    split at h
    · exact exec_keepsLists _ _ t h (SameLists.fit (s := s) ⟨rfl, rfl, rfl, rfl⟩ hs)
    · exact ownStep_keepsLists h hs
  exact ⟨ht.troubles, ht.tenants, ht.queues⟩

end Sys2Proof.Machine
end
